-- ==== Sys2Proof/Word.lean ====
section
/-! DEFINITION. The words of the KRS-9640: bytes, 16-, 32- and 64-bit words (R7, R10), and byte strings. -/
namespace Sys2Proof

abbrev Byte := BitVec 8
abbrev Half := BitVec 16
abbrev Word := BitVec 32
abbrev DWord := BitVec 64
/-- A byte string: a key, a value, a frame, a record, a message payload. -/
abbrev Bytes := List Byte

end Sys2Proof
end

