-- ==== Sys2Proof/Machine/Bits.lean ====
section
/-! DEFINITION. Byte order (R8), bit fields (R7), tables keyed by a number, and byte memories in one canonical form. -/
namespace Sys2Proof.Machine

/-! Byte order and fields. -/

/-- Little-endian value of a byte string: data on chip, in DRAM, flash and boot NOR (R8). -/
def leNat : Bytes → Nat
  | [] => 0
  | b :: t => b.toNat + 256 * leNat t

/-- Network (big-endian) value of a byte string: data on the wire (R8). -/
def beNat (b : Bytes) : Nat := leNat b.reverse

/-- `n` little-endian bytes of `v`. -/
def leBytes : Nat → Nat → Bytes
  | 0, _ => []
  | n + 1, v => BitVec.ofNat 8 v :: leBytes n (v / 256)

/-- `n` network-order bytes of `v`. -/
def beBytes (n v : Nat) : Bytes := (leBytes n v).reverse

/-- Bytes `[o, o + n)` of `b`. -/
def slice (b : Bytes) (o n : Nat) : Bytes := (b.drop o).take n

/-- Byte `o`, 0 past the end. -/
def byteAt (b : Bytes) (o : Nat) : Nat := ((b.drop o).headD 0).toNat

/-- Little-endian field of `n` bytes at offset `o`. -/
def leAt (b : Bytes) (o n : Nat) : Nat := leNat (slice b o n)

/-- Network-order field of `n` bytes at offset `o`. -/
def beAt (b : Bytes) (o n : Nat) : Nat := beNat (slice b o n)

/-- `b` padded with zeros, or cut, to `n` bytes. -/
def padTo (n : Nat) (b : Bytes) : Bytes := (b ++ List.replicate (n - b.length) 0).take n

/-- `b` with the bytes from offset `o` replaced by `v`, the length kept. -/
def patch (b : Bytes) (o : Nat) (v : Bytes) : Bytes :=
  (b.take o ++ v ++ b.drop (o + v.length)).take b.length

/-- `n` zero bytes. -/
def zeros (n : Nat) : Bytes := List.replicate n 0

/-- Bits `[lo + w - 1 : lo]` of `v`. -/
def bits (v lo w : Nat) : Nat := v / 2 ^ lo % 2 ^ w

/-- Bit `i` of `v`. -/
def bit (v i : Nat) : Bool := bits v i 1 == 1

/-- `v` with bits `[lo + w - 1 : lo]` set to `x`. -/
def setBits (v lo w x : Nat) : Nat :=
  v - bits v lo w * 2 ^ lo + x % 2 ^ w * 2 ^ lo

def b2n (b : Bool) : Nat := if b then 1 else 0

/-- Lexicographic order of byte strings, a proper beginning of a string first (R51). -/
def bytesLt : Bytes → Bytes → Bool
  | [], [] => false
  | [], _ :: _ => true
  | _ :: _, [] => false
  | a :: s, b :: t => if a = b then bytesLt s t else a.toNat < b.toNat

def isBeginOf (p k : Bytes) : Bool := k.take p.length == p

/-! Tables keyed by a number. -/

abbrev Map (α : Type) := List (Nat × α)

def mget {α : Type} (m : Map α) (k : Nat) : Option α :=
  match m with
  | [] => none
  | (j, v) :: t => if j = k then some v else mget t k

def mgetD {α : Type} (m : Map α) (k : Nat) (d : α) : α := (mget m k).getD d

/-- Insert in rising key order, replacing an entry of the same key. -/
def mset {α : Type} (m : Map α) (k : Nat) (v : α) : Map α :=
  match m with
  | [] => [(k, v)]
  | (j, w) :: t => if j = k then (k, v) :: t else if k < j then (k, v) :: (j, w) :: t else (j, w) :: mset t k v

def mdel {α : Type} (m : Map α) (k : Nat) : Map α := m.filter fun e => e.1 != k

def mhas {α : Type} (m : Map α) (k : Nat) : Bool := (mget m k).isSome

/-- Apply `f` to the entry of key `k` where there is one. -/
def mupd {α : Type} (m : Map α) (k : Nat) (f : α → α) : Map α :=
  match mget m k with
  | some v => mset m k (f v)
  | none => m

/-- The smallest number from `a` on, of `n` tried, with no entry. -/
def mfree {α : Type} (m : Map α) : Nat → Nat → Option Nat
  | _, 0 => none
  | a, n + 1 => if mhas m a then mfree m (a + 1) n else some a

/-! Byte memories: an unlisted address reads 0 (log entry 3). -/

abbrev Memory := List Host.Cell

/-- The canonical form: addresses strictly rising from `lo`, no listed byte 0. -/
def memWfFrom : Nat → Memory → Bool
  | _, [] => true
  | lo, (a, b) :: t => decide (lo ≤ a) && (b != 0) && memWfFrom (a + 1) t

/-- Strictly rising addresses and no entry equal to what an unlisted address reads as. -/
def Memory.wf (m : Memory) : Bool := memWfFrom 0 m

def memGet (m : Memory) (a : Nat) : Byte :=
  match m with
  | [] => 0
  | (j, b) :: t => if j = a then b else memGet t a

/-- Insert an entry in rising address order. -/
def memPut (m : Memory) (a : Nat) (b : Byte) : Memory :=
  match m with
  | [] => [(a, b)]
  | (j, c) :: t => if a < j then (a, b) :: (j, c) :: t else (j, c) :: memPut t a b

/-- Write one byte; writing 0 removes the entry. -/
def memSet (m : Memory) (a : Nat) (b : Byte) : Memory :=
  let r := m.filter fun c => c.1 != a
  if b = 0 then r else memPut r a b

def memRead (m : Memory) (a : Nat) : Nat → Bytes
  | 0 => []
  | n + 1 => memGet m a :: memRead m (a + 1) n

def memWrite (m : Memory) (a : Nat) : Bytes → Memory
  | [] => m
  | b :: t => memWrite (memSet m a b) (a + 1) t

/-- The memory without its bytes in `[lo, hi)`: they read 0 again. -/
def memZero (m : Memory) (lo hi : Nat) : Memory := m.filter fun c => c.1 < lo || hi ≤ c.1

/-- The first `len` bytes of store 0 copied into each of the 64 stores of `size` bytes. -/
def memSpread (m : Memory) (size len : Nat) : Memory :=
  let own := m.filter fun c => decide (c.1 < len)
  (List.range 64).flatMap (fun e => own.map (fun c => (e * size + c.1, c.2)) ++
    m.filter fun c => decide (e * size + len ≤ c.1) && decide (c.1 < (e + 1) * size)) ++ m.filter fun c => decide (64 * size ≤ c.1)

end Sys2Proof.Machine
end

