-- ==== Sys2Proof/Machine/RegCore.lean ====
section
/-! DEFINITION. How a register is described: access codes (R11), legal values (R13), 64-bit registers (R15). -/
namespace Sys2Proof.Machine

/-- Access codes of Table 0-6; reserved bits are those no field names. -/
inductive Acc | rw | ro | wo | w1c | w1s | rc
deriving DecidableEq, Repr

/-- The values a field accepts: R13, or the range its description states. -/
inductive Legal
  | any
  | range (lo hi : Nat)
  | oneOf (l : List Nat)
  | zeroOr (lo hi : Nat)
deriving DecidableEq, Repr

structure Fld where
  lo : Nat
  w : Nat
  acc : Acc
  legal : Legal
deriving DecidableEq, Repr

/-- `word`: 32 bits. `ctr`: a 64-bit clear-on-read counter. `ro64`, `rw64`: other 64-bit registers. -/
inductive RegKind | word | ctr | ro64 | rw64
deriving DecidableEq, Repr

/-- One row of a register map: `n` registers of `stride` bytes from `base`. `whole`: a write with an
out-of-range field leaves the whole register unchanged. -/
structure Reg where
  name : String
  base : Nat
  n : Nat
  stride : Nat
  kind : RegKind
  rst : Nat
  flds : List Fld
  whole : Bool
deriving DecidableEq, Repr

def fRW (hi lo : Nat) : Fld := ⟨lo, hi - lo + 1, .rw, .any⟩
def fRWr (hi lo a b : Nat) : Fld := ⟨lo, hi - lo + 1, .rw, .range a b⟩
def fRWe (hi lo : Nat) (l : List Nat) : Fld := ⟨lo, hi - lo + 1, .rw, .oneOf l⟩
def fRWz (hi lo a b : Nat) : Fld := ⟨lo, hi - lo + 1, .rw, .zeroOr a b⟩
def fRO (hi lo : Nat) : Fld := ⟨lo, hi - lo + 1, .ro, .any⟩
def fWO (hi lo : Nat) : Fld := ⟨lo, hi - lo + 1, .wo, .any⟩
def fW1C (hi lo : Nat) : Fld := ⟨lo, hi - lo + 1, .w1c, .any⟩
def fW1S (hi lo : Nat) : Fld := ⟨lo, hi - lo + 1, .w1s, .any⟩
def fRC (hi lo : Nat) : Fld := ⟨lo, hi - lo + 1, .rc, .any⟩

/-- A 32-bit register. -/
def reg (base : Nat) (name : String) (rst : Nat) (flds : List Fld) : Reg := ⟨name, base, 1, 4, .word, rst, flds, false⟩
/-- A 32-bit register whose out-of-range write leaves it unchanged. -/
def regW (base : Nat) (name : String) (rst : Nat) (flds : List Fld) : Reg := ⟨name, base, 1, 4, .word, rst, flds, true⟩
/-- `n` 32-bit registers, `stride` bytes apart. -/
def regN (base n stride : Nat) (name : String) (rst : Nat) (flds : List Fld) : Reg := ⟨name, base, n, stride, .word, rst, flds, false⟩
/-- A read-only 32-bit register. -/
def regRO (base : Nat) (name : String) (rst : Nat := 0) : Reg := reg base name rst [fRO 31 0]
def ctr (base : Nat) (name : String) : Reg := ⟨name, base, 1, 8, .ctr, 0, [], false⟩
def ctrN (base n stride : Nat) (name : String) : Reg := ⟨name, base, n, stride, .ctr, 0, [], false⟩
def ro64 (base : Nat) (name : String) : Reg := ⟨name, base, 1, 8, .ro64, 0, [], false⟩
def ro64N (base n stride : Nat) (name : String) : Reg := ⟨name, base, n, stride, .ro64, 0, [], false⟩
def rw64 (base : Nat) (name : String) : Reg := ⟨name, base, 1, 8, .rw64, 0, [], false⟩
def rw64N (base n stride : Nat) (name : String) : Reg := ⟨name, base, n, stride, .rw64, 0, [], false⟩

/-- Does register `r` cover address `a`? The register's own address (the low word's for 64 bits). -/
def Reg.cover (r : Reg) (a : Nat) : Option Nat :=
  if r.base ≤ a ∧ a < r.base + r.n * r.stride then
    let o := (a - r.base) % r.stride
    if o = 0 then some a
    else if o = 4 ∧ r.kind ≠ .word then some (a - 4) else none
  else none

/-- The register at address `a` and its own address. -/
def findReg : List Reg → Nat → Option (Reg × Nat)
  | [], _ => none
  | r :: t, a => match r.cover a with
    | some b => some (r, b)
    | none => findReg t a

def Legal.okay (l : Legal) (v : Nat) : Bool :=
  match l with
  | .any => true
  | .range a b => decide (a ≤ v) && decide (v ≤ b)
  | .oneOf l => l.contains v
  | .zeroOr a b => v == 0 || (decide (a ≤ v) && decide (v ≤ b))

/-- The value of one field after a write of `v` over `old`, `ev` the bits hardware sets in the same cycle (R11, R12, R13). -/
def Fld.written (f : Fld) (old v ev : Nat) : Nat :=
  let o := bits old f.lo f.w
  let n := bits v f.lo f.w
  match f.acc with
  | .rw => if f.legal.okay n then n else o
  | .ro => o
  | .wo => 0
  | .rc => o ||| bits ev f.lo f.w
  | .w1c => (o &&& (2 ^ f.w - 1 - n)) ||| bits ev f.lo f.w
  | .w1s => o ||| n

def Fld.bad (f : Fld) (v : Nat) : Bool := f.acc == .rw && !f.legal.okay (bits v f.lo f.w)

/-- All the fields of a register after a write; bits no field names stay as they are. -/
def writeFlds : List Fld → Nat → Nat → Nat → Nat → Nat
  | [], _, _, _, acc => acc
  | f :: t, old, v, ev, acc => writeFlds t old v ev (setBits acc f.lo f.w (f.written old v ev))

/-- The register's value after a write of `v` (R11 to R13). -/
def Reg.afterWrite (r : Reg) (old v ev : Nat) : Nat :=
  if r.whole && r.flds.any (·.bad v) then old else writeFlds r.flds old v ev old

/-- What a read returns: write-only fields and reserved bits read 0. -/
def readFlds : List Fld → Nat → Nat → Nat
  | [], _, acc => acc
  | f :: t, v, acc => readFlds t v (if f.acc = .wo then acc else setBits acc f.lo f.w (bits v f.lo f.w))

/-- The bits a read clears. -/
def rcMask : List Fld → Nat → Nat
  | [], acc => acc
  | f :: t, acc => rcMask t (if f.acc = .rc then setBits acc f.lo f.w (2 ^ f.w - 1) else acc)

end Sys2Proof.Machine
end

