-- ==== Sys2Proof/Machine/TypesOperator.lean ====
section
/-! DEFINITION. Plain data of the operator plane: modes and power, Fence, configuration sets, Keeper, Trail (chapters 11 to 13). -/
namespace Sys2Proof.Machine

/-- The twelve modes of Table 11-1. -/
inductive Mode | off | recovery | boot | heel | serve | doze | nap | sit | drain | brace | test | fault
deriving DecidableEq, Repr

/-- What an ECC-protected read found. -/
inductive Ecc | good | corrected | bad
deriving DecidableEq, Repr

/-! Fence (chapter 12). -/

/-- One 64-byte Fence entry: type, header of Table 12-2 and up to 48 payload bytes. -/
structure FPart where
  typ : Nat
  first : Bool
  last : Bool
  reply : Bool
  part : Nat
  len : Nat
  tag : Nat
  data : Bytes
  /-- SSTOP, SENGINE and STHREAD of the sender (R479), 0 for the Keeper. -/
  sender : Nat
deriving DecidableEq, Repr

/-- A whole message assembled from its parts (R478). -/
structure FMsg where
  typ : Nat
  reply : Bool
  tag : Nat
  sender : Nat
  data : Bytes
deriving DecidableEq, Repr

/-- An EVENT the serving program keeps because the Fence refused it (R480). -/
structure KeptEvent where
  data : Bytes
  count : Nat
deriving DecidableEq, Repr

structure Fence where
  /-- Toward the serving plane, oldest first, at most 64 entries (R480). -/
  toS : List FPart
  /-- Toward the Keeper, oldest first, at most 64 entries. -/
  toK : List FPart
  /-- The sender holding the queue toward the Keeper (R479). -/
  hold : Option Nat
  /-- Senders whose later parts the stop discards after a hold timeout (R479). -/
  cut : List Nat
  /-- Messages waiting at their unit or thread for a free entry (R479, R480). -/
  waiting : List FPart
  /-- EVENTs kept by the serving program, at most 1,024, and the number dropped beyond (R480). -/
  kept : List KeptEvent
  keptLost : Nat
deriving DecidableEq, Repr

/-! Configuration sets (R493). -/

/-- One configuration set: records by section code × 65,536 + index (an unlisted record holds its default),
DIRECTORY entries, and the epoch. -/
structure CfgSet where
  epoch : Nat
  recs : Map Bytes
  dir : List Bytes
deriving DecidableEq, Repr

/-- One half of the persistent configuration area (R498). -/
structure NorHalf where
  valid : Bool
  serial : Nat
  set : CfgSet
  keeperRec : Bytes
deriving DecidableEq, Repr

/-- Who an operator message came from: channel (0 management port, 1 I3C, 2 operator session), source address and port, or
session and SEQ. `seq` of the management port is the COUNTER of the datagram. -/
structure OpSrc where
  chan : Nat
  addr : Bytes
  port : Nat
  sess : Nat
  seq : Nat
deriving DecidableEq, Repr

/-- What a persist in progress will write (R499): a set image, a Keeper record answered to a channel, or the COUNTER_HI that the
datagram with the named COUNTER raised (R486). -/
inductive Persist
  | image (set : CfgSet)
  | record (bytes : Bytes) (src : OpSrc) (tag : Nat)
  | counterHi (bytes : Bytes) (counter : Nat)
deriving DecidableEq, Repr

structure Cfg where
  active : CfgSet
  shadow : CfgSet
  prev : Option CfgSet
  /-- The commit waiting at step 4 of R495: its TAG and whether it carries START. -/
  waiting : Option (Nat × Bool)
  half0 : NorHalf
  half1 : NorHalf
  /-- The set being collected between PERSIST_BEGIN and PERSIST_END. -/
  incoming : Option CfgSet
  persisting : List Persist
deriving DecidableEq, Repr

/-! Keeper (chapter 12). -/

/-- A management datagram the Keeper has sent, or one waiting for a persist (R486, R487): `counter` is then that of the datagram it
answers. -/
structure Datagram where
  addr : Bytes
  port : Nat
  counter : Nat
  /-- An image datagram (R532), its one operation in `msgs`. -/
  image : Bool
  msgs : List Bytes
deriving DecidableEq, Repr

/-- A whole message of an operator channel that waits for the Keeper (R487, R533). `typ`: its type, or 0x70 for an image command,
which carries `arg`. -/
structure OpMsg where
  src : OpSrc
  typ : Nat
  tag : Nat
  arg : Nat
  data : Bytes
deriving DecidableEq, Repr

structure Keeper where
  /-- Runs verified firmware (R474). -/
  running : Bool
  /-- The Keeper record in force (Table 12-14). -/
  rcd : Bytes
  /-- Highest COUNTER accepted since the last operator-plane reset (R486). -/
  rxCounter : Option Nat
  txCounter : Nat
  /-- Source of the newest accepted datagram: ALARMs go there (R487). -/
  lastSrc : Option (Bytes × Nat)
  /-- Datagrams sent on the management port, newest first. -/
  sent : List Datagram
  /-- Replies to a datagram whose COUNTER_HI is still being persisted (R486). -/
  heldReplies : List Datagram
  /-- 64-byte replies waiting for an I3C private read (R488). -/
  i3cOut : List Bytes
  /-- Forwarded requests by the Keeper's TAG: their source and the operator's TAG (R484). -/
  tags : Map (OpSrc × Nat)
  nextTag : Nat
  /-- Messages taken from the channels, oldest first (R487, R533), and the parts of an unfinished I3C message. -/
  inbox : List OpMsg
  i3cParts : List FPart
  /-- Messages the Keeper will push toward the serving plane as entries free up. -/
  outQ : List FPart
  /-- The HANDLER_LOAD bytes received so far (R489). -/
  handlerIn : Bytes
  /-- Sources, TAGs and results of commits whose persist result is due (R499). -/
  commits : List (OpSrc × Nat × Bytes)
  /-- Time of the last watchdog kick (R475). -/
  kickAt : Nat
  /-- The program store of boot NOR (R500): trick entries by slot, and the operator handler. -/
  storeTricks : Map Bytes
  storeHandler : Option Bytes
  /-- A verified trick or handler waiting for its LOAD_RESULT. -/
  loading : Map Bytes
  /-- Time of the last Fence message from the serving plane (R483). -/
  heardAt : Nat
  /-- Set by the first SERVE_LOAD with GO (R483). -/
  heartbeats : Bool
deriving DecidableEq, Repr

/-! Trail (chapter 13). -/

/-- One 32-byte record of Table 13-1: a head record, or (`arg`) an argument record. -/
structure TRec where
  seq : Nat
  arg : Bool
  code : Nat
  wall : Nat
  boot : Nat
  tick : Nat
  src : Nat
  follow : Bool
  rep : Nat
  touch : Nat
  args : Bytes
deriving DecidableEq, Repr

/-- A record in the ring: open or closed (R507), written to NOR, flagged UNFLUSHED (R518). -/
structure RingRec where
  r : TRec
  opened : Bool
  written : Bool
  unflushed : Bool
deriving DecidableEq, Repr

/-- A programmed 256-byte page (R511, Table 13-2). -/
structure LogPage where
  recs : List TRec
  boot : Nat
  brace : Bool
deriving DecidableEq, Repr

/-- An append: path (own records of the Trail or the Keeper's), code, source, wall time (0: take TRL_WALL), count, 16 argument bytes. -/
structure TAppend where
  own : Bool
  code : Nat
  src : Nat
  wall : Nat
  count : Nat
  args : Bytes
deriving DecidableEq, Repr

structure Trail where
  /-- The ring, newest first, at most 16,384 records, or 8 under R517. -/
  ring : List RingRec
  /-- The two halves of the NOR log: page number to page (R510). -/
  half0 : Map LogPage
  half1 : Map LogPage
  cur : Nat
  pos : Nat
  /-- Blocks of the other half erased so far (R512). -/
  erased : Nat
  /-- Brace slots 0 to 3: used, and their pages (R514). -/
  slotUsed : List Bool
  slotPages : List (List LogPage)
  /-- The 8 last-word records, newest first (R517). -/
  lastWords : List TRec
  /-- The new lease end whose page is not yet programmed (R513). -/
  leaseNext : Option Nat
  /-- Appends waiting on a lease or on Trail start. -/
  waiting : List TAppend
  /-- What a finished NOR lookup found (R509). -/
  fromNor : Option TRec
  looking : Bool
  wallSet : Bool
  braceSkip : Bool
  /-- The Brace slot written last, and when its first page began (R514). -/
  braceAt : Option (Nat × Nat)
deriving DecidableEq, Repr

/-! Modes and power (chapter 11). -/

structure Power where
  /-- The mode without the conditions of R447. -/
  base : Mode
  prev : Mode
  brace : Bool
  fault : Bool
  drain : Bool
  sit : Bool
  /-- Bring-up step of Table 6-6, 0 to 8. -/
  step : Nat
  drainStep : Nat
  drainAfter : Nat
  wakeTo : Nat
  waking : Bool
  /-- VDD_AON within tolerance. -/
  aon : Bool
  /-- PORST_N high and no reset level: the operator plane runs. -/
  porstHigh : Bool
  /-- Held by the reset level of R467. -/
  dip : Bool
  /-- SVRST_OUT_N high. -/
  svRstOut : Bool
  svPgood : Bool
  svPwrFail : Bool
  /-- Serving clocks stopped (Nap). -/
  stopped : Bool
  /-- PFAIL_N low; PMON_SENSE in mV. -/
  pfail : Bool
  sense : Nat
  /-- Warning holds; the sense input is at or above warning plus hysteresis (Table 11-11). -/
  warn : Bool
  senseOk : Bool
  /-- A requested transition is in progress (R449). -/
  reqBusy : Bool
  /-- The Keeper has seen Test in a MODE_REPORT (R550). -/
  testSeen : Bool
deriving DecidableEq, Repr

structure BraceState where
  /-- The Brace sequence of Table 7-10 runs. -/
  running : Bool
  done : Bool
  since : Nat
  lowSense : Nat
  /-- Since when the return count of R466 runs. -/
  count : Option Nat
  /-- Faults that arose during Brace wait for its end (R450). -/
  pendingFault : Option (Nat × Nat)
  /-- Serving-plane codes that hold Serve off (R451): 1 DRAM_DEGRADED, 2 FLASH_BLANK, 3 FLASH_GEOMETRY, 4 CIPHER_SELFTEST, 6 SV_BIST_FAIL. -/
  codes : List Nat
  /-- The journal flush of R367 has not ended. -/
  sitFlush : Bool
  /-- A Fault or Drain runs the Brace sequence: what follows its end. -/
  after : Nat
deriving DecidableEq, Repr

end Sys2Proof.Machine
end

