-- ==== Sys2Proof/Machine/TypesData.lean ====
section
/-! DEFINITION. Plain data of the keyspace, the Fetch protocol, the Nose, the pack link and the storage path (chapters 02, 03, 04, 07). -/
namespace Sys2Proof.Machine

/-! Keyspace (chapter 02). -/

/-- One version of a key: a value or a tombstone (R53, R57). `jsn`: its journal record; `inRun`: held in a flash run. -/
structure Ver where
  version : Nat
  tomb : Bool
  value : Bytes
  jsn : Nat
  inRun : Bool
  /-- Both mirrors lost a line of its record before a run held it (R286, log entry 89). -/
  lost : Bool
deriving DecidableEq, Repr

/-- A key of a namespace. `vers`: newest first, older ones kept for snapshots (R67, R313). `pend`: the frame whose
write holds the key pending (R58, R59). `nose`: the address of its Nose entry. `bypass`: Nose-bypass (R171). -/
structure KeyRec where
  ns : Nat
  key : Bytes
  vers : List Ver
  pend : Option Nat
  nose : Option Nat
  bypass : Bool
deriving DecidableEq, Repr

/-- A namespace's counters: commit counter (R53), versions taken and not settled (R65), lease end (R290), and
versions granted to other Pack members and not settled: (member position, version) (R202). -/
structure NsState where
  counter : Nat
  unsettled : List Nat
  lease : Nat
  /-- The LEASE record not yet programmed. -/
  leaseNext : Option Nat
  granted : List (Nat × Nat)
  /-- Follower: highest version applied with no gap (R85). -/
  applied : Nat
  /-- After an unclean start a skip notice with the resumed counter precedes the first forward (R83). -/
  skip : Option Nat
  /-- Versions taken here whose forward is not due yet, and forwards that wait for a lower one: version, kind, key, value (R83). -/
  unsent : List Nat
  owed : List (Nat × Nat × Bytes × Bytes)
  /-- At a member that does not keep the counters: the highest version it has heard to be settled (R202). -/
  seen : Nat
deriving DecidableEq, Repr

structure Snap where
  id : Nat
  ns : Nat
  v : Nat
  at0 : Nat
  /-- At a member that does not keep the counters: how many snapshots at position 0 it stands for (R202). -/
  refs : Nat
deriving DecidableEq, Repr

/-- A scan cursor (R68, R121): owner session, limits, position (the last key returned), snapshot. -/
structure Cursor where
  id : Nat
  sess : Nat
  ns : Nat
  pfx : Bytes
  start : Bytes
  last : Option Bytes
  keysOnly : Bool
  snap : Option Nat
  v : Nat
  snapGone : Bool
  /-- The scan has reached another member of the Pack: its position, and its cursor there once it is open (R88). -/
  far : Option (Nat × Option Nat)
deriving DecidableEq, Repr

/-- A tenant's two token buckets (R80), in 1/1,500,000 operation and 1/1,500 byte; `none` while full (never charged). -/
structure Bucket where
  ops : Int
  byts : Int
deriving DecidableEq, Repr

/-- The mirror state toward one follower of one namespace (R83, R84). -/
structure Mirror where
  ns : Nat
  follower : Nat
  attached : Bool
  acked : Nat
  /-- Forwarded and not acknowledged: version, kind, key, value. -/
  backlog : List (Nat × Nat × Bytes × Bytes)
deriving DecidableEq, Repr

/-- A parsed operation (Table 3-2). -/
structure OpReq where
  opcode : Nat
  flags : Nat
  ns : Nat
  key : Bytes
  val : Bytes
  arg : Nat
deriving DecidableEq, Repr

structure Keyspace where
  keys : List KeyRec
  ns : Map NsState
  snaps : List Snap
  nextSnap : Nat
  cursors : List Cursor
  nextCursor : Nat
  buckets : Map Bucket
  mirrors : List Mirror
  /-- Frames with a proxied operation in flight (R82). -/
  proxied : List Nat
  /-- Operations sent to other devices over their inter-device sessions, newest first (R82, R83): device, operation. -/
  outReqs : List (Nat × OpReq)
deriving DecidableEq, Repr

/-! Fetch protocol (chapter 03). -/

structure OpRes where
  opcode : Nat
  flags : Nat
  status : Nat
  /-- The operation's NSID, echoed with a key length of 0. -/
  ns : Nat
  arg : Nat
  val : Bytes
deriving DecidableEq, Repr

/-- Where an executing write stands. -/
inductive WPhase
  /-- Waits for journal space or for the version lease (R74, R290). -/
  | waitJournal
  /-- Waits for the key to leave pending (R58, R59). -/
  | waitKey
  /-- Waits for a VER_GRANT (R88). -/
  | waitGrant
  /-- A PUT holds its version and has not reached the Nose. -/
  | taken
  /-- The key is pending under this write; its record is being written. -/
  | pending
  /-- A superseded PUT whose record is not yet held (R60). -/
  | superseded
deriving DecidableEq, Repr

/-- An entry other than a hole: order word (bits [159:4]), kind, associated data. -/
structure NEnt where
  order : Nat
  kind : Nat
  ad : Nat
deriving DecidableEq, Repr

/-- The write a frame is executing: what will be stored, its version and journal record. -/
structure Write where
  phase : WPhase
  ns : Nat
  key : Bytes
  tomb : Bool
  value : Bytes
  version : Nat
  jsn : Nat
  cls : Nat
  /-- The key's Nose entry before it was set pending (R58: restored when the write fails). -/
  prior : Option NEnt
deriving DecidableEq, Repr

/-- A write that has its result and waits for its durability point (R71, R129). -/
structure WDone where
  idx : Nat
  ns : Nat
  version : Nat
  jsn : Nat
  cls : Nat
  reached : Bool
deriving DecidableEq, Repr

inductive FPhase
  /-- Held under R104, or held for a busy session at the dispatcher (R254). -/
  | held
  /-- Handed to the dispatcher, not yet accepted by an engine. -/
  | intake
  | executing
  /-- Sent and waiting only for continuation frames, or done. -/
  | sent
deriving DecidableEq, Repr

/-- Who asked for the frame's operations: a client, or a Pack member's FWD_REQ (Table 4-21): its position and link tag, and the
request's context. -/
inductive FOrigin
  | client
  | member (pos tag tenant rights snapV : Nat)
deriving DecidableEq, Repr

/-- A value too long for one link frame, on its way between members in parts (R87, log entry 27): the tag that names the transfer, its
whole length, its version, and the bytes sent or received so far. -/
structure FarVal where
  tag : Nat
  total : Nat
  version : Nat
  data : Bytes
deriving DecidableEq, Repr

/-- A request frame inside the device. -/
structure Frame where
  sess : Nat
  seq : Nat
  clientTag : Nat
  port : Nat
  epoch : Nat
  phase : FPhase
  origin : FOrigin
  /-- The Ethernet frame as received (its addresses and tags shape the response, R93). -/
  raw : Bytes
  ops : List OpReq
  res : List OpRes
  status : Nat
  w : Option Write
  writes : List WDone
  /-- A segmented write whose data this frame completed (R135). -/
  seg : Option (OpReq × Bytes)
  /-- A segmented GET response still to be continued: value, version, next offset (R137). -/
  cont : Option (Bytes × Nat × Nat)
  /-- Tag failed or decryption pending: the frame's plaintext operation bytes. -/
  plain : Bytes
  arrived : Nat
  /-- Verified under the slot's SHADOW: a request of the old window (R112, R432). -/
  old : Bool
  /-- The engine thread that serves it. -/
  thread : Option Nat
  /-- The current operation waits: for a proxy (1), a Pack member (2), a horizon (3), the Keeper (4) or a Pack search (5). -/
  waits : Option Nat
  /-- The position a Pack search has found a key at, while a boundary is being moved (R89, R184): namespace, key, position. -/
  place : Option (Nat × Bytes × Nat)
  /-- The operation's value crosses the pack link in parts. -/
  far : Option FarVal
  /-- The cursor of the scan another member is filling a page of. -/
  scan : Option Nat
deriving DecidableEq, Repr

/-- Given to the dispatcher and not yet taken by an engine. -/
def Frame.isIntake (f : Frame) : Bool := match f.phase with
  | .intake => true
  | _ => false

/-- An open segmented transfer (R131 to R135). -/
structure Seg where
  first : Nat
  op : OpReq
  total : Nat
  data : Bytes
deriving DecidableEq, Repr

/-- A response as first sent (R106). -/
structure Replay where
  sess : Nat
  gen : Nat
  seq : Nat
  hdr : Bytes
  res : List OpRes
  raw : Bytes
deriving DecidableEq, Repr

/-- The old key's window kept for REKEY_GRACE_MS (R112). -/
structure OldWindow where
  gen : Nat
  tx : Nat
  done : List Nat
deriving DecidableEq, Repr

/-- A session table entry (R491). -/
structure Session where
  tenant : Nat
  rights : Nat
  cipher : Nat
  addr : Bytes
  port : Nat
  link : Bytes
  /-- By port: the tags of the last request accepted there (Table 9-5, mode 3). -/
  tags : Map Bytes
  /-- Highest SEQ executed, executed and skipped numbers of the window (R102 to R104). -/
  h : Nat
  done : List Nat
  skipped : List Nat
  /-- Numbers whose frame was refused for good under R104: they hold nothing back. -/
  refused : List Nat
  tx : Nat
  /-- The slot that holds its material, none while the material is in DRAM or being restored (R429, R436). -/
  slot : Option Nat
  /-- Opened on a client-chosen slot: never saved (R429). -/
  pinned : Bool
  old : Option OldWindow
  seg : Option Seg
  busy : Bool
  /-- Closing: no frame is accepted any more; `gone`: no response is sent either (R113, R114). -/
  closing : Bool
  gone : Bool
  /-- Stands for the operation a Pack member has forwarded (R87): it is in no table. -/
  pack : Bool
deriving DecidableEq, Repr

structure FetchSt where
  sessions : Map Session
  frames : Map Frame
  nextFrame : Nat
  /-- Oldest first (R107). -/
  replays : List Replay
deriving DecidableEq, Repr

/-! Nose, Retriever and pack link (chapter 04). -/

/-- Table 4-5. -/
structure NRes where
  found : Bool
  addr : Nat
  member : Nat
  kind : Nat
  count : Nat
  multi : Bool
  beyond : Bool
  ad : Nat
  /-- NSTATUS of Table 5-20: 0 OK, or a failure. -/
  status : Nat
deriving DecidableEq, Repr

inductive NOp
  | search (mask : Nat) (val : Nat)
  | next (mask : Nat) (val : Nat)
  | locate (word : Nat) (strict : Bool)
  | insert (order : Nat) (kind : Nat) (ad : Nat)
  | delete
  | adw (ad : Nat) (kind : Option Nat)
  /-- The operations that take no slot here (Table 4-6): KIND_WRITE, AD_READ, ADOPT, and the start of a Pack search. -/
  | kindWrite (kind : Nat)
  | adRead
  | adopt (cursor : Nat)
  | psearch (mask : Nat) (val : Nat)
deriving DecidableEq, Repr

/-- A request waiting at a team port (R162). `rd`: the destination register pair of the instruction. -/
structure NReq where
  thread : Nat
  rd : Nat
  op : NOp
  promoted : Bool
deriving DecidableEq, Repr

/-- The update sequence in progress (R164, R165): moves left, then the write of the new entry; FAB cycles until it asks for its next
slot. -/
structure NSeq where
  thread : Nat
  rd : Nat
  wait : Nat
  moves : List (Nat × Nat)
  final : Option (Nat × NEnt)
deriving DecidableEq, Repr

/-- A wide search in progress (R152): sub-searches done, the lowest match as it stood there (R154), matches so far. -/
structure NWide where
  thread : Nat
  rd : Nat
  mask : Nat
  val : Nat
  done : Nat
  lowest : Option (Nat × NEnt)
  count : Nat
deriving DecidableEq, Repr

/-- A hand-off cursor (R188): its address and since when. -/
structure HCur where
  id : Nat
  addr : Nat
deriving DecidableEq, Repr

/-- A Pack search outstanding at its requester (R196). -/
structure PSearch where
  thread : Nat
  rd : Nat
  num : Nat
  mask : Nat
  val : Nat
  again : Bool
  /-- The frame whose operation the serving program searches for (R184), in place of a thread's NPSRCH. -/
  frame : Option Nat
deriving DecidableEq, Repr

structure Nose where
  /-- Entries other than holes, by rising address. -/
  ents : Map NEnt
  cursors : Map Nat
  hcurs : List HCur
  reqs : List NReq
  seqn : Option NSeq
  wide : Option NWide
  wideInMs : Nat
  /-- FAB cycle within the leash window of 64, slots and re-space moves used in it. -/
  cyc : Nat
  used : Nat
  rspUsed : Nat
  /-- The block the re-space walk visits next, its moves in progress, and the hole they take. -/
  walk : Nat
  rsp : List (Nat × Nat)
  rspHole : Nat
  /-- By class: the team port served last (R162). -/
  rr : Map Nat
  /-- Slots that Pack releases, Retriever and the serving program have used within their own commands, and that the grants have not yet
  passed (R162, log entry 82). -/
  packSlots : Nat
  rtvSlots : Nat
  progSlots : Nat
  /-- Frames Retriever has accepted in this window of 15 FAB cycles (R163), its searches in this window of 8 (R178). -/
  rtvFrames : Nat
  rtvSearches : Nat
  ready : Bool
  /-- The leash level the temperature alone gives (R177). -/
  lvlTemp : Nat
  psearch : List PSearch
  nextNum : Nat
  /-- PACK_SYNC: slot counter since the last pulse. -/
  slotCtr : Nat
  /-- The PACK_SYNC output, which position 0 drives (R180). -/
  syncOut : Bool
  /-- MATCH_OUT_N is driven low (R181). -/
  matchOut : Bool
deriving DecidableEq, Repr

/-- A link frame (R197, Table 4-20). -/
structure LFrame where
  typ : Nat
  resp : Bool
  bcast : Bool
  dst : Nat
  src : Nat
  tag : Nat
  arg : Nat
  data : Bytes
  /-- Its trailer carries a wrong CRC. -/
  crcBad : Bool
deriving DecidableEq, Repr

/-- A link frame that arrives, as its flits of 16 bytes, and whether the input buffer is full (R197, R199). -/
structure LinkIn where
  flits : Bytes
  full : Bool
deriving DecidableEq, Repr

/-- A request this member sent and has no response for: resends so far; the frame that needs it (R198). -/
structure LReq where
  f : LFrame
  tries : Nat
  owner : Option Nat
deriving DecidableEq, Repr

structure Pack where
  /-- Frames sent by this member, newest first: own frames and relayed ones. -/
  out : List LFrame
  /-- Messages sent or relayed (search and result flits). -/
  outMsgs : List Bytes
  reqs : List LReq
  nextTag : Nat
  /-- Responses kept per source position: (source, tag, response), newest first (R198). -/
  kept : List (Nat × Nat × LFrame)
  /-- Positions whose matching HELLO has been heard, and HELLO device IDs. -/
  heard : List Nat
  devices : Map Nat
  /-- Versions granted to this member's frames: (frame, version). -/
  ownHello : Bool
  lossCount : Nat
  /-- Rounds of TRAIN this member has sent since the ring came up (Table 4-22, step 5). -/
  trainRounds : Nat
  /-- Segmented writes that members forward: source position, first tag, transfer (log entry 27). -/
  segs : List (Nat × Nat × Seg)
  /-- Values held for members that read them in parts: source position, tag, value (log entry 27). -/
  parts : List (Nat × Nat × Bytes)
  /-- The PACK record before the commit that is moving a boundary (R89, R184). -/
  moved : Option Bytes
deriving DecidableEq, Repr

/-! Storage path (chapter 07). -/

/-- A journal record (Table 7-1). `typ`: Table 7-2. -/
structure JRec where
  jsn : Nat
  typ : Nat
  ns : Nat
  key : Bytes
  version : Nat
  value : Bytes
  cls : Nat
  bypass : Bool
  applied : Bool
  line : Nat
  /-- Every byte of it is in the journal. -/
  complete : Bool
deriving DecidableEq, Repr

/-- A record of the hard log, and whether both copies of its page-sets are programmed (R287, R288). -/
structure HardRec where
  r : JRec
  programmed : Bool
deriving DecidableEq, Repr

/-- One entry of a run (Table 7-7). -/
structure RunEnt where
  ns : Nat
  key : Bytes
  version : Nat
  tomb : Bool
  value : Bytes
  old : Bool
  bypass : Bool
deriving DecidableEq, Repr

/-- A run (R307, Table 7-8). -/
structure Run where
  no : Nat
  level : Nat
  ents : List RunEnt
  jsnEnd : Nat
  boot : Nat
  replaced : List Nat
  segs : List Nat
deriving DecidableEq, Repr

/-- An index entry (Table 7-9) with the key it stands for. -/
structure IdxEnt where
  ns : Nat
  key : Bytes
  version : Nat
  tomb : Bool
  bypass : Bool
  journal : Bool
  loc : Nat
  /-- Length of the version's value. -/
  len : Nat
deriving DecidableEq, Repr

/-- A segment (R297, R300, R301): 0 erased, 1 open, 2 full, 3 retired. -/
structure Segm where
  state : Nat
  kind : Nat
  slc : Bool
  segSeq : Nat
  leaseEnd : Nat
  boot : Nat
  erases : Nat
  /-- An erase of it was stopped by RESET (R306). -/
  eraseStopped : Bool
deriving DecidableEq, Repr

/-- A Brace image (R321). -/
structure Image where
  no : Nat
  boot : Nat
  first : Nat
  last : Nat
  recs : List JRec
  valid : Bool
  /-- The segments it lies on. -/
  segs : List Nat
deriving DecidableEq, Repr

/-- A checkpoint (R323): index, commit counters and lease ends, retirements. -/
structure Checkpoint where
  runNo : Nat
  index : Map IdxEnt
  counters : List (Nat × Nat × Nat)
  retired : List Nat
  /-- Boot count of the stop, and the segments its footer lies on. -/
  boot : Nat
  segs : List Nat
deriving DecidableEq, Repr

/-- A flash job (Table 7-5): descriptor, the thread and ticket that wait for it, whether a LUN runs it. -/
structure FJob where
  id : Nat
  thread : Nat
  ticket : Nat
  desc : Bytes
  running : Bool
  /-- It holds the XTS slot in flight. -/
  bound : Bool
deriving DecidableEq, Repr

/-- A programmed codeword (R296): its 4,096 data bytes, and the XTS key and tweak it was enciphered under. -/
structure Cw where
  data : Bytes
  xts : Option (Bytes × Bytes)
deriving DecidableEq, Repr

/-- How a codeword's read ended (R305): at a retry level with so many bits corrected, rebuilt from parity, or lost. -/
inductive CwFate
  | read (step bits : Nat)
  | rebuilt (step bits : Nat)
  | lost
deriving DecidableEq, Repr

/-- A parity accumulator bound to a stripe (R304). -/
structure Accum where
  seg : Nat
  stripe : Nat
  data : Bytes
deriving DecidableEq, Repr

structure Storage where
  jrn : List JRec
  /-- Next line of the journal ring. -/
  nextLine : Nat
  hard : List HardRec
  runs : List Run
  /-- The DRAM index by entry number, bucket × 4 + slot; an entry not listed is empty or vacated (R308). -/
  index : Map IdxEnt
  nbuckets : Nat
  segs : Map Segm
  /-- Codewords on the media by segment × 2^18 + index, and parity page-sets by segment × 2^18 + stripe. -/
  media : Map Cw
  parity : Map Bytes
  images : List Image
  stop : Option Checkpoint
  flush : Option Nat
  nextRun : Nat
  nextSegSeq : Nat
  segLease : Nat
  boot : Nat
  jobs : List FJob
  nextJob : Nat
  /-- By controller × 8 + ACC_ID (R304). -/
  accums : Map Accum
  /-- Jobs ended with ABORTED at Brace, to be issued again (R466). -/
  aborted : List FJob
  /-- XTS setting and slot under which the flash data was written (R326). -/
  xts : Nat
  xtsSlot : Nat
  formatted : Bool
  /-- Channels whose interface sequence of R294 has not ended. -/
  initing : List Nat
  /-- Erased capacity left in the Brace area, in journal lines (R284, R318). -/
  braceErased : Nat
  /-- Segments the flash marks as factory bad (R301). -/
  badBlocks : List Nat
  /-- Die groups with an absent LUN (R295). -/
  lostGroups : List Nat
  /-- Log segments, oldest first, with the highest JSN each holds (R287, R289). -/
  log : List (Nat × Nat)
  /-- Next page-set of the last log segment; 0 where no log segment is open. -/
  logSet : Nat
  /-- Bytes of the first record that waits for the hard log which a full page-set already holds (R288). -/
  logDone : Nat
  /-- What the flash's parameter page gives: program and erase suspend, and the SLC program time in µs (R293, R319). -/
  suspend : Bool
  tSlc : Nat
  /-- Erased segments of the Brace area, in order of use (R318). -/
  braceFree : List Nat
  /-- The Brace segment being written, and its next page-set. -/
  braceSeg : Option (Nat × Nat)
  /-- No record has entered the journal since the STOP record (R56, log entry 79). -/
  stopFresh : Bool
  /-- By namespace: the first run of its present life; earlier runs hold keys of a namespace that was deleted (R53, R55). -/
  born : Map Nat
  /-- Followers detached from a namespace and not attached again by a commit (R84). -/
  detached : List (Nat × Nat)
deriving DecidableEq, Repr

end Sys2Proof.Machine
end

