-- ==== Sys2Proof/Machine/Operands.lean ====
section
/-! DEFINITION. The operand types of the commands: what happens outside the machine (a medium, a pin, a boot NOR program) comes
in with the command that meets it. -/
namespace Sys2Proof

/-- Where a write's execution goes next. -/
inductive WriteStep | start | nose | soft | fail
deriving DecidableEq, Repr

end Sys2Proof

namespace Sys2Proof.Machine

/-- What an engine's reads find in the check codes (R213): nothing amiss, or an error of this kind on the fetch, or on the data. -/
inductive Upset
  | none
  | fetch (e : Ecc)
  | data (e : Ecc)
deriving DecidableEq, Repr

/-- How a copy goes: to its end, a block that fails to match twice, or a supply loss or reset with this many blocks set. -/
inductive CopyFate
  | whole
  | fails (block : Nat)
  | cut (block : Nat)
deriving DecidableEq, Repr

/-- What happens outside the machine during a start: the Trail's ring tests good; its pages program and read back; the boot NOR's SFDP tables advertise octal DDR (R574); how
each image copy goes. -/
structure RomIn where
  ring : Bool
  page : Bool
  octal : Bool
  copies : List CopyFate
deriving DecidableEq, Repr

/-- What the lead engine finds in the flash parameter pages at bring-up: all that R293 asks for; suspend is advertised; t_SLC in µs (R319). -/
structure FlashPage where
  ok : Bool
  suspend : Bool
  tSlc : Nat
deriving DecidableEq, Repr

/-- PORST_N moves: it falls, or is released with the straps as sampled. -/
inductive PorstEdge
  | falls
  | rises (recovery testEn mgtSel : Bool) (rom : RomIn)
deriving DecidableEq, Repr

/-- What a port meets with a frame: `good`: its FCS is right, no error character stands in it and no loss of link cut it (R377); `room`: the
spill path accepts its cells in time (R385); the FEC codewords since the port's frame before, received, corrected and not corrected, and the
symbols corrected; `hit`: a codeword not corrected touches this frame (R373). -/
structure RxIn where
  good : Bool
  room : Bool
  cw : Nat
  corr : Nat
  uncorr : Nat
  sym : Nat
  hit : Bool
deriving DecidableEq, Repr

/-- What boot NOR and the ring do at a register write that starts them: an image change, a page program, a ring read. -/
structure WriteIn where
  rom : RomIn
  nor : Bool
  ecc : Ecc
deriving DecidableEq, Repr

end Sys2Proof.Machine
end

