-- ==== Sys2Proof/Syntax.lean ====
section
/-! DEFINITION. The commands: one constructor for each row of the command table, in its order. `t` is a hardware thread, `id` a frame,
`m` a team; an operand that stands for what happens outside the machine says so in Machine/Operands.lean. -/
namespace Sys2Proof
open Sys2Proof.Machine

/-- The commands (spec/opcode_table.json). -/
inductive Instr
  /-- REGISTER_WRITE (R11). -/
  | registerWrite (i : WriteIn) (a v : Word)
  /-- RC_READ (R12). -/
  | rcRead (a : Word)
  /-- COUNTER_LOW_READ (R15). -/
  | counterLowRead (a : Word)
  /-- COUNTER_HIGH_READ (R15). -/
  | counterHighRead (a : Word)
  /-- MAC_RX_FRAME (R380). -/
  | macRxFrame (p : Fin 2) (raw : Bytes) (w : RxIn)
  /-- RETRIEVER_FRAME (R185). -/
  | retrieverFrame (p : Fin 2) (full : Bool) (ecc : Ecc)
  /-- CONTEXT_RESTORE (R431). -/
  | contextRestore (p : Fin 2)
  /-- CONTEXT_RESTORE_DONE (R431). -/
  | contextRestoreDone (sid : Fin 65536) (ok : Bool)
  /-- RESTORE_TIMEOUT (R431). -/
  | restoreTimeout
  /-- DISPATCH_DELIVERY (R252). -/
  | dispatchDelivery
  /-- MESSAGE_ARRIVAL (R226). -/
  | messageArrival (e : Fin 64)
  /-- DISPATCH_GIVE_UP (R256). -/
  | dispatchGiveUp
  /-- ROLE_ASSIGN (R247). -/
  | roleAssign (e : Fin 64) (role : BitVec 4)
  /-- ROLE_CHANGE (R249). -/
  | roleChange (e : Fin 64)
  /-- ROLE_CHANGE_ACK (R247). -/
  | roleChangeAck (e : Fin 64)
  /-- STOPPED (R258). -/
  | stopped
  /-- SESSION_RELEASE (R254). -/
  | sessionRelease (sid : Fin 65536)
  /-- FETCH_FRAME_ACCEPT (R100). -/
  | fetchFrameAccept (id : Nat) (t : Fin 256)
  /-- HOLD_TIMEOUT_EXPIRY (R104). -/
  | holdTimeoutExpiry (sid : Fin 65536)
  /-- GET (R117). -/
  | get (id : Nat) (bad : Bool)
  /-- PUT (R60). -/
  | put (id : Nat) (st : WriteStep)
  /-- DELETE (R120). -/
  | delete (id : Nat) (st : WriteStep)
  /-- CAS (R118). -/
  | cas (id : Nat) (st : WriteStep)
  /-- FETCH_ADD (R119). -/
  | fetchAdd (id : Nat) (st : WriteStep)
  /-- APPEND (R120). -/
  | append (id : Nat) (st : WriteStep)
  /-- HEAD (R117). -/
  | head (id : Nat) (bad : Bool)
  /-- SCAN (R121). -/
  | scan (id : Nat) (bad : Bool)
  /-- SCAN_NEXT (R121). -/
  | scanNext (id : Nat) (bad : Bool)
  /-- BARRIER (R125). -/
  | barrier (id : Nat)
  /-- TRICK (R272). -/
  | trick (id : Nat) (t : Fin 256)
  /-- PING (R128). -/
  | ping (id : Nat)
  /-- SEGMENT_FIRST (R133). -/
  | segmentFirst (id : Nat)
  /-- SEG (R134). -/
  | seg (id : Nat)
  /-- SEG_TIMEOUT_EXPIRY (R134). -/
  | segTimeoutExpiry (sess : Fin 65536)
  /-- REKEY (R111). -/
  | rekey (id : Nat)
  /-- CLOSE (R113). -/
  | close (id : Nat)
  /-- DIR_UPDATE (R81). -/
  | dirUpdate (id : Nat)
  /-- MIRROR_FWD_VALUE (R85). -/
  | mirrorFwdValue (id : Nat)
  /-- MIRROR_FWD_TOMBSTONE (R85). -/
  | mirrorFwdTombstone (id : Nat)
  /-- MIRROR_FWD_BURNT (R83). -/
  | mirrorFwdBurnt (id : Nat)
  /-- MIRROR_FWD_SKIP (R83). -/
  | mirrorFwdSkip (id : Nat)
  /-- PACK_FWD (R87). -/
  | packFwd (id : Nat)
  /-- CFG_READ (R139). -/
  | cfgRead (id : Nat)
  /-- JOURNAL_WAIT_TIMEOUT (R74). -/
  | journalWaitTimeout (id : Nat)
  /-- MIRROR_ACK (R83). -/
  | mirrorAck (ns : BitVec 12) (follower : BitVec 14) (v : DWord)
  /-- MIRROR_TIMEOUT_EXPIRY (R83). -/
  | mirrorTimeoutExpiry (id idx : Nat)
  /-- PROXY_RESPONSE (R82). -/
  | proxyResponse (id : Nat) (status : Byte) (cls : BitVec 2) (arg : DWord) (val : Bytes)
  /-- SNAPSHOT_EXPIRY (R67). -/
  | snapshotExpiry (n : Nat)
  /-- CURSOR_IDLE_EXPIRY (R68). -/
  | cursorIdleExpiry (n : Nat)
  /-- REKEY_GRACE_EXPIRY (R112). -/
  | rekeyGraceExpiry (sid : Fin 65536)
  /-- FRAME_RESPONSE (R129). -/
  | frameResponse (id : Nat)
  /-- GET_CONTINUATION (R137). -/
  | getContinuation (id : Nat)
  /-- NOSE_SLOT_GRANT (R162). -/
  | noseSlotGrant (ecc : Ecc)
  /-- SLOT_REQUEST_PROMOTE (R162). -/
  | slotRequestPromote
  /-- WIDE_WINDOW_RESET (R152). -/
  | wideWindowReset
  /-- NOSE_SCRUB (R175). -/
  | noseScrub (ecc : Ecc)
  /-- LEASH_SAMPLE (R177). -/
  | leashSample (temp : BitVec 8)
  /-- HANDOFF_CURSOR_EXPIRY (R188). -/
  | handoffCursorExpiry (id : Fin 64)
  /-- NOSE_INIT_COMPLETE (R176). -/
  | noseInitComplete
  /-- PACK_SYNC_PULSE (R180). -/
  | packSyncPulse
  /-- PACK_SYNC_LOSS (R183). -/
  | packSyncLoss
  /-- SEARCH_MESSAGE (R183). -/
  | searchMessage (m : Bytes) (matchIn late : Bool) (ecc : Ecc)
  /-- RESULT_MESSAGE (R196). -/
  | resultMessage (m : Bytes)
  /-- PACK_RESULT_TIMEOUT (R196). -/
  | packResultTimeout (num : BitVec 13)
  /-- LINK_FRAME_RELAY (R197). -/
  | linkFrameRelay (flits : Bytes)
  /-- FWD_REQ (R87). -/
  | fwdReq (i : LinkIn)
  /-- FWD_RESP (R87). -/
  | fwdResp (i : LinkIn)
  /-- VER_REQ (R202). -/
  | verReq (i : LinkIn)
  /-- VER_GRANT (R202). -/
  | verGrant (i : LinkIn)
  /-- SETTLE (R202). -/
  | settle (i : LinkIn)
  /-- SETTLE_ACK (R198). -/
  | settleAck (i : LinkIn)
  /-- HORIZON_REQ (R202). -/
  | horizonReq (i : LinkIn)
  /-- HORIZON (R202). -/
  | horizon (i : LinkIn)
  /-- SNAP_NOTE (R202). -/
  | snapNote (i : LinkIn)
  /-- HELLO (R200). -/
  | hello (i : LinkIn)
  /-- HELLO_SEND (R200). -/
  | helloSend
  /-- HELLO_TIMEOUT (R201). -/
  | helloTimeout (pos : Fin 8)
  /-- TRAIN (R200). -/
  | train (i : LinkIn) (last : Bool)
  /-- PCK_RETRY_EXPIRY (R198). -/
  | pckRetryExpiry (tag : Word)
  /-- PACK_LANE_LOCK_LOST (R194). -/
  | packLaneLockLost (lane : Fin 4)
  /-- PACK_LINK_ENABLE (R200). -/
  | packLinkEnable
  /-- PACK_ALIGNED (R200). -/
  | packAligned
  /-- PACK_UP_TIMEOUT (R200). -/
  | packUpTimeout
  /-- PACK_ABSENT_BURN (R202). -/
  | packAbsentBurn (pos : Fin 8)
  /-- THREAD_RUN_SET (R216). -/
  | threadRunSet (t : Fin 256)
  /-- THREAD_RUN_CLEAR (R216). -/
  | threadRunClear (t : Fin 256)
  /-- ADD (R217). -/
  | add (t : Fin 256) (rd rs1 rs2 : Fin 32)
  /-- SUB (R217). -/
  | sub (t : Fin 256) (rd rs1 rs2 : Fin 32)
  /-- AND (R217). -/
  | and (t : Fin 256) (rd rs1 rs2 : Fin 32)
  /-- OR (R217). -/
  | or (t : Fin 256) (rd rs1 rs2 : Fin 32)
  /-- XOR (R217). -/
  | xor (t : Fin 256) (rd rs1 rs2 : Fin 32)
  /-- ANDN (R217). -/
  | andn (t : Fin 256) (rd rs1 rs2 : Fin 32)
  /-- SLL (R217). -/
  | sll (t : Fin 256) (rd rs1 rs2 : Fin 32)
  /-- SRL (R217). -/
  | srl (t : Fin 256) (rd rs1 rs2 : Fin 32)
  /-- SRA (R217). -/
  | sra (t : Fin 256) (rd rs1 rs2 : Fin 32)
  /-- SLT (R217). -/
  | slt (t : Fin 256) (rd rs1 rs2 : Fin 32)
  /-- SLTU (R217). -/
  | sltu (t : Fin 256) (rd rs1 rs2 : Fin 32)
  /-- MIN (R217). -/
  | min (t : Fin 256) (rd rs1 rs2 : Fin 32)
  /-- MAX (R217). -/
  | max (t : Fin 256) (rd rs1 rs2 : Fin 32)
  /-- MINU (R217). -/
  | minu (t : Fin 256) (rd rs1 rs2 : Fin 32)
  /-- MAXU (R217). -/
  | maxu (t : Fin 256) (rd rs1 rs2 : Fin 32)
  /-- MUL (R218). -/
  | mul (t : Fin 256) (rd rs1 rs2 : Fin 32)
  /-- MULH (R218). -/
  | mulh (t : Fin 256) (rd rs1 rs2 : Fin 32)
  /-- MULHU (R218). -/
  | mulhu (t : Fin 256) (rd rs1 rs2 : Fin 32)
  /-- DIV (R219). -/
  | div (t : Fin 256) (rd rs1 rs2 : Fin 32)
  /-- DIVU (R219). -/
  | divu (t : Fin 256) (rd rs1 rs2 : Fin 32)
  /-- REM (R219). -/
  | rem (t : Fin 256) (rd rs1 rs2 : Fin 32)
  /-- REMU (R219). -/
  | remu (t : Fin 256) (rd rs1 rs2 : Fin 32)
  /-- CLZ (R218). -/
  | clz (t : Fin 256) (rd rs1 : Fin 32)
  /-- CTZ (R218). -/
  | ctz (t : Fin 256) (rd rs1 : Fin 32)
  /-- POPC (R218). -/
  | popc (t : Fin 256) (rd rs1 : Fin 32)
  /-- BSWAP (R218). -/
  | bswap (t : Fin 256) (rd rs1 : Fin 32)
  /-- BSWAPW (R218). -/
  | bswapw (t : Fin 256) (rd rs1 : Fin 32)
  /-- BSWAPH (R218). -/
  | bswaph (t : Fin 256) (rd rs1 : Fin 32)
  /-- SEXTB (R218). -/
  | sextb (t : Fin 256) (rd rs1 : Fin 32)
  /-- SEXTH (R218). -/
  | sexth (t : Fin 256) (rd rs1 : Fin 32)
  /-- SEXTW (R218). -/
  | sextw (t : Fin 256) (rd rs1 : Fin 32)
  /-- ZEXTW (R218). -/
  | zextw (t : Fin 256) (rd rs1 : Fin 32)
  /-- ADDI (R217). -/
  | addi (t : Fin 256) (rd rs1 : Fin 32) (imm : Half)
  /-- ANDI (R217). -/
  | andi (t : Fin 256) (rd rs1 : Fin 32) (imm : Half)
  /-- ORI (R217). -/
  | ori (t : Fin 256) (rd rs1 : Fin 32) (imm : Half)
  /-- XORI (R217). -/
  | xori (t : Fin 256) (rd rs1 : Fin 32) (imm : Half)
  /-- SLTI (R217). -/
  | slti (t : Fin 256) (rd rs1 : Fin 32) (imm : Half)
  /-- SLTIU (R217). -/
  | sltiu (t : Fin 256) (rd rs1 : Fin 32) (imm : Half)
  /-- SLLI (R217). -/
  | slli (t : Fin 256) (rd rs1 : Fin 32) (sh : Fin 64)
  /-- SRLI (R217). -/
  | srli (t : Fin 256) (rd rs1 : Fin 32) (sh : Fin 64)
  /-- SRAI (R217). -/
  | srai (t : Fin 256) (rd rs1 : Fin 32) (sh : Fin 64)
  /-- LUI (R217). -/
  | lui (t : Fin 256) (rd : Fin 32) (imm : Half)
  /-- LB (R210). -/
  | lb (t : Fin 256) (rd rs1 : Fin 32) (imm : Half) (up : Upset)
  /-- LBU (R210). -/
  | lbu (t : Fin 256) (rd rs1 : Fin 32) (imm : Half) (up : Upset)
  /-- LH (R210). -/
  | lh (t : Fin 256) (rd rs1 : Fin 32) (imm : Half) (up : Upset)
  /-- LHU (R210). -/
  | lhu (t : Fin 256) (rd rs1 : Fin 32) (imm : Half) (up : Upset)
  /-- LW (R210). -/
  | lw (t : Fin 256) (rd rs1 : Fin 32) (imm : Half) (up : Upset)
  /-- LWU (R210). -/
  | lwu (t : Fin 256) (rd rs1 : Fin 32) (imm : Half) (up : Upset)
  /-- LD (R210). -/
  | ld (t : Fin 256) (rd rs1 : Fin 32) (imm : Half) (up : Upset)
  /-- SB (R210). -/
  | sb (t : Fin 256) (rs2 rs1 : Fin 32) (imm : Half)
  /-- SH (R210). -/
  | sh (t : Fin 256) (rs2 rs1 : Fin 32) (imm : Half)
  /-- SW (R210). -/
  | sw (t : Fin 256) (rs2 rs1 : Fin 32) (imm : Half)
  /-- SD (R210). -/
  | sd (t : Fin 256) (rs2 rs1 : Fin 32) (imm : Half)
  /-- BEQ (R221). -/
  | beq (t : Fin 256) (rs1 rs2 : Fin 32) (imm : Half)
  /-- BNE (R221). -/
  | bne (t : Fin 256) (rs1 rs2 : Fin 32) (imm : Half)
  /-- BLT (R221). -/
  | blt (t : Fin 256) (rs1 rs2 : Fin 32) (imm : Half)
  /-- BGE (R221). -/
  | bge (t : Fin 256) (rs1 rs2 : Fin 32) (imm : Half)
  /-- BLTU (R221). -/
  | bltu (t : Fin 256) (rs1 rs2 : Fin 32) (imm : Half)
  /-- BGEU (R221). -/
  | bgeu (t : Fin 256) (rs1 rs2 : Fin 32) (imm : Half)
  /-- JAL (R211). -/
  | jal (t : Fin 256) (rd : Fin 32) (imm : BitVec 21)
  /-- JALR (R211). -/
  | jalr (t : Fin 256) (rd rs1 : Fin 32) (imm : Half)
  /-- LOOP (R220). -/
  | loop (t : Fin 256) (cnt : BitVec 12) (len : BitVec 10)
  /-- LOOPR (R220). -/
  | loopr (t : Fin 256) (rs : Fin 32) (len : BitVec 10)
  /-- CSRRW (R223). -/
  | csrrw (t : Fin 256) (rd rs1 : Fin 32) (n : BitVec 12)
  /-- CSRRS (R223). -/
  | csrrs (t : Fin 256) (rd rs1 : Fin 32) (n : BitVec 12)
  /-- CSRRC (R223). -/
  | csrrc (t : Fin 256) (rd rs1 : Fin 32) (n : BitVec 12)
  /-- IORD (R224). -/
  | iord (t : Fin 256) (rd rs1 : Fin 32) (imm : Half)
  /-- IOWR (R224). -/
  | iowr (t : Fin 256) (rs2 rs1 : Fin 32) (imm : Half)
  /-- MSEND (R225). -/
  | msend (t : Fin 256) (rs1 rs2 : Fin 32)
  /-- MRECV (R227). -/
  | mrecv (t : Fin 256) (rd : Fin 32) (nb : Bool)
  /-- DMA (R230). -/
  | dma (t : Fin 256) (rd rs1 : Fin 32)
  /-- DMA_JOB_START (R262). -/
  | dmaJobStart (m : Fin 8)
  /-- DMA_JOB_COMPLETE (R263). -/
  | dmaJobComplete (id : Nat) (ce ue : List Nat) (old : Ecc)
  /-- FEMIT (R232). -/
  | femit (t : Fin 256) (rd rs1 : Fin 32)
  /-- FEMIT_COMPLETE (R232). -/
  | femitComplete (id : Nat) (ce ue : List Nat)
  /-- WAIT (R229). -/
  | wait (t : Fin 256) (rd : Fin 32) (mask : Byte) (all : Bool)
  /-- NSRCH (R151). -/
  | nsrch (t : Fin 256) (rd rs1 : Fin 32) (mask : Fin 8)
  /-- NNEXT (R158). -/
  | nnext (t : Fin 256) (rd rs1 : Fin 32) (mask : Fin 8)
  /-- NLOC (R159). -/
  | nloc (t : Fin 256) (rd rs1 : Fin 32) (strict : Bool)
  /-- NPSRCH (R181). -/
  | npsrch (t : Fin 256) (rd rs1 : Fin 32) (mask : Fin 8)
  /-- NINS (R165). -/
  | nins (t : Fin 256) (rd rs1 : Fin 32)
  /-- NDEL (R167). -/
  | ndel (t : Fin 256) (rd : Fin 32)
  /-- NADW (R160). -/
  | nadw (t : Fin 256) (rd rs2 : Fin 32) (kind : BitVec 4)
  /-- NKIND (R161). -/
  | nkind (t : Fin 256) (rd : Fin 32) (kind : BitVec 4)
  /-- NADR (R157). -/
  | nadr (t : Fin 256) (rd : Fin 32)
  /-- NADOPT (R188). -/
  | nadopt (t : Fin 256) (rd rs2 : Fin 32)
  /-- KLOAD (R236). -/
  | kload (t : Fin 256) (rs1 rs2 : Fin 32) (up : Upset)
  /-- KCMP (R236). -/
  | kcmp (t : Fin 256) (rd rs1 rs2 : Fin 32) (up : Upset)
  /-- KHASH16 (R145). -/
  | khash16 (t : Fin 256) (rd : Fin 32) (up : Upset)
  /-- KHASH32 (R236). -/
  | khash32 (t : Fin 256) (rd rs1 : Fin 32) (up : Upset)
  /-- KWORD (R236). -/
  | kword (t : Fin 256) (rs1 rs2 : Fin 32) (up : Upset)
  /-- FOPR (R236). -/
  | fopr (t : Fin 256) (rd rs1 : Fin 32) (up : Upset)
  /-- FOPH (R236). -/
  | foph (t : Fin 256) (rs1 rs2 rs3 : Fin 32)
  /-- YIELD (R206). -/
  | yield (t : Fin 256)
  /-- BRK (R237). -/
  | brk (t : Fin 256) (code : Byte)
  /-- ERET (R237). -/
  | eret (t : Fin 256)
  /-- MZENTER (R240). -/
  | mzenter (t : Fin 256) (resume : Bool)
  /-- MZEXIT (R244). -/
  | mzexit (t : Fin 256) (rs1 : Fin 32)
  /-- MZ_BUDGET (R243). -/
  | mzBudget (t : Fin 256)
  /-- KGET (R275). -/
  | kget (t : Fin 256) (bad : Bool)
  /-- KHEAD (R275). -/
  | khead (t : Fin 256) (bad : Bool)
  /-- KPUT (R275). -/
  | kput (t : Fin 256)
  /-- KCAS (R275). -/
  | kcas (t : Fin 256)
  /-- KDEL (R275). -/
  | kdel (t : Fin 256)
  /-- KADD (R275). -/
  | kadd (t : Fin 256)
  /-- INPUT (R273). -/
  | input (t : Fin 256)
  /-- NOW (R274). -/
  | now (t : Fin 256)
  /-- RANDOM (R274). -/
  | random (t : Fin 256)
  /-- SEAL_SERVICE (R275). -/
  | sealService (t : Fin 256)
  /-- UNSEAL_SERVICE (R275). -/
  | unsealService (t : Fin 256)
  /-- GCM_ENC (R421). -/
  | gcmEnc (t : Fin 256) (rd rs1 : Fin 32)
  /-- GCM_DEC (R423). -/
  | gcmDec (t : Fin 256) (rd rs1 : Fin 32)
  /-- XTS_ENC (R417). -/
  | xtsEnc (t : Fin 256) (rd rs1 : Fin 32)
  /-- XTS_DEC (R417). -/
  | xtsDec (t : Fin 256) (rd rs1 : Fin 32)
  /-- KW_WRAP (R417). -/
  | kwWrap (t : Fin 256) (rd rs1 : Fin 32)
  /-- KW_UNWRAP (R423). -/
  | kwUnwrap (t : Fin 256) (rd rs1 : Fin 32)
  /-- SHA384 (R421). -/
  | sha384 (t : Fin 256) (rd rs1 : Fin 32)
  /-- SEAL (R422). -/
  | sealJob (t : Fin 256) (rd rs1 : Fin 32)
  /-- UNSEAL (R422). -/
  | unsealJob (t : Fin 256) (rd rs1 : Fin 32)
  /-- CIPHER_JOB_START (R424). -/
  | cipherJobStart (m : Fin 8)
  /-- CIPHER_JOB_END (R423). -/
  | cipherJobEnd (id : Nat) (ce ue : List Nat) (old : Ecc)
  /-- FLASH_READ (R302). -/
  | flashRead (t : Fin 256) (rd rs1 : Fin 32)
  /-- FLASH_PROGRAM (R304). -/
  | flashProgram (t : Fin 256) (rd rs1 : Fin 32)
  /-- FLASH_PARITY (R302). -/
  | flashParity (t : Fin 256) (rd rs1 : Fin 32)
  /-- FLASH_ERASE (R302). -/
  | flashErase (t : Fin 256) (rd rs1 : Fin 32)
  /-- FLASH_RAW (R302). -/
  | flashRaw (t : Fin 256) (rd rs1 : Fin 32)
  /-- FLASH_JOB_START (R303). -/
  | flashJobStart (lun : Fin 256)
  /-- FLASH_STATUS_POLL (R294). -/
  | flashStatusPoll (lost : List (Fin 256))
  /-- FLASH_JOB_COMPLETE (R305). -/
  | flashJobComplete (id : Nat) (fates : List CwFate) (fail : Option (Nat × Nat)) (ce ue : List Nat) (old : Ecc) (raw : Bytes)
  /-- FLASH_CHANNEL_INIT (R294). -/
  | flashChannelInit (ch : Fin 16) (mode rate : Fin 8) (present : Word) (bad : List Nat)
  /-- FLUSH_PASS (R311). -/
  | flushPass
  /-- HARD_WAIT_EXPIRY (R288). -/
  | hardWaitExpiry
  /-- GROOM_MERGE (R315). -/
  | groomMerge (n : Fin 8)
  /-- GROOM_RELOCATE (R316). -/
  | groomRelocate (n : BitVec 18)
  /-- DRAM_REQUEST (R343). -/
  | dramRequest (a : BitVec 40) (write : Bool) (data mask : Bytes) (old : Ecc) (rt : Option (Fin 3))
  /-- DRAM_COMMAND_ISSUE (R345). -/
  | dramCommandIssue (ch : Fin 8) (timed : List Nat)
  /-- DRAM_POWER_DOWN (R345). -/
  | dramPowerDown (ch : Fin 8)
  /-- DRAM_REFRESH_DUE (R351). -/
  | dramRefreshDue (ch : Fin 8)
  /-- ZQ_LATCH (R350). -/
  | zqLatch (ch : Fin 8)
  /-- MR4_POLL (R349). -/
  | mr4Poll (hot : Bool)
  /-- DRAM_INIT_COMPLETE (R337). -/
  | dramInitComplete
  /-- FSP_CHANGE (R353). -/
  | fspChange (target : Fin 4)
  /-- FSP_HOWL_TIMEOUT (R355). -/
  | fspHowlTimeout
  /-- FSP_CHANGE_COMPLETE (R354). -/
  | fspChangeComplete
  /-- SELF_REFRESH_ENTER (R357). -/
  | selfRefreshEnter
  /-- SELF_REFRESH_EXIT (R359). -/
  | selfRefreshExit
  /-- TRAIN_WINDOW_OPEN (R360). -/
  | trainWindowOpen (ch : Fin 8)
  /-- TRAIN_WINDOW_CLOSE (R360). -/
  | trainWindowClose (ch : Fin 8) (apply : Bool)
  /-- TRAIN_WINDOW_TIMEOUT (R361). -/
  | trainWindowTimeout (ch : Fin 8)
  /-- MR_WRITE (R362). -/
  | mrWrite (ch : Fin 8) (rank : Fin 2) (ma opd : Byte)
  /-- MR_READ (R362). -/
  | mrRead (ch : Fin 8) (rank : Fin 2) (ma : Byte)
  /-- CA_TRAINING_STEP (R362). -/
  | caTrainingStep (ch : Fin 8) (rank : Fin 2)
  /-- WCK_LEVELLING_STEP (R362). -/
  | wckLevellingStep (ch : Fin 8) (rank : Fin 2)
  /-- READ_DQ_CALIBRATION (R362). -/
  | readDqCalibration (ch : Fin 8) (rank : Fin 2)
  /-- WRITE_FIFO (R362). -/
  | writeFifo (ch : Fin 8) (rank : Fin 2)
  /-- READ_FIFO (R362). -/
  | readFifo (ch : Fin 8) (rank : Fin 2)
  /-- TRAIN_OP_COMPLETE (R362). -/
  | trainOpComplete (capture : Bytes)
  /-- DRAM_SCRUB (R368). -/
  | dramScrub (ecc : List Ecc)
  /-- ECC_WINDOW (R366). -/
  | eccWindow (ch : Fin 8)
  /-- LINK_RESTART (R375). -/
  | linkRestart (p : Fin 2)
  /-- LINK_UP (R376). -/
  | linkUp (p : Fin 2)
  /-- LINK_DOWN (R376). -/
  | linkDown (p : Fin 2)
  /-- MODULE_READ (R378). -/
  | moduleRead (p : Fin 2) (addr page : Byte) (len : Fin 8) (paged : Bool)
  /-- MODULE_WRITE (R378). -/
  | moduleWrite (p : Fin 2) (addr page : Byte) (len : Fin 8) (paged : Bool) (data : DWord)
  /-- MODULE_TRANSACTION_END (R378). -/
  | moduleTransactionEnd (p : Fin 2) (nack timeout : Bool) (data : Bytes)
  /-- MODULE_PRESENCE_CHANGE (R379). -/
  | modulePresenceChange (p : Fin 2) (present : Bool)
  /-- MODULE_INTERRUPT (R379). -/
  | moduleInterrupt (p : Fin 2) (low : Bool)
  /-- RX_FREE (R386). -/
  | rxFree (p : Fin 2) (addr : BitVec 23)
  /-- PFC_REFRESH (R399). -/
  | pfcRefresh (p : Fin 2) (prio : Fin 9)
  /-- PAUSE_EXPIRY (R400). -/
  | pauseExpiry (p : Fin 2) (prio : Fin 9)
  /-- PAUSE_WATCHDOG (R401). -/
  | pauseWatchdog (p : Fin 2) (prio : Fin 9)
  /-- WATCHDOG_HOLD_END (R401). -/
  | watchdogHoldEnd (p : Fin 2) (prio : Fin 9)
  /-- MAC_TX_SELECT (R396). -/
  | macTxSelect (p : Fin 2)
  /-- MAC_TX_FRAME_END (R396). -/
  | macTxFrameEnd (p : Fin 2)
  /-- GATE_ENTRY_CHANGE (R402). -/
  | gateEntryChange (p : Fin 2)
  /-- TG_COMMIT (R403). -/
  | tgCommit (p : Fin 2)
  /-- TG_CANCEL (R403). -/
  | tgCancel (p : Fin 2)
  /-- TG_CHANGE (R403). -/
  | tgChange (p : Fin 2)
  /-- PHC_STEP (R405). -/
  | phcStep
  /-- DOZE_LOWER (R409). -/
  | dozeLower (p : Fin 2)
  /-- DOZE_RAISE (R409). -/
  | dozeRaise (p : Fin 2)
  /-- DOZE_LINK_DOWN (R410). -/
  | dozeLinkDown (p : Fin 2)
  /-- DOZE_FAIL (R411). -/
  | dozeFail (p : Fin 2)
  /-- MGT_RX_FRAME (R415). -/
  | mgtRxFrame (raw : Bytes) (good : Bool)
  /-- KEY_WRITE (R425). -/
  | keyWrite
  /-- KEY_STAGE (R425). -/
  | keyStage
  /-- KEY_ERASE (R425). -/
  | keyErase
  /-- KEY_ERASE_NOW (R425). -/
  | keyEraseNow
  /-- KEY_QUERY (R425). -/
  | keyQuery
  /-- COLLAR_WRITE (R434). -/
  | collarWrite
  /-- COLLAR_ERASE_NOW (R425). -/
  | collarEraseNow
  /-- DRBG_RESEED (R440). -/
  | drbgReseed (ok : Bool) (rct apt : Nat)
  /-- SESSION_OPEN (R491). -/
  | sessionOpen
  /-- SESSION_CLOSE (R113). -/
  | sessionClose
  /-- SESSION_CLOSE_ERASE_NOW (R114). -/
  | sessionCloseEraseNow
  /-- CFG_WRITE (R594). -/
  | cfgWrite
  /-- CLEAR_NS (R493). -/
  | clearNs
  /-- CFG_COMMIT (R495). -/
  | cfgCommit
  /-- START_COMMIT (R501). -/
  | startCommit (page : FlashPage)
  /-- COMMIT_OLD_HELD_TIMEOUT (R497). -/
  | commitOldHeldTimeout
  /-- CFG_DISCARD (R494). -/
  | cfgDiscard
  /-- CFG_RESULT (R494). -/
  | cfgResult
  /-- CFG_PERSIST (R499). -/
  | cfgPersist
  /-- KEY_RESULT (R425). -/
  | keyResult
  /-- SERVE_LOAD (R260). -/
  | serveLoad
  /-- HANDLER_LOAD (R266). -/
  | handlerLoad
  /-- TRICK_LOAD (R270). -/
  | trickLoad
  /-- TRICK_UNLOAD (R271). -/
  | trickUnload
  /-- LOAD_RESULT (R500). -/
  | loadResult
  /-- PMON_SET (R477). -/
  | pmonSet
  /-- MODE_REPORT (R474). -/
  | modeReport
  /-- HEARTBEAT (R483). -/
  | heartbeat
  /-- SV_SILENT (R483). -/
  | svSilent
  /-- TIME_SET (R405). -/
  | timeSet
  /-- TIME_ADJ (R405). -/
  | timeAdj
  /-- PTP_TX (R407). -/
  | ptpTx
  /-- PTP_RX (R407). -/
  | ptpRx
  /-- TX_TIMESTAMP (R408). -/
  | txTimestamp (p : Fin 2)
  /-- DIAG_TAP (R388). -/
  | diagTap
  /-- DIAG_READ (R492). -/
  | diagRead
  /-- DIAG_DATA (R492). -/
  | diagData
  /-- EVENT (R592). -/
  | event
  /-- ALARM (R520). -/
  | alarm
  /-- IMAGE_FWD (R531). -/
  | imageFwd (frame : Option Nat)
  /-- IMAGE_REPLY (R531). -/
  | imageReply
  /-- NAK (R482). -/
  | nak (atKeeper : Bool) (ecc : Option Bool)
  /-- FEN_TX_PUSH (R480). -/
  | fenTxPush
  /-- FEN_RX_POP (R478). -/
  | fenRxPop
  /-- FENCE_HOLD_TIMEOUT (R479). -/
  | fenceHoldTimeout
  /-- KEEPER_RD (R485). -/
  | keeperRd (i3c : Option Bytes)
  /-- KEEPER_WR (R485). -/
  | keeperWr (i : WriteIn) (i3c : Option Bytes)
  /-- KEEPER_CFG (R499). -/
  | keeperCfg (i3c : Option Bytes)
  /-- I3C_PRIVATE_READ (R488). -/
  | i3cPrivateRead
  /-- I3C_DYNAMIC_ADDRESS (R488). -/
  | i3cDynamicAddress (da : BitVec 7)
  /-- WDOG_KICK (R475). -/
  | wdogKick
  /-- KEEPER_WATCHDOG_EXPIRY (R475). -/
  | keeperWatchdogExpiry (i : RomIn)
  /-- REQUEST_SERVE (R451). -/
  | requestServe
  /-- REQUEST_SIT (R460). -/
  | requestSit
  /-- REQUEST_DRAIN (R456). -/
  | requestDrain (after wakeTo : BitVec 4)
  /-- DRAIN_TIMEOUT (R457). -/
  | drainTimeout
  /-- DRAIN_COMPLETE (R456). -/
  | drainComplete (i : RomIn)
  /-- REQUEST_WAKE (R459). -/
  | requestWake (goal : Bool)
  /-- NAP_TIMER_EXPIRY (R459). -/
  | napTimerExpiry
  /-- REQUEST_TEST (R550). -/
  | requestTest
  /-- REQUEST_BOOT (R448). -/
  | requestBoot
  /-- REQUEST_FAULT (R461). -/
  | requestFault
  /-- THERM_TRIP (R461). -/
  | thermTrip
  /-- SV_PGOOD_FALL (R461). -/
  | svPgoodFall
  /-- SV_PGOOD_RISE (R453). -/
  | svPgoodRise
  /-- SVRST_RELEASE (R453). -/
  | svrstRelease (packPos : BitVec 3) (testEn : Bool) (post : Half) (kat : BitVec 11)
  /-- SV_PWR_TIMEOUT (R453). -/
  | svPwrTimeout
  /-- SV_PWR_EN_SET (R453). -/
  | svPwrEnSet
  /-- SV_PWR_EN_CLEAR (R454). -/
  | svPwrEnClear
  /-- SV_RESET_SET (R463). -/
  | svResetSet
  /-- SV_RESET_CLEAR (R453). -/
  | svResetClear
  /-- FULL_RESET (R463). -/
  | fullReset (i : RomIn)
  /-- PWR_LOCK (R471). -/
  | pwrLock
  /-- AON_POR (R463). -/
  | aonPor
  /-- PORST (R463). -/
  | porst (e : PorstEdge)
  /-- SV_UV (R463). -/
  | svUv
  /-- SENSE_RESET_LEVEL (R467). -/
  | senseResetLevel (mv : BitVec 12)
  /-- SUPPLY_WARNING (R465). -/
  | supplyWarning (mv : BitVec 12) (pfailLow : Bool)
  /-- BRACE_COMPLETE (R321). -/
  | braceComplete (header : Bool) (i : RomIn)
  /-- SUPPLY_WARNING_CLEAR (R466). -/
  | supplyWarningClear (mv : BitVec 12)
  /-- BRACE_RETURN (R466). -/
  | braceReturn (i : RomIn)
  /-- TRL_APP_GO (R592). -/
  | trlAppGo
  /-- EVENT_CLOSE (R507). -/
  | eventClose
  /-- TRAIL_PAGE_PROGRAM (R510). -/
  | trailPageProgram (ok : Bool)
  /-- TRAIL_HALF_ERASE (R512). -/
  | trailHalfErase (ok : Bool)
  /-- TRAIL_SCRUB (R517). -/
  | trailScrub (e : Ecc) (addr : BitVec 19)
  /-- TRAIL_LOOKUP (R509). -/
  | trailLookup (seq : BitVec 48) (e : Ecc)
  /-- TRAIL_LOOKUP_DONE (R509). -/
  | trailLookupDone
  /-- TRL_WALL_WRITE (R505). -/
  | trlWallWrite (v : DWord)
  /-- NOR_RETRY (R518). -/
  | norRetry (ok : Bool)
  /-- ALARM_CLEAR (R520). -/
  | alarmClear
  /-- IMAGE_BEGIN (R533). -/
  | imageBegin (nor : Bool)
  /-- IMAGE_DATA (R531). -/
  | imageData (nor : Bool)
  /-- IMAGE_END (R528). -/
  | imageEnd (nor : Bool) (i : RomIn)
  /-- IMAGE_ABORT (R534). -/
  | imageAbort
  /-- IMAGE_STATUS (R531). -/
  | imageStatus
  /-- IMAGE_CONFIRM (R542). -/
  | imageConfirm (nor : Bool)
  /-- IMAGE_FUSE_NOW (R543). -/
  | imageFuseNow (nor : Bool)
  /-- UPD_CONFIRM (R542). -/
  | updConfirm (nor : Bool)
  /-- UPD_ABORT (R534). -/
  | updAbort
  /-- UPD_FUSE_NOW (R543). -/
  | updFuseNow (nor : Bool)
  /-- CLAIM_LAPSE (R534). -/
  | claimLapse
  /-- PROBATION_EXPIRY (R541). -/
  | probationExpiry
  /-- FUSE_OP_IMAGE_ANCHOR (R524). -/
  | fuseOpImageAnchor
  /-- FUSE_OP_HANDLER_ANCHOR (R524). -/
  | fuseOpHandlerAnchor
  /-- FUSE_MGMT_KEY (R524). -/
  | fuseMgmtKey
  /-- FUSE_REVOKE (R524). -/
  | fuseRevoke (anchor : BitVec 2)
  /-- NET_LOOPBACK_SELECT (R553). -/
  | netLoopbackSelect (p : Fin 2) (depth : BitVec 3)
  /-- PCK_LOOPBACK_SELECT (R553). -/
  | pckLoopbackSelect (lane : Fin 4) (depth : BitVec 3)
  /-- DRAM_LOOPBACK_SELECT (R554). -/
  | dramLoopbackSelect (mask : Byte)
  /-- FLASH_LOOPBACK_SELECT (R553). -/
  | flashLoopbackSelect (mask : Half)
  /-- MGT_LOOPBACK_SELECT (R555). -/
  | mgtLoopbackSelect (depth : BitVec 3) (timeout : Byte)
  /-- MGT_TEST_TIMEOUT (R555). -/
  | mgtTestTimeout
  /-- NOR_LOOPBACK (R556). -/
  | norLoopback
  /-- NOR_LOOPBACK_DONE (R556). -/
  | norLoopbackDone (failbits : BitVec 9)
  /-- PRBS_INJECT (R559). -/
  | prbsInject (l : Fin 37)
  /-- PRBS_LOCK_LOST (R559). -/
  | prbsLockLost (l : Fin 37) (errs : DWord) (fail : BitVec 18)
  /-- FG_FRAME_SEND (R560). -/
  | fgFrameSend (p : Fin 2)
  /-- BIST_GO (R566). -/
  | bistGo (targets : BitVec 15)
  /-- BIST_COMPLETE (R566). -/
  | bistComplete (fail : BitVec 15) (addr : BitVec 28)
  /-- EXTEST (R564). -/
  | extest
  /-- IDCODE (R562). -/
  | idcode
  /-- SAMPLE_PRELOAD (R562). -/
  | samplePreload (pins load : Bytes)
  /-- CLAMP (R564). -/
  | clamp
  /-- HIGHZ (R564). -/
  | highz
  /-- EXTEST_PULSE (R564). -/
  | extestPulse
  /-- EXTEST_TRAIN (R564). -/
  | extestTrain
  /-- BYPASS (R562). -/
  | bypass
  /-- TRST (R562). -/
  | trst
  /-- MGT_LINK_CHANGE (R414). -/
  | mgtLinkChange (up : Bool)
  /-- RESET_LEVEL_RELEASE (R467). -/
  | resetLevelRelease (mv : BitVec 12) (i : RomIn)
  /-- PRBS_LOCK (R559). -/
  | prbsLock (l : Fin 37)
  /-- FUSE_PROGRAM_DONE (R524). -/
  | fuseProgramDone
  /-- PERSIST_COMPLETE (R499). -/
  | persistComplete (ok : Bool)
deriving DecidableEq, Repr

end Sys2Proof
end

