-- ==== Sys2Proof/Config.lean ====
section
/-! DEFINITION. What the machine's specification fixes by reference to a standard it does not restate (the ciphers, the
hash, the signature), and the free values: opaque constants nothing can evaluate. -/
namespace Sys2Proof.Config

/-- AES-GCM of FIPS 197 and SP 800-38D: key, nonce, additional data, plaintext to ciphertext and 16-byte tag (log entry 5). -/
opaque gcmEnc : Bytes → Bytes → Bytes → Bytes → Bytes
/-- AES-GCM opening: `none` where the tag does not verify. -/
opaque gcmDec : Bytes → Bytes → Bytes → Bytes → Option Bytes
/-- AES-XTS of IEEE 1619 over one data unit: key, tweak, data. -/
opaque xtsEnc : Bytes → Bytes → Bytes → Bytes
opaque xtsDec : Bytes → Bytes → Bytes → Bytes
/-- The 8 metadata and check bytes of the LC72 code for a 64-byte line (R32): the code's matrix is not given. -/
opaque lc72 : Bytes → Bytes
/-- RFC 3394 key wrap and unwrap: key-encryption key, material. -/
opaque kwWrap : Bytes → Bytes → Bytes
opaque kwUnwrap : Bytes → Bytes → Option Bytes
/-- SHA-384 of FIPS 180-4. -/
opaque sha384 : Bytes → Bytes
/-- ECDSA P-384 of FIPS 186-5: public key, digest, signature. -/
opaque ecdsaOk : Bytes → Bytes → Bytes → Bool
/-- HMAC-SHA-384: key, message. -/
opaque hmac384 : Bytes → Bytes → Bytes
/-- DRBG output (SP 800-90A): a free 64-bit value for each draw (log entry 6). -/
opaque freeWord : Nat → DWord
/-- A free bit string where the specification leaves a value open, by draw number and length. -/
opaque freeBytes : Nat → Nat → Bytes

/-- Fuses programmed at manufacture (Table 14-1): the four vendor anchors and MGT_MAC. -/
opaque vendorAnchor : Nat → Bytes
opaque mgtMac : Nat

/-- The frame generator's payload: sequence number, length (R560: the seeding of PRBS31 is not given). -/
opaque fgPayload : Nat → Nat → Bytes

/-- TEAM_START and TEAM_TVEC that the serving program gives a thread (Table 6-6, step 2): the program is not part of the specification (log
entry 98). -/
opaque threadStart : Nat → BitVec 16
opaque threadVec : Nat → BitVec 16

/-- Bytes one follower's mirror backlog holds (R84): the configuration set states no field for it (log entry 7). -/
opaque mirrorBacklog : Nat

/-- A step of bringing a module up through CMIS (R379): a read or write of its memory map, no application matches, or the data path reads
activated. -/
inductive CmisStep
  | read (addr page len : Nat) (paged : Bool)
  | write (addr page : Nat) (paged : Bool) (data : Bytes)
  | noApp
  | activated
deriving DecidableEq, Repr, Inhabited

/-- The next step for a speed (Table 9-1 code) after what the transactions so far have answered, a failed one the empty list: CMIS is not part
of the specification (log entry 105). -/
opaque cmisNext : Nat → List Bytes → CmisStep

/-- Board data of a port added to Table 9-2 in MACn_TS_RX_OFS and MACn_TS_TX_OFS at a link-up (R406, log entry 77), in units of 2^−8 ns. -/
opaque boardRxOfs : Nat → Nat
opaque boardTxOfs : Nat → Nat

/-- FAB cycles of one page program of the boot NOR (R514): a time of the NOR part. -/
opaque norPageTime : Nat

/-- The packet error code of an SMBus transfer (R488): the SMBus standard's CRC-8 over these bytes. -/
opaque pec : Bytes → Byte

end Sys2Proof.Config
end

