-- ==== Sys2Proof/Machine/RegsData.lean ====
section
/-! DEFINITION. Register maps of chapters 03, 04, 06 and 07 (Tables 3-11, 4-13, 4-17, 4-23, 6-13, 7-13, 7-16). -/
namespace Sys2Proof.Machine

def regsFetch : List Reg := [
  ctr 0x10002000 "SYS_FT_RX_FRAMES", ctr 0x10002008 "SYS_FT_DROP_HDR", ctr 0x10002010 "SYS_FT_DROP_SESSION",
  ctr 0x10002018 "SYS_FT_AUTH_FAIL", ctr 0x10002020 "SYS_FT_REPLAYS", ctr 0x10002028 "SYS_FT_STALE",
  ctr 0x10002030 "SYS_FT_HOLD_SKIPS", ctr 0x10002038 "SYS_FT_REPLAY_EVICT", ctr 0x10002040 "SYS_FT_SEG_ABORTS",
  ctr 0x10002048 "SYS_FT_FRAME_REFUSED"]

def regsNose : List Reg := [
  reg 0x10100000 "NOSE_CTL" 0x58 [fRW 7 6, fRWr 5 3 0 5, fRW 2 2, fRW 0 0],
  reg 0x10100004 "NOSE_STATUS" 0 [fRO 3 0],
  regW 0x10100008 "NOSE_SHIFT_MAX" 0x40 [fRWr 10 0 16 1024],
  regW 0x1010000C "NOSE_WIDE_CTL" 0x100 [fRWr 10 0 0 1024],
  reg 0x10100010 "NOSE_LEASH" 0 [fRO 15 8, fRW 5 4, fRO 1 0],
  reg 0x10100014 "NOSE_FILL" 0 [fRO 21 0],
  reg 0x10100018 "NOSE_DIRTY" 0 [fRO 21 0],
  reg 0x1010001C "NOSE_DIRTY_HWM" 0x180000 [fRW 21 0],
  regN 0x10100040 5 4 "NOSE_PART_LO" 0 [fRW 31 0],
  regN 0x10100060 5 4 "NOSE_PART_HI" 0xFFFFFFFF [fRW 31 0],
  reg 0x10100100 "NOSE_MASK0_0" 0xFFFFFFF0 [fRW 31 0],
  regN 0x10100104 4 4 "NOSE_MASK0" 0xFFFFFFFF [fRW 31 0],
  regN 0x10100120 5 4 "NOSE_MASK1" 0 [fRW 31 0],
  regN 0x10100140 5 4 "NOSE_MASK2" 0 [fRW 31 0],
  regN 0x10100160 5 4 "NOSE_MASK3" 0 [fRW 31 0],
  regN 0x10100180 5 4 "NOSE_MASK4" 0 [fRW 31 0],
  regN 0x101001A0 5 4 "NOSE_MASK5" 0 [fRW 31 0],
  regN 0x101001C0 5 4 "NOSE_MASK6" 0 [fRW 31 0],
  regN 0x101001E0 5 4 "NOSE_MASK7" 0 [fRW 31 0],
  ctr 0x10100200 "NOSE_SLOT_SEARCH", ctr 0x10100208 "NOSE_SLOT_UPDATE", ctr 0x10100210 "NOSE_SLOT_RESPACE",
  ctr 0x10100218 "NOSE_SLOT_WIDE", ctr 0x10100220 "NOSE_SLOT_IDLE", ctr 0x10100228 "NOSE_NO_HOLE",
  ctr 0x10100230 "NOSE_DUP_FULL", ctr 0x10100238 "NOSE_RESPACE_STARVED", ctr 0x10100240 "NOSE_LEASH_DEFER",
  ctr 0x10100248 "NOSE_PACK_SEARCH", ctr 0x10100250 "NOSE_PACK_LATE", ctr 0x10100258 "NOSE_ECC_CORR"]

def regsRtv : List Reg := [
  reg 0x10200000 "RTV_CTL" 2 [fRW 0 0, fRW 1 1],
  reg 0x10200004 "RTV_STATUS" 0 [fRO 6 0],
  regN 0x10200100 128 4 "RTV_NS_LOCAL" 0 [fRW 31 0],
  ctr 0x10200400 "RTV_ANSWERED", ctr 0x10200408 "RTV_HCUR_EXPIRED", ctrN 0x10200500 16 8 "RTV_HOFF"]

def regsPck : List Reg := [
  reg 0x10800000 "PCK_CTL" 0 [fRW 0 0, fRW 1 1],
  reg 0x10800004 "PCK_STATUS" 0 [fRO 6 0, fRO 10 8, fRO 14 12, fRO 23 16],
  reg 0x10800008 "PCK_LANE" 0x500 [fRW 3 0, fRW 7 4, fRWr 11 8 0 10],
  regW 0x1080000C "PCK_RETRY" 0x30014 [fRWr 15 0 5 1000, fRWr 19 16 1 15],
  reg 0x10800010 "PCK_UP_MS" 0x3E8 [fRWr 15 0 10 60000],
  regN 0x10800020 4 4 "PCK_TXEQ" 0 [fRO 5 0, fRO 13 8, fRO 21 16],
  ctr 0x10800100 "PCK_TX_FRAMES", ctr 0x10800108 "PCK_RX_FRAMES", ctr 0x10800110 "PCK_CRC_ERR",
  ctr 0x10800118 "PCK_RESENDS", ctr 0x10800120 "PCK_DUP", ctr 0x10800128 "PCK_RX_DROP",
  ctr 0x10800130 "PCK_RX_BAD", ctr 0x10800138 "PCK_LOCK_LOST", ctr 0x10800140 "PCK_MSG"]

def regsDsp : List Reg := [
  reg 0x10003000 "SYS_DSP_CTL" 0 [fRW 0 0, fRW 1 1],
  reg 0x10003004 "SYS_DSP_STATUS" 0 [fRO 15 0, fRO 23 16],
  reg 0x10003008 "SYS_DSP_ASSIGN" 0 [fWO 21 16, fWO 3 0],
  reg 0x1000300C "SYS_DSP_ASSIGN_ST" 0 [fRO 31 16, fRO 1 0],
  reg 0x10003010 "SYS_DSP_RELEASE" 0 [fWO 15 0],
  regRO 0x10003014 "SYS_DSP_LOST_LAST",
  regN 0x10003100 64 4 "SYS_DSP_ENG" 0 [fRO 31 6, fRO 4 0],
  reg 0x10003200 "SYS_DSP_BIND0" 0x80071000 [fRO 31 31, fRWr 19 16 1 7, fRWr 15 8 0 0xDF],
  regN 0x10003204 79 4 "SYS_DSP_BIND" 0 [fRW 31 31, fRWr 19 16 1 7, fRWr 15 8 0 0xDF],
  ctr 0x10003400 "SYS_DSP_DELIVERED", ctr 0x10003408 "SYS_DSP_BOUNCED", ctr 0x10003410 "SYS_DSP_LOST",
  ctr 0x10003418 "SYS_DSP_HELD"]

def regsFlc : List Reg := [
  reg 0x10400000 "FLC_CTL" 0 [fRW 0 0, fRW 1 1, fW1C 2 2],
  reg 0x10400004 "FLC_STATUS" 0 [fRO 2 0],
  reg 0x10400008 "FLC_GEOM" 0 [fRW 31 18, fRWr 17 5 1 8191, fRWr 4 2 0 5, fRWr 1 0 0 2],
  reg 0x1040000C "FLC_GEOM2" 0 [fRW 28 16, fRW 3 0],
  reg 0x10400010 "FLC_SLC_CMD" 0 [fRW 7 0, fRW 8 8],
  reg 0x10400014 "FLC_RETRY" 8 [fRW 3 0, fRW 15 8],
  reg 0x10400018 "FLC_BRACE_RATE" 0x1E [fRWr 15 0 30 65535],
  regN 0x10400020 15 4 "FLC_RETRY_VAL" 0 [fRW 31 0],
  regN 0x10400100 16 16 "FLC_CH_CFG" 0x100 [fRW 15 8, fRW 7 6, fRWr 5 3 0 3, fRWr 2 0 0 2],
  regN 0x10400104 16 16 "FLC_CH_PRESENT" 0 [fRO 31 0],
  ctr 0x10400400 "FLC_CW_READ", ctr 0x10400408 "FLC_CW_PROG", ctr 0x10400410 "FLC_CORR_BITS",
  ctr 0x10400418 "FLC_RETRY_READS", ctr 0x10400420 "FLC_REBUILDS", ctr 0x10400428 "FLC_MEDIA_FAIL",
  ctr 0x10400430 "FLC_PROG_FAIL", ctr 0x10400438 "FLC_ERASE_FAIL", ctr 0x10400440 "FLC_ABORTED",
  ctr 0x10400448 "FLC_POISON_PROG"]

def regsSt : List Reg := [
  ro64 0x10005000 "SYS_JRN_HEAD", ro64 0x10005008 "SYS_JRN_TAIL", ro64 0x10005010 "SYS_JRN_SAVED",
  reg 0x10005018 "SYS_JRN_LIMIT" 0 [fRO 9 0],
  reg 0x1000501C "SYS_ST_STATE" 0 [fRO 4 0],
  reg 0x10005020 "SYS_ST_FREE_SEG" 0 [fRO 17 0],
  ctr 0x10005028 "SYS_ST_FLUSH_RUNS", ctr 0x10005030 "SYS_ST_GROOM_BYTES", ctr 0x10005038 "SYS_ST_INDEX_FULL",
  ctr 0x10005040 "SYS_ST_JRN_MIRROR_FIX", ctr 0x10005048 "SYS_ST_SNAP_RELEASED", ctr 0x10005050 "SYS_ST_RETIRED"]

/-- One channel's block of chapter 08: three delay banks, counters, the last uncorrectable address. -/
def regsDrcCh (b : Nat) : List Reg :=
  ([0, 0x100, 0x200].flatMap fun f => [
    reg (b + f) "DRC_DLY_CA" 0 [fRW 23 0],
    reg (b + f + 4) "DRC_DLY_WCK" 0 [fRW 15 0],
    regN (b + f + 0x10) 18 4 "DRC_DLY_RD" 0 [fRW 7 0],
    regN (b + f + 0x60) 18 4 "DRC_DLY_WR" 0 [fRW 7 0],
    reg (b + f + 0xB0) "DRC_DLY_VREF" 0 [fRW 6 0, fRW 14 8]]) ++ [
  ctr (b + 0x400) "DRC_CE", ctr (b + 0x408) "DRC_UE", ctr (b + 0x410) "DRC_READS", ctr (b + 0x418) "DRC_WRITES",
  ctr (b + 0x420) "DRC_FWD", ctr (b + 0x428) "DRC_RMW", ctr (b + 0x430) "DRC_REF_POSTPONED", ctr (b + 0x438) "DRC_HOWL_GRANTS",
  ro64 (b + 0x480) "DRC_UE_ADDR"]

/-- Chapter 08 (Table 8-8). -/
def regsDrc : List Reg := [
  reg 0x10300000 "DRC_CTL" 0 [fRW 3 2, fRW 0 0],
  reg 0x10300004 "DRC_STATUS" 0 [fW1C 24 24, fW1C 23 16, fRW 15 8, fRW 7 7, fRO 6 3, fW1C 2 2, fRO 0 0],
  reg 0x10300008 "DRC_MAP" 0xFF [fRW 11 0],
  reg 0x1030000C "DRC_LOCAL" 0 [fRW 17 0],
  reg 0x10300010 "DRC_FSP0" 0 [fRW 8 8, fRW 1 0],
  reg 0x10300014 "DRC_FSP1" 3 [fRW 8 8, fRW 1 0],
  reg 0x10300018 "DRC_FSP2" 1 [fRW 8 8, fRW 1 0],
  reg 0x1030001C "DRC_FSP_CTL" 0 [fW1S 31 31, fRWr 1 0 0 2],
  reg 0x10300020 "DRC_TRAIN" 0 [fRW 16 16, fRW 7 0],
  reg 0x10300024 "DRC_TRN_CMD" 0 [fWO 23 0],
  reg 0x10300028 "DRC_TRN_STATUS" 0 [fW1C 1 1, fRO 0 0],
  regN 0x10300040 16 4 "DRC_TRN_RESULT" 0 [fRW 31 0],
  reg 0x10300080 "DRC_REF" 0x0818017C [fRO 28 28, fRWr 27 24 0 8, fRWr 23 16 1 255, fRW 9 0],
  reg 0x10300084 "DRC_HOWL" 0 [fRO 5 0],
  regW 0x10300088 "DRC_QOS" 0x10280200 [fRWr 31 24 0 47, fRWr 23 16 8 48, fRWr 11 0 16 4095],
  reg 0x1030008C "DRC_ECC_CTL" 0x000103E8 [fRWr 23 16 1 255, fRW 15 0],
  reg 0x10300090 "DRC_SCRUB" 0x50 [fRWz 13 0 10 10000],
  regN 0x103000A0 8 4 "DRC_PASR" 0 [fRW 7 0]] ++
  (List.range 8).flatMap fun ch => regsDrcCh (0x10301000 + 0x1000 * ch)

/-- Chapter 10 (Table 10-9). -/
def regsCph : List Reg := [
  reg 0x10700000 "CPH_CTL" 0 [fRW 3 3, fRW 2 2, fRW 1 1, fRW 0 0],
  reg 0x10700004 "CPH_STATUS" 0 [fRO 19 16, fRO 15 8, fRO 0 0],
  reg 0x10700008 "CPH_SCA" 0x102 [fRW 2 0, fRW 8 8],
  rw64 0x10700010 "CPH_CTX_BASE",
  reg 0x10700018 "CPH_CTX_POOL" 0 [fRW 11 0, fRW 28 16],
  reg 0x10700020 "CPH_SLOT_SEL" 0 [fRW 11 0],
  reg 0x10700024 "CPH_SLOT_INFO" 0 [fRO 12 0, fRO 31 16],
  regRO 0x10700028 "CPH_SLOT_GEN",
  reg 0x10700030 "CPH_RNG_STATUS" 0 [fRO 3 0],
  reg 0x10700034 "CPH_LANE_STATUS" 0 [fRO 31 0],
  ctr 0x10700100 "CPH_JOBS", ctr 0x10700108 "CPH_BYTES", ctr 0x10700110 "CPH_AUTH_FAIL", ctr 0x10700118 "CPH_REVOKED",
  ctr 0x10700120 "CPH_SUSPENDS", ctr 0x10700128 "CPH_CTX_RESTORE", ctr 0x10700130 "CPH_CTX_EVICT", ctr 0x10700138 "CPH_RESTORE_DROP",
  ctr 0x10700140 "CPH_LANE_SCRUBS", ctr 0x10700148 "CPH_RNG_HT_FAIL", ctr 0x10700150 "CPH_SEAL_LIMIT"]

end Sys2Proof.Machine
end

