-- ==== Sys2Proof/Machine/RegsNet.lean ====
section
/-! DEFINITION. Register maps of chapter 09: MAC0, MAC1 and the management port (Tables 9-11 to 9-14). -/
namespace Sys2Proof.Machine

/-- The block of one port. -/
def regsMac (b : Nat) : List Reg := [
  reg b "MAC_CTL" 0x4000 [fRW 15 13, fRWe 9 8 [0, 1, 2], fRW 7 6, fRWr 5 3 0 4, fRW 1 0],
  reg (b + 0x4) "MAC_STATUS" 0 [fRO 11 2, fW1C 1 1, fRO 0 0],
  regW (b + 0x8) "MAC_MAXFRAME" 0x2400 [fRWr 13 0 1518 9216],
  reg (b + 0xC) "MAC_LANE" 0 [fRW 31 0],
  reg (b + 0x10) "MAC_FLOW" 0xFF02 [fRWr 1 0 0 2, fRW 6 4, fRW 15 8],
  reg (b + 0x14) "MAC_PFC_THR" 0x40005000 [fRW 31 0],
  reg (b + 0x18) "MAC_WDOG_LIMIT" 0x64 [fRWr 13 0 1 10000],
  reg (b + 0x1C) "MAC_WDOG_HOLD" 0x3E8 [fRWr 15 0 10 60000],
  reg (b + 0x20) "MAC_PAUSED" 0 [fRO 23 0],
  reg (b + 0x24) "MAC_UTIL" 0 [fRO 14 8, fRO 6 0],
  rw64 (b + 0x28) "MAC_SPILL_BASE",
  reg (b + 0x30) "MAC_SPILL_MIB" 0 [fRWr 10 0 0 1024],
  reg (b + 0x34) "MAC_TAP" 0x03E80000 [fRW 4 0, fRW 31 16],
  reg (b + 0x38) "MAC_RX_FREE" 0 [fWO 22 0],
  reg (b + 0x3C) "MAC_RX_CELLS" 0x7000 [fRO 31 16, fRO 14 0],
  regN (b + 0x40) 16 8 "MAC_FILT_LO" 0 [fRW 31 0],
  regN (b + 0x44) 16 8 "MAC_FILT_HI" 0 [fRW 15 0, fRW 31 31],
  regN (b + 0xC0) 4 4 "MAC_IPV4" 0 [fRW 31 0],
  regN (b + 0xD0) 16 4 "MAC_IPV6" 0 [fRW 31 0],
  reg (b + 0x200) "MAC_MOD_CMD" 0 [fRW 26 0, fRW 30 29, fW1S 31 31],
  regN (b + 0x204) 2 4 "MAC_MOD_DATA" 0 [fRW 31 0],
  reg (b + 0x20C) "MAC_MOD_STATUS" 0 [fRO 3 0, fW1C 5 4],
  reg (b + 0x210) "MAC_MOD_CFG" 5 [fRWr 1 0 0 2, fRW 3 2],
  reg (b + 0x300) "MAC_TG_CTL" 0 [fRW 0 0, fW1S 1 1, fWO 2 2],
  reg (b + 0x304) "MAC_TG_CYCLE" 0x2710 [fRWr 31 0 1000 1000000000],
  reg (b + 0x308) "MAC_TG_LEN" 1 [fRWr 6 0 1 64],
  reg (b + 0x30C) "MAC_TG_GUARD" 0 [fRW 15 0],
  rw64 (b + 0x310) "MAC_TG_BASE",
  ro64 (b + 0x318) "MAC_TG_CHANGE",
  regN (b + 0x400) 64 4 "MAC_TG_ADMIN" 0xFF000000 [fRW 31 0],
  regN (b + 0x500) 64 4 "MAC_TG_OPER" 0xFF000000 [fRO 31 0],
  regN (b + 0x600) 2 4 "MAC_TS_OFS" 0 [fRW 23 0],
  reg (b + 0x608) "MAC_TS_LEVEL" 0 [fRO 7 0],
  ctrN (b + 0x800) 29 8 "MAC_COUNTER"]

/-- The PHC, in the MAC0 block only (R413). -/
def regsPhc : List Reg := [
  ro64 0x10500900 "MAC0_PHC_NS", regRO 0x10500908 "MAC0_PHC_FRAC", reg 0x1050090C "MAC0_PHC_INCR" 0xAAAAAAAB [fRW 31 0],
  rw64 0x10500910 "MAC0_PHC_SET", reg 0x10500918 "MAC0_PHC_CMD" 0 [fWO 0 0]]

def regsMgt : List Reg := [
  reg 0x50000 "MGT_CTL" 4 [fRW 3 0],
  reg 0x50004 "MGT_STATUS" 0 [fRO 2 2, fW1C 1 1, fRO 0 0],
  rw64 0x50008 "MGT_MAC",
  regN 0x50010 2 8 "MGT_FILT_LO" 0 [fRW 31 0],
  regN 0x50014 2 8 "MGT_FILT_HI" 0 [fRW 15 0, fRW 31 31],
  reg 0x50020 "MGT_LANE" 0 [fRW 1 0],
  ctr 0x50100 "MGT_RX_FRAMES", ctr 0x50108 "MGT_RX_ERR", ctr 0x50110 "MGT_RX_OVF", ctr 0x50118 "MGT_TX_FRAMES"]

end Sys2Proof.Machine
end

