-- ==== Sys2Proof/Machine/RegsOperator.lean ====
section
/-! DEFINITION. Register maps of chapters 01, 11, 12 and 13: GLB_, PWR_, FEN_, TRL_, MGT_I3C_ and the SYS_ mode,
configuration and Fence registers (Tables 1-8, 11-9 to 11-12, 12-1, 12-15, 13-7). -/
namespace Sys2Proof.Machine

def regsGlb : List Reg := [
  reg 0x0 "GLB_ID" 0x964000B0 [fRO 31 16, fRO 7 0],
  reg 0x10 "GLB_WDOG" 0x3E8 [fRWr 15 0 10 60000, fW1S 31 31],
  reg 0x14 "GLB_WDOG_KICK" 0 [fWO 31 0],
  ctr 0x100 "GLB_OP_AUTH_FAIL"]

def regsPwr : List Reg := [
  reg 0x10000 "PWR_CTL" 2 [fW1S 4 4, fW1S 3 3, fRW 2 2, fRW 1 1, fRW 0 0],
  reg 0x10004 "PWR_STATUS" 1 [fRO 15 9, fRO 7 4, fRO 3 0],
  reg 0x10008 "PWR_MODE_REQ" 0 [fRW 3 0, fRW 7 4, fRW 11 8, fW1S 31 31],
  reg 0x1000C "PWR_MODE_ST" 0 [fRO 0 0, fW1C 1 1, fRO 15 8],
  reg 0x10010 "PWR_WARN" 0x301E0384 [fRW 11 0, fRWr 23 16 5 255, fRWe 29 28 [1, 2, 3]],
  reg 0x10014 "PWR_RESET" 0x320 [fRW 11 0],
  reg 0x10018 "PWR_HOLDUP" 0 [fRW 19 0],
  reg 0x1001C "PWR_SENSE" 0 [fRO 11 0, fRC 27 16],
  reg 0x10020 "PWR_RST_CAUSE" 1 [fW1C 8 0],
  reg 0x10024 "PWR_FAULT" 0 [fRO 31 0],
  reg 0x10028 "PWR_STRAPS" 0 [fRO 2 0],
  reg 0x10030 "PWR_BRACE_LAST" 0 [fRO 19 0],
  reg 0x10034 "PWR_BRACE_MIB" 0 [fRO 9 0, fRO 27 16],
  reg 0x10038 "PWR_NAP_TIMER" 0 [fRW 31 0],
  regW 0x1003C "PWR_SV_TIMEOUT" 0x32 [fRWr 9 0 1 1000],
  regW 0x10040 "PWR_DRAIN_TIMEOUT" 0x2710 [fRWr 19 0 100 600000],
  ctr 0x10100 "PWR_BRACES",
  ctr 0x10108 "PWR_BROWNOUTS"]

def regsFen : List Reg := [
  reg 0x20000 "FEN_CTL" 0 [fRW 0 0],
  reg 0x20004 "FEN_STATUS" 0 [fRO 0 0, fW1C 1 1, fRO 2 2, fRO 14 8, fRO 22 16],
  reg 0x20040 "FEN_TX_PUSH" 0 [fWO 31 0],
  reg 0x20044 "FEN_RX_POP" 0 [fWO 31 0],
  regN 0x20100 16 4 "FEN_TX_DATA" 0 [fRW 31 0],
  regN 0x20200 16 4 "FEN_RX_DATA" 0 [fRO 31 0],
  ctr 0x20400 "FEN_TX_MSGS",
  ctr 0x20408 "FEN_RX_MSGS",
  ctr 0x20410 "FEN_TX_ABSENT",
  ctr 0x20418 "FEN_ECC"]

def regsTrl : List Reg := [
  reg 0x30000 "TRL_CTL" 3 [fRW 0 0, fRW 1 1, fW1S 2 2],
  reg 0x30004 "TRL_STATUS" 0 [fRO 1 0, fW1C 2 2, fRO 5 3, fRO 11 8],
  regW 0x30008 "TRL_FLUSH_MS" 0x3E8 [fRWr 15 0 10 60000],
  ro64 0x30010 "TRL_SEQ",
  ro64 0x30018 "TRL_LEASE",
  rw64 0x30020 "TRL_WALL",
  ro64 0x30028 "TRL_TICK",
  regRO 0x30030 "TRL_BOOT",
  ro64 0x30038 "TRL_SEQ_HWM",
  reg 0x30040 "TRL_APP_HDR" 0 [fRWr 15 0 0 0xFFFE, fRW 22 16],
  reg 0x30044 "TRL_APP_COUNT" 1 [fRW 31 0],
  rw64 0x30048 "TRL_APP_WALL",
  regN 0x30050 4 4 "TRL_APP_ARG" 0 [fRW 31 0],
  reg 0x30060 "TRL_APP_GO" 0 [fWO 31 0],
  rw64 0x30080 "TRL_RD_SEQ",
  reg 0x30088 "TRL_RD_STATUS" 0 [fRO 4 0],
  regN 0x300A0 8 4 "TRL_RD_DATA" 0 [fRO 31 0],
  regN 0x30100 64 4 "TRL_LW" 0 [fRO 31 0],
  ctr 0x30200 "TRL_RECORDS",
  ctr 0x30208 "TRL_REPEATS",
  ctr 0x30210 "TRL_LOST",
  ctr 0x30218 "TRL_PAGES",
  ctr 0x30220 "TRL_NOR_ERR",
  ctr 0x30228 "TRL_SRAM_CORR"]

def regsI3c : List Reg := [
  reg 0x58000 "MGT_I3C_CTL" 0x3A01 [fRW 0 0, fRW 1 1, fRW 14 8],
  reg 0x58004 "MGT_I3C_STATUS" 0 [fRO 6 0, fRO 7 7, fRO 8 8, fRO 9 9],
  ctr 0x58100 "MGT_I3C_MSGS",
  ctr 0x58108 "MGT_I3C_ERR"]

def regsSys : List Reg := [
  reg 0x10000000 "SYS_ID" 0x964000B0 [fRO 31 16, fRO 7 0],
  reg 0x10000010 "SYS_MODE" 1 [fRO 3 0, fRO 7 4, fRO 15 8],
  reg 0x10000014 "SYS_STRAPS" 0 [fRO 3 0],
  reg 0x10000018 "SYS_PMON" 0x03200384 [fRO 11 0, fRO 27 16],
  regRO 0x10000020 "SYS_CFG_EPOCH",
  reg 0x10000024 "SYS_CFG_STATUS" 0 [fRO 1 0],
  regRO 0x10000028 "SYS_CFG_SHADOW_GEN",
  ctr 0x10000100 "SYS_MODE_DROP",
  ctr 0x10006000 "SYS_FEN_TX",
  ctr 0x10006008 "SYS_FEN_RX",
  ctr 0x10006010 "SYS_FEN_LOSSY",
  ctr 0x10006018 "SYS_FEN_BAD",
  ctr 0x10006020 "SYS_FEN_ECC"]

end Sys2Proof.Machine
end

