-- ==== Sys2Proof/Machine/RegsTest.lean ====
section
/-! DEFINITION. Register maps of chapters 14 to 16: UPD_, TST_, the test registers of the operator plane and the temperature
registers (Tables 14-13, 15-5, 15-6, R589). -/
namespace Sys2Proof.Machine

def regsUpd : List Reg := [
  reg 0x40000 "UPD_CTL" 0 [fW1S 2 0],
  reg 0x40004 "UPD_STATUS" 0 [fRO 31 0],
  regW 0x40008 "UPD_PROBATION_S" 0x12C [fRWr 16 0 30 86400],
  regRO 0x4000C "UPD_PROBATION_LEFT",
  regRO 0x40010 "UPD_NEXT",
  regRO 0x40014 "UPD_CLAIM_AGE",
  ro64 0x40020 "UPD_ACTIVE_VER",
  ro64 0x40028 "UPD_BACKUP_VER",
  ro64 0x40030 "UPD_KENNEL_VER",
  reg 0x40038 "UPD_SVN" 0 [fRO 23 0],
  reg 0x40040 "UPD_FUSE_CMD" 0 [fWO 3 0, fWO 5 4, fWO 31 31],
  reg 0x40044 "UPD_FUSE_STATUS" 0 [fRO 2 0, fRO 10 4],
  regN 0x40080 12 4 "UPD_FUSE_DATA" 0 [fWO 31 0],
  regN 0x40100 12 4 "UPD_ANCHOR0" 0 [fRO 31 0],
  regN 0x40140 12 4 "UPD_ANCHOR1" 0 [fRO 31 0],
  regN 0x40180 12 4 "UPD_ANCHOR2" 0 [fRO 31 0],
  regN 0x401C0 12 4 "UPD_ANCHOR3" 0 [fRO 31 0],
  regN 0x40200 12 4 "UPD_ANCHOR4" 0 [fRO 31 0],
  regN 0x40240 12 4 "UPD_ANCHOR5" 0 [fRO 31 0],
  ro64 0x40300 "UPD_MGT_MAC",
  ctr 0x40400 "UPD_REJECTS",
  ctr 0x40408 "UPD_STAGED",
  ctr 0x40410 "UPD_REVERTS"]

def regsTestOp : List Reg := [
  reg 0x200 "GLB_NOR_LB" 0 [fW1S 0 0, fW1C 1 1, fRO 2 2, fW1C 3 3, fRO 16 8],
  reg 0x50030 "MGT_TEST" 0x1E00 [fRWe 2 0 [0, 2, 3, 4], fRWr 15 8 1 255],
  reg 0x50034 "MGT_PRBS_CTL" 0 [fRW 3 0, fRW 7 4, fRW 8 8, fRW 9 9, fRW 10 10, fW1S 16 16, fRO 17 17, fW1C 18 18],
  ctr 0x50140 "MGT_PRBS_BITS",
  ctr 0x50148 "MGT_PRBS_ERR",
  reg 0x10044 "PWR_TEMP" 0 [fRO 7 0]]

def regsTst : List Reg := [
  reg 0x10900000 "TST_CTL" 0 [fRO 0 0],
  reg 0x10900004 "TST_POST" 0 [fRO 16 0],
  regN 0x10900010 2 4 "TST_LB_NET" 0 [fRWr 2 0 0 4],
  reg 0x10900018 "TST_LB_PCK" 0 [fRWe 2 0 [0, 3, 4], fRWe 6 4 [0, 3, 4], fRWe 10 8 [0, 3, 4], fRWe 14 12 [0, 3, 4]],
  reg 0x1090001C "TST_LB_DRAM" 0 [fRW 7 0],
  reg 0x10900020 "TST_LB_FLASH" 0 [fRW 15 0],
  reg 0x10900030 "TST_BIST_CTL" 0 [fRW 15 0, fW1S 31 31],
  reg 0x10900034 "TST_BIST_STATUS" 0 [fRO 17 0],
  reg 0x10900038 "TST_BIST_ADDR" 0 [fRO 27 0],
  ctr 0x10900040 "TST_RX_DROP",
  regN 0x10900100 2 0x40 "TST_FG_CTL" 0x40 [fRWr 13 0 64 9216, fRW 14 14, fRW 15 15, fRW 18 16],
  regN 0x10900104 2 0x40 "TST_FG_COUNT" 0 [fRW 31 0],
  ctrN 0x10900108 2 0x40 "TST_FG_SENT",
  ctrN 0x10900110 2 0x40 "TST_FG_GOOD",
  ctrN 0x10900118 2 0x40 "TST_FG_BAD",
  ctrN 0x10900120 2 0x40 "TST_FG_LOST",
  regN 0x10901000 36 0x40 "TST_PRBS_CTL" 0 [fRW 3 0, fRW 7 4, fRW 8 8, fRW 9 9, fRW 10 10, fW1S 16 16],
  regN 0x10901004 36 0x40 "TST_PRBS_STAT" 0 [fRO 0 0, fW1C 1 1],
  ctrN 0x10901008 36 0x40 "TST_PRBS_BITS",
  ctrN 0x10901010 36 0x40 "TST_PRBS_ERR",
  regN 0x10901018 36 0x40 "TST_PRBS_BITFAIL" 0 [fW1C 17 0]]

def regsTemp : List Reg := [
  regN 0x10000040 4 4 "SYS_TEMP" 0 [fRO 31 0],
  reg 0x10000050 "SYS_TEMP_MAX" 0 [fRO 7 0, fRO 11 8, fRC 23 16]]

end Sys2Proof.Machine
end

