-- ==== Sys2Proof/Machine/RegMap.lean ====
section
/-! DEFINITION. The whole register map (Table 1-7). -/
namespace Sys2Proof.Machine

def operatorRegs : List Reg := regsGlb ++ regsPwr ++ regsFen ++ regsTrl ++ regsMgt ++ regsI3c ++ regsUpd ++ regsTestOp

def servingRegs : List Reg :=
  regsSys ++ regsFetch ++ regsDsp ++ regsSt ++ regsNose ++ regsRtv ++ regsDrc ++ regsFlc ++ regsMac 0x10500000 ++ regsPhc ++ regsMac 0x10600000 ++ regsCph ++ regsPck ++ regsTst ++ regsTemp

/-- The register at `a`: operator plane below 0x1000_0000 (R33). -/
def lookupReg (a : Nat) : Option (Reg × Nat) :=
  if a < 0x10000000 then findReg operatorRegs a else findReg servingRegs a

/-- The value register `a` has after reset. -/
def resetOf (a : Nat) : Nat :=
  match lookupReg a with
  | some (r, _) => r.rst
  | none => 0

end Sys2Proof.Machine
end

