-- ==== Sys2Proof/Machine/TypesEngine.lean ====
section
/-! DEFINITION. Plain data of the engines, the dispatcher, tricks and the teams' jobs (chapters 05 and 06). -/
namespace Sys2Proof.Machine

/-- A 64-byte mesh message: the route word of Table 5-11 and bytes 8 to 63. -/
structure Msg where
  route : Nat
  body : Bytes
deriving DecidableEq, Repr

/-- A loop-stack entry (R220): body start, body end, remaining count. -/
structure LoopEnt where
  start : Nat
  stop : Nat
  count : Nat
deriving DecidableEq, Repr

/-- A job ticket (R228): free, busy, or done with its completion word (Table 5-14). -/
inductive Ticket
  | free
  | busy
  | done (word : Nat)
deriving DecidableEq, Repr

/-- Why a thread sleeps (R206): nothing, MRECV, WAIT, a Nose instruction, a stalled MSEND, a full job queue. -/
inductive Sleep
  | awake
  | mrecv (rd : Nat)
  | wait (rd mask : Nat) (all : Bool)
  | nose (rd : Nat)
  | msend (m : Msg)
deriving DecidableEq, Repr

/-- One hardware thread (R204, Table 5-2). `csrs`: the thread-scope CSRs that hold plain values, by number. -/
structure Thread where
  pc : Nat
  regs : Vector DWord 32
  kwin : Bytes
  rslot : Bytes
  tickets : List Ticket
  sysLoops : List LoopEnt
  mzLoops : List LoopEnt
  run : Bool
  muzzled : Bool
  intrap : Bool
  double : Bool
  sleep : Sleep
  csrs : Map Nat
  issued : Nat
  issuedSnap : Nat
  /-- The instruction after the MZENTER (R244). -/
  mzRet : Nat
  /-- After a YIELD: the other threads of the engine that were ready, with their issue counts; this one is passed over until each of those
  still ready has issued. -/
  yielded : List (Nat × Nat)
  /-- Offsets of 8-byte words of the key window and receive slot that are uncorrectable (R213). -/
  badWords : List Nat
deriving DecidableEq, Repr

def Thread.reset : Thread :=
  { pc := 0, regs := Vector.replicate 32 0, kwin := zeros 512, rslot := zeros 64,
    tickets := List.replicate 8 .free, sysLoops := [], mzLoops := [], run := false, muzzled := false,
    intrap := false, double := false, sleep := .awake, csrs := [], issued := 0, issuedSnap := 0, mzRet := 0,
    yielded := [], badWords := [] }

/-- One engine (Tables 5-1, 5-2). -/
structure Engine where
  /-- Message queue, oldest first, at most 16 (R226). -/
  queue : List Msg
  /-- Messages waiting in the mesh while the queue is full (R226). -/
  mesh : List Msg
  /-- Threads asleep in MRECV, in the order they began to wait (R227). -/
  waiters : List Nat
  role : Nat
  cycles : Nat
  cyclesSnap : Nat
  lsecc : Nat
  /-- Uncorrectable 8-byte words of the data store and of the instruction store (R213). -/
  badData : List Nat
  badInsn : List Nat
deriving DecidableEq, Repr

def Engine.reset : Engine :=
  { queue := [], mesh := [], waiters := [], role := 0, cycles := 0, cyclesSnap := 0, lsecc := 0, badData := [], badInsn := [] }

/-- What the dispatcher keeps for one engine (Table 6-14). `state`: 0 idle, 1 active, 2 draining, 3 stopped. -/
structure DEng where
  epoch : Nat
  role : Nat
  stopped : Nat
  state : Nat
  /-- Time of the last accepted assignment (R247). -/
  assigned : Option Nat
  /-- The TEAM_ROLE write not yet acknowledged: role and epoch. -/
  pendRole : Option (Nat × Nat)
deriving DecidableEq, Repr

def DEng.reset : DEng := { epoch := 0, role := 0, stopped := 0, state := 0, assigned := none, pendRole := none }

/-- A message waiting at the dispatcher: the frame of an intake message, time of the first bounce (R256). -/
structure DMsg where
  m : Msg
  frame : Option Nat
  bounced : Option Nat
  /-- 0 waiting; n + 1: on its way to engine n. -/
  flight : Nat
  /-- Sent by the dispatcher: ahead of a later TEAM_ROLE write on the same channel (R24, Table 6-5). -/
  sent : Bool
deriving DecidableEq, Repr

structure Disp where
  eng : Map DEng
  waiting : List DMsg
  rr : Nat
  /-- Stop notices on their way: engine, thread (R258). -/
  notices : List (Nat × Nat)
  /-- Threads that have stopped, and when (R259). -/
  stops : List (Nat × Nat)
  /-- Engines the lead engine withdraws once their other threads are idle (R259). -/
  withdraw : List Nat
deriving DecidableEq, Repr

/-- A DMA job (Table 5-16). -/
structure DmaJob where
  id : Nat
  thread : Nat
  ticket : Nat
  src : Nat
  dst : Nat
  len : Nat
  running : Bool
deriving DecidableEq, Repr

/-- An emit job (Table 5-18). -/
structure EmitJob where
  id : Nat
  thread : Nat
  ticket : Nat
  desc : Bytes
  /-- The transmit counter its frame used. -/
  counter : Nat
deriving DecidableEq, Repr

/-- A loaded trick (Table 6-7). -/
structure Trick where
  tenant : Nat
  entry : Nat
  budget : Nat
  keyslot : Option Nat
  code : Bytes
deriving DecidableEq, Repr

/-- The answer of a member to a forwarded operation of a trick service: the tag of its first request, status, ARG, what of the value has come,
and the length of the whole value. -/
structure FwdRes where
  first : Nat
  status : Nat
  arg : Nat
  val : Bytes
  whole : Nat
deriving DecidableEq, Repr

/-- One invocation of a trick on a thread (R272): the frame it serves, calls and writes made (R276), last write's version. -/
structure Invoke where
  frame : Nat
  slot : Nat
  trick : Trick
  calls : Nat
  writes : Nat
  lastVersion : Nat
  input : Bytes
  /-- A service's write under another position's counters (R88): the tag of its VER_REQ and the version granted. -/
  grant : Option (Nat × Option Nat)
  /-- Journal lines reserved for that write (R74). -/
  lines : Nat
  /-- A service's operation forwarded to the member that holds its key (R87): the tag of its FWD_REQ and the result. -/
  fwd : Option (Nat × Option FwdRes)
  /-- What has come of a value whose next part is asked for. -/
  part : Option FwdRes
  /-- Waiting for journal space (R74): 1 waiting, 2 its 1 ms is over. -/
  wait : Nat
  /-- The ticket of the service's cipher job. -/
  job : Option Nat
deriving DecidableEq, Repr

/-- The update of the handler areas, one engine after the other (R267). `stage`: 0 role none is to be assigned, 1 it is assigned and the threads
finish, 2 they run the new image and the former role is to be assigned. `due`: the cycle from which the next assignment is asked for. `next`: a
newer image that a commit has bound since. -/
structure Roll where
  engine : Nat
  stage : Nat
  role : Nat
  due : Nat
  image : Bytes
  next : Option Bytes
deriving DecidableEq, Repr

structure Tricks where
  slots : Map Trick
  invokes : Map Invoke
  /-- The operator handler image held, and the one being received (R266). -/
  handler : Option Bytes
  handlerIn : Bytes
  /-- The image that the handler areas hold, and the update of them in progress (R267). -/
  installed : Option Bytes
  roll : Option Roll
  /-- The code each trick thread's frame holds: slot and code. -/
  frames : Map (Nat × Bytes)
deriving DecidableEq, Repr

structure Jobs where
  dma : List DmaJob
  emits : List EmitJob
  nextId : Nat
  /-- Round-robin pointer of each team's mover among its engines (R262). -/
  rr : Map Nat
deriving DecidableEq, Repr

/-- The byte memories. Local stores are keyed engine × size + address, team SRAM team × 2^20 + address. -/
structure Mems where
  dstore : Memory
  istore : Memory
  team : Memory
  vcache : Memory
  dram : Memory
  /-- Poisoned lines (R42): space code of Table 5-17, line address. -/
  poison : List (Nat × Nat)
deriving DecidableEq, Repr

def Mems.wf (m : Mems) : Bool :=
  m.dstore.wf && m.istore.wf && m.team.wf && m.vcache.wf && m.dram.wf

end Sys2Proof.Machine
end

