-- ==== Sys2Proof/Machine/TypesNet.lean ====
section
/-! DEFINITION. Plain data of the network ports and the management port (chapter 09). -/
namespace Sys2Proof.Machine

/-- A frame in a transmit queue, without its FCS. `emit`: the FEMIT job that sent it. `stamp`: SEQ_ID of a PTP frame
that wants a timestamp. `bad`: a line of it is poisoned (R43). `quick`: in Retriever's reserve (R395). `sess`: the session it belongs to. -/
structure TxFrame where
  bytes : Bytes
  prio : Nat
  emit : Option Nat
  stamp : Option Nat
  bad : Bool
  quick : Bool
  sess : Option Nat
deriving DecidableEq, Repr

/-- A received frame held in cells (R381 to R384). `cells`: on-die cell numbers, the first cell first. `spill`: numbers of its
cells in the spill area. `raw`: as received; `data`: as stored, without tags. `fresh`: Retriever has not taken it. -/
structure RxFrame where
  cells : List Nat
  spill : List Nat
  prio : Nat
  raw : Bytes
  data : Bytes
  desc : Bytes
  intake : Bytes
  fresh : Bool
  /-- Core cycles at its arrival, step 1 of Table 1-9 (R250). -/
  at_ : Nat
deriving DecidableEq, Repr

/-- A timestamp queue entry (Table 9-8). -/
structure TsEnt where
  ns : Nat
  frac : Nat
  seqId : Nat
deriving DecidableEq, Repr

/-- The overflow marker (R408). -/
structure TsMark where
  ns : Nat
  first : Nat
  last : Nat
  count : Nat
deriving DecidableEq, Repr

structure Port where
  txq : List TxFrame
  sending : Option TxFrame
  /-- MAC control frames due: priority (8 for PAUSE) and quanta. -/
  ctl : List (Nat × Nat)
  /-- Frames sent on the wire, newest first, and whether the FCS of each was inverted (R43). -/
  wire : List (Bytes × Bool)
  /-- Frames turned around inside the device at a loopback depth of 1 to 3, not yet received, oldest first (R553). -/
  looped : List (Bytes × Bool)
  rx : List RxFrame
  /-- Paused priorities, with the quanta left when the pause was received (R400). -/
  paused : Map Nat
  /-- Priorities in watchdog hold-off (R401). -/
  hold : List Nat
  /-- Priorities with XOFF in force from this port; 8 for PAUSE (R399). -/
  xoff : List Nat
  ts : List TsEnt
  mark : Option TsMark
  /-- Tap copies waiting for the Fence, and tokens in 1/1,500,000,000 (R388). -/
  tapTokens : Nat
  /-- The operational gate entry in force, cycle and base (R402, R403). -/
  gate : Nat
  operLen : Nat
  operCycle : Nat
  operBase : Nat
  /-- A speed change in progress: the speed before and after (R410). -/
  change : Option (Nat × Nat)
  lastChange : Option Nat
  noAutoUntil : Nat
  /-- Bytes of line time received and sent in the present millisecond (MACn_UTIL). -/
  rxLoad : Nat
  txLoad : Nat
  /-- A module coming up (R379): what its transactions have answered so far, none when nothing is under way; whether the transaction on the bus
  is one of them; and whether its data path has been read activated. -/
  cmis : Option (List Bytes)
  cmisBusy : Bool
  dataPath : Bool
deriving DecidableEq, Repr

def Port.reset : Port :=
  { txq := [], sending := none, ctl := [], wire := [], looped := [], rx := [], paused := [], hold := [], xoff := [], ts := [], mark := none,
    tapTokens := 64 * 1500000000, gate := 0, operLen := 1, operCycle := 10000, operBase := 0, change := none,
    lastChange := none, noAutoUntil := 0, rxLoad := 0, txLoad := 0, cmis := none, cmisBusy := false,
    dataPath := false }

structure Net where
  port0 : Port
  port1 : Port
  /-- Frames in the management port's 32 receive slots, oldest first (R415). -/
  mgtRing : List Bytes
  mgtSent : List Bytes
deriving DecidableEq, Repr

end Sys2Proof.Machine
end

