-- ==== Sys2Proof/Machine/TypesCipher.lean ====
section
/-! DEFINITION. Plain data of the key store and the cipher lanes (chapter 10). -/
namespace Sys2Proof.Machine

/-- Key material and its 4-byte salt. -/
structure KMat where
  key : Bytes
  salt : Bytes
deriving DecidableEq, Repr

/-- One key slot (Table 10-5), or a collar page's contents (R434). `gen`: generation of CUR, kept when the slot empties
(R427). `grace`: SHADOW was filled by a REKEY whose grace time still runs (R426). `seals`: SEAL jobs of CUR's generation and
of SHADOW's (R436). -/
structure Slot where
  typ : Nat
  collar : Nat
  gen : Nat
  cur : Option KMat
  shadow : Option (KMat × Nat)
  grace : Bool
  next : Option KMat
  inflight : Nat
  inflightSh : Nat
  erasing : Bool
  pinned : Bool
  /-- The session whose material it holds. -/
  sess : Option Nat
  /-- When it was last used (R431). -/
  used : Nat
  seals : Nat
  sealsSh : Nat
deriving DecidableEq, Repr

def Slot.empty : Slot :=
  { typ := 0, collar := 0, gen := 0, cur := none, shadow := none, grace := false, next := none, inflight := 0, inflightSh := 0,
    erasing := false, pinned := false, sess := none, used := 0, seals := 0, sealsSh := 0 }

/-- A collar page: its tenant and its material (R434). -/
structure Collar where
  tenant : Nat
  page : Slot
deriving DecidableEq, Repr

def Collar.empty : Collar := { tenant := 0, page := Slot.empty }

inductive CState | queued | running | suspended
deriving DecidableEq, Repr

/-- A cipher job (Table 10-3). `bound`: the slot or collar page it is bound to and the generation (R424). `gone`: that
material was erased under it. -/
structure CJob where
  id : Nat
  thread : Nat
  ticket : Nat
  desc : Bytes
  state : CState
  bound : Option Nat
  gone : Bool
  /-- A job of the trick services SEAL and UNSEAL: the lane that runs it (R275, R435). Its addresses are data-space addresses of its
  thread, and nothing is delivered unless it ends OK. -/
  svc : Option Nat
deriving DecidableEq, Repr

/-- A frame in the restore queue (R431): port, cell address, session. -/
structure RestWait where
  port : Nat
  addr : Nat
  sess : Nat
deriving DecidableEq, Repr

structure Cipher where
  slots : Map Slot
  collars : Map Collar
  jobs : List CJob
  nextJob : Nat
  /-- The context KEK of R430. -/
  kek : Bytes
  /-- The restore queue, oldest first, at most 256; restores that run: session and slot, at most 8. -/
  queue : List RestWait
  restores : List (Nat × Nat)
  /-- DRBG requests and time since its last reseed (R440). -/
  drbgReqs : Nat
  drbgAt : Nat
deriving DecidableEq, Repr

def Cipher.reset : Cipher :=
  { slots := [], collars := [], jobs := [], nextJob := 0, kek := [], queue := [], restores := [], drbgReqs := 0, drbgAt := 0 }

end Sys2Proof.Machine
end

