-- ==== Sys2Proof/Machine/TypesDram.lean ====
section
/-! DEFINITION. Plain data of the DRAM controllers (chapter 08). -/
namespace Sys2Proof.Machine

/-- A line request (R343): its line by canonical address, what it writes, its port if a real-time one (0 N0, 1 N1, 2 the
flash feeder), and its arrival. A write carries its bytes and their mask and, once in its queue, the whole line; `old`: what a
read-modify-write finds in the line. A read in its queue carries the data it will deliver. -/
structure DReq where
  id : Nat
  ch : Nat
  line : Nat
  write : Bool
  partialMask : Bool
  data : Bytes
  mask : Bytes
  old : Ecc
  rt : Option Nat
  since : Nat
deriving DecidableEq, Repr

/-- A command on a channel's pins. `what`: 0 precharge, 1 activate, 2 read, 3 write, 4 refresh, 5 ZQ latch, 6 mode register
write, 7 mode register read, 8 training step, 9 power-down, 10 self-refresh entry, 11 its exit, 12 check-chunk read, 13 masked write of a line's
check bytes. -/
structure DCmd where
  ch : Nat
  what : Nat
  bank : Nat
  arg : Nat
deriving DecidableEq, Repr

/-- One channel: queues, open rows by rank × 16 + bank, write drain, refresh debt, check buffer by (bank, row, group),
power-down, and the error counts of the present 1 s window. -/
structure DChan where
  rq : List DReq
  wq : List DReq
  staging : List DReq
  rows : Map Nat
  drain : Bool
  debt : Nat
  forced : Bool
  down : Bool
  check : List Nat
  ceWin : Nat
  ueWin : Nat
deriving DecidableEq, Repr

def DChan.reset : DChan :=
  { rq := [], wq := [], staging := [], rows := [], drain := false, debt := 0, forced := false, down := false, check := [], ceWin := 0, ueWin := 0 }

/-- A training window: the delay bank in force when it opened, and whether it opened while ENABLE was 1 (R360, R361). -/
structure DWin where
  saved : List (Nat × Nat)
  live : Bool
deriving DecidableEq, Repr

/-- A training operation that runs (Table 8-6). -/
structure DTrain where
  ch : Nat
  rank : Nat
  op : Nat
  ma : Nat
  opd : Nat
deriving DecidableEq, Repr

structure Dram where
  chans : Map DChan
  /-- Requests in the mesh, oldest first. -/
  waiting : List DReq
  /-- Real-time requests in their FIFOs, by controller × 3 + port (R346). -/
  fifos : Map (List DReq)
  howl : List Nat
  nextId : Nat
  /-- Reads served, newest first: request, data. -/
  served : List (Nat × Bytes)
  /-- Commands driven, newest first. -/
  cmds : List DCmd
  /-- The target of a change in progress (R354). -/
  change : Option Nat
  windows : Map DWin
  train : Option DTrain
  /-- The scrubber's line number. -/
  scrub : Nat
  /-- Only masked segments are initialised (R359). -/
  partInit : Bool
deriving DecidableEq, Repr

def Dram.reset : Dram :=
  { chans := [], waiting := [], fifos := [], howl := [], nextId := 0, served := [], cmds := [], change := none, windows := [],
    train := none, scrub := 0, partInit := false }

end Sys2Proof.Machine
end

