-- ==== Sys2Proof/Machine/TypesUpdate.lean ====
section
/-! DEFINITION. Plain data of firmware update, the test unit and the test access port (chapters 14 and 15). -/
namespace Sys2Proof.Machine

/-- A descriptor of boot NOR (Table 14-5). `flags`: bit i is 1 where STATE flag i is set (R530, Table 14-6). `tries`: TRIES
bits set. `copied`: blocks whose COPIED bit is set. -/
structure Desc where
  length : Nat
  version : Nat
  svn : Nat
  hash : Bytes
  flags : Nat
  tries : Nat
  copied : List Nat
deriving DecidableEq, Repr

/-- An image area: its descriptor, none where it is empty, and the bytes the present download or copy has put there. -/
structure Area where
  desc : Option Desc
  data : Bytes
deriving DecidableEq, Repr

def Area.empty : Area := { desc := none, data := [] }

/-- The fuses software can program (Table 14-1): 48 zero bytes is blank (R523). `svn`: bits of the thermometer set. -/
structure Fuses where
  revoked : Nat
  opImage : Bytes
  opHandler : Bytes
  mgmtKey : Bytes
  svn : Nat
deriving DecidableEq, Repr

/-- The update claim (R533): holder 1 management port, 2 operator session; `at0`: its last accepted BEGIN, DATA or END. -/
structure Claim where
  holder : Nat
  session : Nat
  next : Nat
  at0 : Nat
deriving DecidableEq, Repr

structure Update where
  fuses : Fuses
  active : Area
  backup : Area
  kennel : Area
  claim : Option Claim
  lastUcode : Nat
  bootedBackup : Bool
  /-- The probation timer: when it started and its length in s (R540). -/
  probation : Option (Nat × Nat)
  /-- The serving plane has reported Heel or a later mode in this boot (R542). -/
  heelSeen : Bool
  /-- What the fuse command registers hold, and the command in progress: operation and vendor anchor (R524). -/
  fuseData : Map Nat
  fuseOp : Option (Nat × Nat)
  /-- Boot NOR runs in 8D-8D-8D, else in 1S-1S-1S (R574). -/
  norOctal : Bool
deriving DecidableEq, Repr

def Update.reset : Update :=
  { fuses := { revoked := 0, opImage := List.replicate 48 0, opHandler := List.replicate 48 0, mgmtKey := List.replicate 48 0, svn := 0 },
    active := Area.empty, backup := Area.empty, kennel := Area.empty, claim := none, lastUcode := 0, bootedBackup := false,
    probation := none, heelSeen := false, fuseData := [], fuseOp := none, norOctal := false }

/-- The frame generators and checkers by port: next sequence number sent and expected, frames sent since EN rose (R560, R561). -/
structure TestUnit where
  fgSeq : Map Nat
  fgExpect : Map Nat
  fgSent : Map Nat
  /-- The targets that the built-in test under way was started with (R566). -/
  bist : Nat
deriving DecidableEq, Repr

def TestUnit.reset : TestUnit := { fgSeq := [], fgExpect := [], fgSent := [], bist := 0 }

/-- The test access port (R562, R563): instruction register, boundary register of 2,848 cells in 356 bytes, and the cells its
update stage drives. -/
structure Tap where
  ir : Nat
  cells : Bytes
  driven : Bytes
deriving DecidableEq, Repr

/-- EXTEST, CLAMP, HIGHZ, EXTEST_PULSE or EXTEST_TRAIN stands in the instruction register (R564). -/
def Tap.drives (t : Tap) : Bool := [0, 3, 4, 5, 6].contains t.ir

def Tap.reset : Tap := { ir := 1, cells := List.replicate 356 0, driven := List.replicate 356 0 }

end Sys2Proof.Machine
end

