-- ==== Sys2Proof/Machine/Resets.lean ====
section
/-! DEFINITION. Every part of the state after reset: what the serving plane's reset leaves, the operator plane's, and the state
right after power-on (chapters 01, 11). -/
namespace Sys2Proof.Machine

def Disp.reset : Disp := { eng := [], waiting := [], rr := 0, notices := [], stops := [], withdraw := [] }
def Jobs.reset : Jobs := { dma := [], emits := [], nextId := 0, rr := [] }
def Tricks.reset : Tricks := { slots := [], invokes := [], handler := none, handlerIn := [], installed := none, roll := none, frames := [] }
def Mems.reset : Mems := { dstore := [], istore := [], team := [], vcache := [], dram := [], poison := [] }
def Keyspace.reset : Keyspace :=
  { keys := [], ns := [], snaps := [], nextSnap := 0, cursors := [], nextCursor := 0, buckets := [], mirrors := [], proxied := [],
    outReqs := [] }
def FetchSt.reset : FetchSt := { sessions := [], frames := [], nextFrame := 0, replays := [] }
def Nose.reset : Nose :=
  { ents := [], cursors := [], hcurs := [], reqs := [], seqn := none, wide := none, wideInMs := 0, cyc := 0, used := 0, rspUsed := 0,
    walk := 0, rsp := [], rspHole := 0, rr := [], packSlots := 0, rtvSlots := 0, progSlots := 0, rtvFrames := 0, rtvSearches := 0, ready := false, lvlTemp := 0, psearch := [], nextNum := 0, slotCtr := 0, syncOut := false, matchOut := false }
def Pack.reset : Pack :=
  { out := [], outMsgs := [], reqs := [], nextTag := 0, kept := [], heard := [], devices := [], ownHello := false,
    lossCount := 0, trainRounds := 0, segs := [], parts := [], moved := none }

/-- Flash as it leaves the factory: nothing written. -/
def Storage.reset : Storage :=
  { jrn := [], nextLine := 0, hard := [], runs := [], index := [], nbuckets := 0, segs := [], media := [], parity := [], images := [],
    stop := none, flush := none, nextRun := 1, nextSegSeq := 1, segLease := 0, boot := 0, jobs := [], nextJob := 0, accums := [],
    aborted := [], xts := 0, xtsSlot := 0, formatted := false, initing := [], braceErased := 0, badBlocks := [], lostGroups := [], log := [],
    logSet := 0, logDone := 0, suspend := false, tSlc := 0, braceFree := [], braceSeg := none, stopFresh := false, born := [], detached := [] }

/-- What a reset of the serving plane leaves: the flash packages' contents (Table 2-6); controller and DRAM state goes. -/
def Storage.svReset (x : Storage) : Storage :=
  { x with jrn := [], nextLine := 0, index := [], nbuckets := 0, flush := none, jobs := [], nextJob := 0, accums := [],
           aborted := [], initing := [], logSet := 0, logDone := 0, suspend := false, tSlc := 0, lostGroups := [], braceSeg := none, hard := x.hard.filter fun (h : HardRec) => h.programmed }

def CfgSet.empty : CfgSet := { epoch := 0, recs := [], dir := [] }
def NorHalf.blank : NorHalf := { valid := false, serial := 0, set := CfgSet.empty, keeperRec := [] }

/-- The Keeper record's defaults (Table 12-14). -/
def defaultKeeperRec : Bytes := List.replicate 20 0 ++ [0xAE, 0x1C, 1, 0] ++ List.replicate 40 0

def Cfg.reset : Cfg :=
  { active := CfgSet.empty, shadow := CfgSet.empty, prev := none, waiting := none, half0 := NorHalf.blank, half1 := NorHalf.blank,
    incoming := none, persisting := [] }
def Keeper.reset : Keeper :=
  { running := false, rcd := defaultKeeperRec, rxCounter := none, txCounter := 0, lastSrc := none, sent := [], heldReplies := [],
    i3cOut := [], tags := [], nextTag := 0, inbox := [], i3cParts := [], outQ := [], handlerIn := [], commits := [], kickAt := 0, storeTricks := [], storeHandler := none, loading := [], heardAt := 0,
    heartbeats := false }
def Fence.reset : Fence := { toS := [], toK := [], hold := none, cut := [], waiting := [], kept := [], keptLost := 0 }
def Trail.reset : Trail :=
  { ring := [], half0 := [], half1 := [], cur := 0, pos := 0, erased := 0, slotUsed := [false, false, false, false],
    slotPages := [[], [], [], []], lastWords := [], leaseNext := none, waiting := [], fromNor := none, looking := false,
    wallSet := false, braceSkip := false, braceAt := none }
def Power.reset : Power :=
  { base := .boot, prev := .recovery, brace := false, fault := false, drain := false, sit := false, step := 0, drainStep := 0,
    drainAfter := 0, wakeTo := 0, waking := false, aon := true, porstHigh := true, dip := false, svRstOut := false, svPgood := false,
    svPwrFail := false, stopped := false, pfail := false,
    sense := 0, warn := false, senseOk := false, reqBusy := false, testSeen := false }
def BraceState.reset : BraceState :=
  { running := false, done := false, since := 0, lowSense := 0, count := none, pendingFault := none, codes := [], sitFlush := false,
    after := 0 }
def Net.reset : Net := { port0 := Port.reset, port1 := Port.reset, mgtRing := [], mgtSent := [] }

end Sys2Proof.Machine
end

