-- ==== Sys2Proof/Machine/State.lean ====
section
/-! DEFINITION. The machine's state, its faults and refusals, and the state after reset. -/
namespace Sys2Proof.Machine

/-- A 64-bit register: its value and the one snapshot of R16. -/
structure Ctr where
  value : Nat
  snap : Nat
deriving DecidableEq, Repr

/-- The register file: registers by address where they differ from the value of their map, 64-bit registers by the
address of their low word. -/
structure Csrs where
  words : Map Nat
  ctrs : Map Ctr
deriving DecidableEq, Repr

/-- Why the machine stops. -/
inductive Fault
  /-- A boundary-scan instruction that drives the pins has been used: the functional state is undefined until PORST or
  AON_POR (R564). Raised by every command but those two and the test access port's own. Safe: nothing more can be proved. -/
  | functionalStateUndefined
deriving DecidableEq, Repr

/-- Commands with no meaning. -/
inductive Refusal
  /-- Raised only in the dispatch, for a row with no meaning yet. Safe. -/
  | notModelled (mnemonic : String)
deriving DecidableEq, Repr

structure State where
  /-- The commands waiting, first in first out. -/
  pending : List Instr
  /-- FAB cycles since the always-on block's power-on reset. -/
  now : Nat
  /-- Draws of free values so far (the model's own field). -/
  free : Nat
  /-- What the last read command returned (the model's own field). -/
  readData : List Nat
  csr : Csrs
  /-- The precision hardware clock (R405): time in 2^-32 ns. -/
  phc : Nat
  mem : Mems
  threads : Map Thread
  engines : Map Engine
  disp : Disp
  jobs : Jobs
  tricks : Tricks
  ks : Keyspace
  ft : FetchSt
  nose : Nose
  pack : Pack
  st : Storage
  net : Net
  cph : Cipher
  drc : Dram
  fence : Fence
  cfg : Cfg
  keeper : Keeper
  trail : Trail
  power : Power
  brace : BraceState
  upd : Update
  tst : TestUnit
  jtag : Tap
  /-- The functional state is undefined after a pin-driving boundary-scan instruction (R564). -/
  corrupt : Bool
deriving DecidableEq, Repr

/-- The machine right after VDD_AON power-on with PORST_N released, before the ROM has run: every register at the reset value of
its map, mode Boot, the serving plane held in reset, straps 0, boot NOR and flash blank (log entries 8 and 9). -/
def State.reset : State :=
  { pending := [], now := 0, free := 0, readData := [], csr := { words := [], ctrs := [] }, phc := 0, mem := Mems.reset,
    threads := [], engines := [], disp := Disp.reset, jobs := Jobs.reset, tricks := Tricks.reset, ks := Keyspace.reset,
    ft := FetchSt.reset, nose := Nose.reset, pack := Pack.reset, st := Storage.reset, net := Net.reset, cph := Cipher.reset,
    drc := Dram.reset, fence := Fence.reset, cfg := Cfg.reset, keeper := Keeper.reset, trail := Trail.reset, power := Power.reset,
    brace := BraceState.reset, upd := Update.reset, tst := TestUnit.reset, jtag := Tap.reset, corrupt := false }

end Sys2Proof.Machine
end

