-- ==== Sys2Proof/Machine/Ops.lean ====
section
/-! DEFINITION. The named operations over registers, counters, memories, threads and engines that every meaning uses. -/
namespace Sys2Proof.Machine

abbrev Out := Host.Outcome State Fault Refusal

/-! Registers as hardware sees them. -/

/-- The stored value of the register at `a`. -/
def State.rd (s : State) (a : Nat) : Nat := (mget s.csr.words a).getD (resetOf a)

/-- Hardware sets the register at `a`. -/
def State.wr (s : State) (a v : Nat) : State :=
  { s with csr := { s.csr with words := mset s.csr.words a (v % 2 ^ 32) } }

/-- Field [hi:lo] of the register at `a`. -/
def State.fld (s : State) (a hi lo : Nat) : Nat := bits (s.rd a) lo (hi - lo + 1)

def State.flag (s : State) (a i : Nat) : Bool := bit (s.rd a) i

/-- Hardware sets field [hi:lo] of the register at `a`. -/
def State.setFld (s : State) (a hi lo v : Nat) : State := s.wr a (setBits (s.rd a) lo (hi - lo + 1) v)

def State.setFlag (s : State) (a i : Nat) (b : Bool) : State := s.setFld a i i (b2n b)

/-- The value of the 64-bit register at `a`. -/
def State.c64 (s : State) (a : Nat) : Nat := match mget s.csr.ctrs a with
  | some c => c.value
  | none => 0

/-- Hardware sets the 64-bit register at `a`, its snapshot untouched. -/
def State.setC64 (s : State) (a v : Nat) : State :=
  let snap := match mget s.csr.ctrs a with
    | some c => c.snap
    | none => 0
  { s with csr := { s.csr with ctrs := mset s.csr.ctrs a { value := v % 2 ^ 64, snap := snap } } }

/-- A counter counts `n` events. -/
def State.bump (s : State) (a : Nat) (n : Nat := 1) : State := s.setC64 a (s.c64 a + n)

/-! Threads and engines. -/

def State.th (s : State) (t : Nat) : Thread := (mget s.threads t).getD Thread.reset
def State.setTh (s : State) (t : Nat) (h : Thread) : State := { s with threads := mset s.threads t h }
def State.en (s : State) (e : Nat) : Engine := (mget s.engines e).getD Engine.reset
def State.setEn (s : State) (e : Nat) (h : Engine) : State := { s with engines := mset s.engines e h }
def State.deng (s : State) (e : Nat) : DEng := (mget s.disp.eng e).getD DEng.reset
def State.setDEng (s : State) (e : Nat) (h : DEng) : State := { s with disp := { s.disp with eng := mset s.disp.eng e h } }

/-- The engine of thread `t`: cursor numbering of R156. -/
def engineOf (t : Nat) : Nat := t / 4

/-- The stop of team `m` (Table 1-2). -/
def teamStop (m : Nat) : Nat :=
  if m = 0 then 4 else if m = 1 then 7 else if m ≤ 5 then m + 6 else m + 7

/-- The team at stop `p`. -/
def stopTeam (p : Nat) : Option Nat :=
  if p = 4 then some 0 else if p = 7 then some 1 else if 8 ≤ p ∧ p ≤ 11 then some (p - 6)
  else if p = 13 then some 6 else if p = 14 then some 7 else none

/-- The stop of engine `e`'s team. -/
def engineStop (e : Nat) : Nat := teamStop (e / 8)

/-- g`i` of a thread; g0 reads 0 (R205). -/
def Thread.g (h : Thread) (i : Nat) : DWord := if i = 0 then 0 else (h.regs[i]?).getD 0

/-- Write g`i`; a write to g0 is discarded (R205). -/
def Thread.setG (h : Thread) (i : Nat) (v : DWord) : Thread :=
  if i = 0 then h else { h with regs := h.regs.setIfInBounds i v }

def Thread.csr (h : Thread) (n : Nat) : Nat := mgetD h.csrs n 0
def Thread.setCsr (h : Thread) (n v : Nat) : Thread := { h with csrs := mset h.csrs n v }

/-! Free values (log entry 4): a fresh opaque value each time. -/

def State.draw (s : State) : DWord × State := (Config.freeWord s.free, { s with free := s.free + 1 })
def State.drawBytes (s : State) (n : Nat) : Bytes × State :=
  (padTo n (Config.freeBytes s.free n), { s with free := s.free + 1 })

/-! Record updates used everywhere. -/

def State.setKs (s : State) (k : Keyspace) : State := { s with ks := k }
def State.setFt (s : State) (f : FetchSt) : State := { s with ft := f }
def State.setNose (s : State) (n : Nose) : State := { s with nose := n }
def State.setPack (s : State) (p : Pack) : State := { s with pack := p }
def State.setSt (s : State) (x : Storage) : State := { s with st := x }
def State.setMem (s : State) (m : Mems) : State := { s with mem := m }
def State.setFence (s : State) (f : Fence) : State := { s with fence := f }
def State.setCfg (s : State) (c : Cfg) : State := { s with cfg := c }
def State.setKeeper (s : State) (k : Keeper) : State := { s with keeper := k }
def State.setTrail (s : State) (t : Trail) : State := { s with trail := t }
def State.setPower (s : State) (p : Power) : State := { s with power := p }
def State.setBrace (s : State) (b : BraceState) : State := { s with brace := b }
def State.setDisp (s : State) (d : Disp) : State := { s with disp := d }
def State.setJobs (s : State) (j : Jobs) : State := { s with jobs := j }
def State.setTricks (s : State) (t : Tricks) : State := { s with tricks := t }

def State.setUpd (s : State) (u : Update) : State := { s with upd := u }
def State.setTst (s : State) (u : TestUnit) : State := { s with tst := u }
def State.setTap (s : State) (u : Tap) : State := { s with jtag := u }
def State.setDrc (s : State) (d : Dram) : State := { s with drc := d }
def State.setCph (s : State) (c : Cipher) : State := { s with cph := c }
def State.setNet (s : State) (n : Net) : State := { s with net := n }
/-- Network port 0 or 1. -/
def State.port (s : State) (p : Nat) : Port := if p = 0 then s.net.port0 else s.net.port1
def State.setPort (s : State) (p : Nat) (x : Port) : State :=
  if p = 0 then s.setNet { s.net with port0 := x } else s.setNet { s.net with port1 := x }
/-- The register block of a port (R413). -/
def macBase (p : Nat) : Nat := if p = 0 then 0x10500000 else 0x10600000

/-! Hash functions the specification writes out. -/

def crc16Bit (c : Nat) : Nat := if c / 2 ^ 15 = 1 then ((c * 2) % 2 ^ 16) ^^^ 0x1021 else c * 2
def crc16Byte (c : Nat) (b : Byte) : Nat :=
  let c := c ^^^ (b.toNat * 256)
  crc16Bit (crc16Bit (crc16Bit (crc16Bit (crc16Bit (crc16Bit (crc16Bit (crc16Bit c)))))))

/-- The CRC-16 of R145 before its replacement of 0. -/
def crc16 (b : Bytes) : Nat := b.foldl crc16Byte 0xFFFF

/-- The tail hash of a key (R145): 0 for a key of 16 bytes or fewer, never 0 above. -/
def tailHash (k : Bytes) : Nat :=
  if k.length ≤ 16 then 0 else let c := crc16 (k.drop 16); if c = 0 then 1 else c

def crc32cBit (c : Nat) : Nat := if c % 2 = 1 then (c / 2) ^^^ 0x82F63B78 else c / 2
def crc32cByte (c : Nat) (b : Byte) : Nat :=
  let c := c ^^^ b.toNat
  crc32cBit (crc32cBit (crc32cBit (crc32cBit (crc32cBit (crc32cBit (crc32cBit (crc32cBit c)))))))

/-- CRC-32C with the parameters of R236: reflected 0x1EDC_6F41, initial value and final XOR all ones. -/
def crc32c (b : Bytes) : Nat := (b.foldl crc32cByte 0xFFFFFFFF) ^^^ 0xFFFFFFFF

/-- KHASH32 of a namespace and key (R236). -/
def khash32 (ns : Nat) (k : Bytes) : Nat := crc32c (leBytes 2 ns ++ k)

/-- The order word of a key (R143, R146): NSID, head, tail hash. -/
def orderWord (ns : Nat) (k : Bytes) : Nat := ns % 4096 * 2 ^ 144 + beNat (padTo 16 k) * 2 ^ 16 + tailHash k

/-- The namespace of an order word. -/
def orderNs (w : Nat) : Nat := w / 2 ^ 144 % 4096

/-- Fetch key order (R51): heads, tail hashes, whole keys. -/
def keyLt (a b : Bytes) : Bool :=
  let x := beNat (padTo 16 a); let y := beNat (padTo 16 b)
  if x ≠ y then x < y else if tailHash a ≠ tailHash b then tailHash a < tailHash b else bytesLt a b

/-- R49: 1 to 512 bytes, and a key of 16 or fewer does not end in 0x00. -/
def keyOk (k : Bytes) : Bool :=
  decide (1 ≤ k.length) && decide (k.length ≤ 512) && (decide (16 < k.length) || k.getLast? != some 0)

/-! Planes and modes. -/

/-- The serving plane runs: out of reset, clocked. -/
def State.svUp (s : State) : Bool := s.power.svRstOut && !s.power.stopped
/-- The Fence reports the serving side present: out of reset (R481). -/
def State.svPresent (s : State) : Bool := s.power.svRstOut
/-- The operator plane runs: VDD_AON, PORST_N high, no reset level. -/
def State.opUp (s : State) : Bool := s.power.aon && s.power.porstHigh && !s.power.dip

/-- Ports and dispatcher stand still and no write is admitted: Brace, Fault, or a Brace sequence that runs (Table 7-10). -/
def State.halted (s : State) : Bool := s.power.brace || s.power.fault || s.brace.running

/-- Doze: a port runs below SPEED, or a change of its speed is under way from step 1 on (R446). -/
def State.dozing (s : State) : Bool :=
  s.flag 0x10500004 8 || s.flag 0x10600004 8 || (s.port 0).change.isSome || (s.port 1).change.isSome

/-- The mode of the device: the first condition that holds, in the order of R447. -/
def State.modeNow (s : State) : Mode :=
  if s.power.brace then .brace else if s.power.fault then .fault else if s.power.drain then .drain else if s.power.sit then .sit
  else if s.power.base = .serve ∧ s.dozing = true then .doze else s.power.base

/-- PREV follows every change of mode (Table 11-11). -/
def State.track (old new : State) : State :=
  if new.modeNow = old.modeNow then new else { new with power := { new.power with prev := old.modeNow } }

/-- A change of the mode's conditions. -/
def State.modeTo (s : State) (p : Power) : State := s.track (s.setPower p)

/-! The three ways a command meets the machine: on the serving plane, on the operator plane, on neither. A command whose
plane is in reset or unclocked has no effect (log entry 2). After R564 the functional state is undefined. None of them touches the
queue it came from, or the test access port. -/

def State.onAny (s : State) (f : State → State) : Out :=
  if s.corrupt then .fault .functionalStateUndefined
  else .next { f s with pending := s.pending, jtag := s.jtag, corrupt := s.corrupt }

def State.onSv (s : State) (f : State → State) : Out := s.onAny fun s => if s.svUp then f s else s

def State.onOp (s : State) (f : State → State) : Out := s.onAny fun s => if s.opUp then f s else s

/-- The same for commands that may lower or raise a port (R446). -/
def State.onSvM (s : State) (f : State → State) : Out := s.onSv fun s => s.track (f s)

end Sys2Proof.Machine
end

