-- ==== Sys2Proof/Machine/Trail.lean ====
section
/-! DEFINITION. The Trail (chapter 13): appends and repeats, leases, the NOR log, lookups, Brace slots, start. -/
namespace Sys2Proof.Machine

def rTrlCtl : Nat := 0x30000
def rTrlStatus : Nat := 0x30004
def rTrlSeq : Nat := 0x30010
def rTrlLease : Nat := 0x30018
def rTrlWall : Nat := 0x30020
def rTrlTick : Nat := 0x30028
def rTrlBoot : Nat := 0x30030
def rTrlHwm : Nat := 0x30038
def rTrlRdSeq : Nat := 0x30080

/-- Event codes of Table 13-4 used by name. -/
def evTrailLease : Nat := 0x0001
def evTrailFailed : Nat := 0x0002
def evEventsLost : Nat := 0x0003
def evTrailStart : Nat := 0x0004
def evClockStep : Nat := 0x0005
def evBraceSkip : Nat := 0x0006

/-- The codes marked as alarms (Table 13-4), with the update events UPD of chapter 14 marked there. -/
def isAlarm (code : Nat) : Bool :=
  [0x0002, 0x0100, 0x0102, 0x0104, 0x0106, 0x0402, 0x0403, 0x0404, 0x0600, 0x0206, 0x0209, 0x020B, 0x020C].contains code

/-- The sources of Table 13-3; any other is recorded as 0x08 (R519). -/
def sourceOk (n : Nat) : Bool :=
  n ≤ 3 || n = 8 || (0x10 ≤ n && n < 0x20) || (0x40 ≤ n && n < 0x80)
def sourceOf (n : Nat) : Nat := if sourceOk n then n else 8

/-- How many records the Trail holds: 16,384, or the 8 last-word registers under R517. -/
def State.ringCap (s : State) : Nat := if s.flag rTrlStatus 0 then 8 else 16384

/-- The 32 bytes of a record (Table 13-1). -/
def TRec.bytes (r : TRec) : Bytes :=
  if r.arg then leBytes 6 r.seq ++ leBytes 2 0xFFFF ++ padTo 16 r.args ++ zeros 6 ++ leBytes 2 r.touch
  else leBytes 6 r.seq ++ leBytes 2 r.code ++ leBytes 8 r.wall ++ leBytes 4 r.boot ++ leBytes 6 r.tick
    ++ leBytes 1 (r.src % 128 + (if r.follow then 128 else 0)) ++ leBytes 3 r.rep ++ leBytes 2 r.touch

/-- A reply or an ALARM waits for the I3C target's master: it raises an in-band interrupt with byte 0xA0, on SMBus it asserts ALERT_N (R488). -/
def State.i3cWaits (s : State) : Bool := s.flag 0x58000 0 && !s.keeper.i3cOut.isEmpty
def State.inBandInterrupt (s : State) : Option Byte := if s.i3cWaits && !s.flag 0x58000 1 then some 0xA0 else none

/-- ALERT_N is held low by TRL_STATUS.ALARM, by Fault, or by a reply that waits on SMBus (R461, R488, R520). -/
def State.alertLow (s : State) : Bool := s.flag rTrlStatus 2 || s.power.fault || (s.i3cWaits && s.flag 0x58000 1)

/-- A datagram leaves on the management port under the Keeper's own increasing COUNTER (R487, R532). -/
def State.mgtOut (s : State) (d : Datagram) : State :=
  let k := s.keeper
  (s.setKeeper { k with sent := { d with counter := k.txCounter + 1 } :: k.sent, txCounter := k.txCounter + 1 }).bump 0x50118

/-- The Keeper sends an ALARM message on the operator channels (R487, R488, R520). -/
def State.alarmOut (s : State) (payload : Bytes) : State :=
  let msg := padTo 64 (leBytes 6 0 ++ leBytes 2 0x61 ++ [3, 0, BitVec.ofNat 8 payload.length, 0] ++ zeros 4 ++ payload)
  let s := s.setKeeper { s.keeper with i3cOut := s.keeper.i3cOut ++ [msg] }
  match s.keeper.lastSrc with
  | some (a, p) => s.mgtOut { addr := a, port := p, counter := 0, image := false, msgs := [msg] }
  | none => s

/-- The EVENT payload (Table 12-3). -/
def eventPayload (code src count wall : Nat) (args : Bytes) : Bytes :=
  leBytes 2 code ++ leBytes 2 src ++ leBytes 4 count ++ leBytes 8 wall ++ padTo 16 args

/-- The newest event: the newest head and its argument bytes (R507). -/
def newestHead : List RingRec → Option (RingRec × Bytes)
  | [] => none
  | x :: t => if x.r.arg then (match t with
      | y :: _ => some (y, x.r.args)
      | [] => none) else some (x, zeros 16)

/-- Close the newest event. -/
def closeNewest : List RingRec → List RingRec
  | [] => []
  | x :: t => if x.r.arg then { x with opened := false } :: (match t with
      | y :: u => { y with opened := false } :: u
      | [] => []) else { x with opened := false } :: t

/-- The last words follow every append and repeat (R517). -/
def State.syncLast (s : State) : State :=
  s.setTrail { s.trail with lastWords := (s.trail.ring.take 8).map (·.r) }

/-- Put one record on the ring; one overwritten before it reached NOR is lost (R510). -/
def State.pushRec (s : State) (r : TRec) : State :=
  let ring := { r := r, opened := true, written := false, unflushed := s.flag rTrlStatus 1 } :: s.trail.ring
  let lost := (ring.drop s.ringCap).filter (fun x => !x.written)
  let s := s.setTrail { s.trail with ring := ring.take s.ringCap }
  let s := s.bump 0x30210 lost.length
  let s := s.setC64 rTrlSeq (r.seq + 1)
  let s := s.setC64 rTrlHwm r.seq
  s.bump 0x30200

/-- A new event: a head record, and an argument record when an argument byte is not zero (R503, R504). -/
def State.newEvent (s : State) (code src wall count : Nat) (args : Bytes) : State :=
  let follow := args.any (· != 0)
  let seq := s.c64 rTrlSeq
  let s := s.setTrail { s.trail with ring := closeNewest s.trail.ring }
  let head : TRec :=
    { seq := seq, arg := false, code := code, wall := wall, boot := s.rd rTrlBoot,
      tick := s.c64 rTrlTick, src := src, follow := follow, rep := min (count - 1) 0xFFFFFF, touch := 0, args := zeros 16 }
  let s := s.pushRec head
  let s := if follow then s.pushRec { head with seq := seq + 1, arg := true, code := 0xFFFF, args := padTo 16 args } else s
  let s := if isAlarm code then s.setFlag rTrlStatus 2 true else s
  s.syncLast

/-- The repeat of R507: the head takes the new times and counts. -/
def repHead (wall tick count : Nat) (x : RingRec) : RingRec :=
  { x with r := { x.r with rep := min (x.r.rep + count) 0xFFFFFF, wall := wall, tick := tick, touch := (x.r.touch + 1) % 65536 } }

def State.repeatEvent (s : State) (wall count : Nat) : State :=
  let f := repHead wall (s.c64 rTrlTick) count
  let ring := match s.trail.ring with
    | [] => []
    | x :: t => if x.r.arg then x :: (match t with
        | y :: u => f y :: u
        | [] => []) else f x :: t
  ((s.setTrail { s.trail with ring := ring }).bump 0x30208).syncLast

/-- The lease of R513: near its end a TRAIL_LEASE record is appended; its page programs at once, or without a wait
while NOR_FAILED stands. -/
def State.leaseCheck (s : State) : State :=
  if s.trail.leaseNext.isNone ∧ s.c64 rTrlLease ≤ s.c64 rTrlSeq + 32768 then
    let e := s.c64 rTrlSeq + 65536
    let s := s.newEvent evTrailLease 0 (s.c64 rTrlWall) 1 (leBytes 8 e ++ zeros 8)
    let s := s.setTrail { s.trail with ring := closeNewest s.trail.ring }
    if s.flag rTrlStatus 1 then s.setC64 rTrlLease e else s.setTrail { s.trail with leaseNext := some e }
  else s

/-- One append (R503 to R507, R513). One that would take a SEQ at or past the lease end waits, and those after it wait behind it. -/
def State.append (s : State) (a : TAppend) : State :=
  let wall := if a.wall = 0 then s.c64 rTrlWall else a.wall
  let count := max a.count 1
  let args := padTo 16 a.args
  let same := match newestHead s.trail.ring with
    | some (x, xa) => x.opened && x.r.code = a.code && x.r.src = a.src && xa = args
    | none => false
  let behind := s.trail.leaseNext.isSome && !s.trail.waiting.isEmpty
  if same && !behind then s.repeatEvent wall count
  else if behind || (s.trail.leaseNext.isSome && decide (s.c64 rTrlLease ≤ s.c64 rTrlSeq + b2n (args.any (· != 0)))) then
    (s.setFlag rTrlStatus 4 true).setTrail { s.trail with waiting := s.trail.waiting ++ [a] }
  else (s.newEvent a.code a.src wall count args).leaseCheck

/-- An own record of the Trail (R592): appended whatever ENABLE holds. An alarm goes out on the operator channels. -/
def State.ownRecord (s : State) (code : Nat) (args : Bytes) : State :=
  let s := s.append { own := true, code := code, src := 0, wall := 0, count := 1, args := args }
  if isAlarm code then s.alarmOut (eventPayload code 0 1 (s.c64 rTrlWall) args) else s

/-- An append by the Keeper firmware through TRL_APP_GO (R592): ignored while ENABLE is 0 or APP_BUSY is 1. -/
def State.keeperAppend (s : State) (code src wall count : Nat) (args : Bytes) : State :=
  if s.flag rTrlCtl 0 && !s.flag rTrlStatus 3 then
    s.append { own := false, code := code, src := src, wall := wall, count := count, args := args }
  else s

/-- An event of the Keeper's own (R505): an alarm goes out on the operator channels unless it is a repeat (R520). -/
def State.keeperEvent (s : State) (code src : Nat) (args : Bytes) : State :=
  if s.opUp then
    let t := s.keeperAppend code src 0 1 args
    if isAlarm code ∧ s.flag rTrlCtl 0 = true ∧ s.flag rTrlStatus 3 = false ∧ t.c64 0x30208 = s.c64 0x30208 then
      t.alarmOut (eventPayload code src 1 (s.c64 rTrlWall) args)
    else t
  else s

/-- Appends that waited for a lease enter in order. -/
def appendAll : List TAppend → State → State
  | [], s => s
  | a :: t, s => appendAll t (s.append a)

def State.releaseWaiting (s : State) : State :=
  let w := s.trail.waiting
  appendAll w ((s.setTrail { s.trail with waiting := [] }).setFlag rTrlStatus 4 false)

/-- The Trail's reaction to a failed NOR operation (R518). -/
def State.norFail (s : State) (addr : Nat) : State :=
  let s := (s.bump 0x30220).setFlag rTrlStatus 1 true
  let s := s.setTrail { s.trail with ring := s.trail.ring.map fun x => { x with unflushed := x.unflushed || !x.written } }
  let s := match s.trail.leaseNext with
    | some e => (s.setC64 rTrlLease e).setTrail { s.trail with leaseNext := none }
    | none => s
  (s.ownRecord evTrailFailed (leBytes 4 2 ++ leBytes 4 addr ++ zeros 8)).releaseWaiting

/-- The Trail's reaction to an uncorrectable ring word (R517): it keeps on in the last-word registers. -/
def State.sramFail (s : State) (addr : Nat) : State :=
  if s.flag rTrlStatus 0 then s else
  let lost := (s.trail.ring.filter (fun x => !x.written)).length
  let s := (s.bump 0x30210 lost).setFlag rTrlStatus 0 true
  let s := s.setTrail { s.trail with ring := s.trail.ring.take 8 }
  s.ownRecord evTrailFailed (leBytes 4 1 ++ leBytes 4 addr ++ zeros 8)

/-- What a ring read found (R517). -/
def State.ringRead (s : State) (e : Ecc) (addr : Nat) : State :=
  match e with
  | .good => s
  | .corrected => s.bump 0x30228
  | .bad => s.sramFail addr

def Trail.half (t : Trail) : Map LogPage := if t.cur = 0 then t.half0 else t.half1

/-- The oldest unwritten closed records, up to 7, oldest first (R510). -/
def Trail.due (t : Trail) : List RingRec :=
  ((t.ring.filter fun x => !x.written && !x.opened).reverse).take 7

def markWritten (seqs : List Nat) (x : RingRec) : RingRec :=
  if seqs.contains x.r.seq then { x with written := true, unflushed := false } else x

/-- R510 to R513: program one page; `ok`: it programs and reads back. -/
def State.programPage (s : State) (ok : Bool) : State :=
  let due := s.trail.due
  if due.isEmpty || !s.flag rTrlCtl 1 || s.flag rTrlStatus 1 then s
  else if !ok then s.norFail (0x3010000 + s.trail.cur * 0x400000 + s.trail.pos * 256)
  else
    let t : Trail := s.trail
    let page : LogPage := { recs := due.map (·.r), boot := s.rd rTrlBoot, brace := false }
    let t : Trail := if t.cur = 0 then { t with half0 := mset t.half0 t.pos page } else { t with half1 := mset t.half1 t.pos page }
    let t : Trail := { t with ring := t.ring.map (markWritten (due.map (·.r.seq))), pos := t.pos + 1 }
    let t := if t.pos = 16384 ∧ t.erased = 64 then { t with cur := 1 - t.cur, pos := 0, erased := 0 } else t
    let s := (s.setTrail t).bump 0x30218
    match s.trail.leaseNext with
    | some e => if (s.trail.ring.any fun x => x.r.code = evTrailLease && !x.r.arg && !x.written) then s
      else ((s.setC64 rTrlLease e).setTrail { s.trail with leaseNext := none }).releaseWaiting
    | none => s

def findPage : Map LogPage → Nat → Option TRec
  | [], _ => none
  | (_, p) :: t, seq => match p.recs.find? (·.seq = seq) with
    | some r => some r
    | none => findPage t seq

/-- R515: every used slot whose records the log holds is erased. -/
def State.inLog (s : State) (seq : Nat) : Bool :=
  (findPage s.trail.half0 seq).isSome || (findPage s.trail.half1 seq).isSome

def State.trailFreeSlots (s : State) : State :=
  let t := s.trail
  let held := t.slotPages.map fun ps => ps.all fun p => p.recs.all fun r => s.inLog r.seq
  let used := (t.slotUsed.zip held).map fun (u, h) => u && !h
  let pages := (t.slotPages.zip held).map fun (p, h) => if h then [] else p
  s.setTrail { t with slotUsed := used, slotPages := pages }

/-- TRAIL_PAGE_PROGRAM (R510): a page is due and the current half has room. -/
def trailPageProgram (ok : Bool) (s : State) : State :=
  if s.trail.pos < 16384 then
    let t := s.programPage ok
    if t.power.brace then t else t.trailFreeSlots
  else s

/-- R512: one 64 KiB block of the other half is erased, once the current half is 75 % full. -/
def trailHalfErase (ok : Bool) (s : State) : State :=
  let t : Trail := s.trail
  if t.pos < 12288 ∨ 64 ≤ t.erased ∨ s.flag rTrlStatus 1 ∨ !s.flag rTrlCtl 1 then s
  else if !ok then s.norFail (0x3010000 + (1 - t.cur) * 0x400000 + t.erased * 0x10000)
  else
    let cut := fun (h : Map LogPage) => h.filter fun e => e.1 / 256 != t.erased
    let t : Trail := if t.cur = 0 then { t with half1 := cut t.half1 } else { t with half0 := cut t.half0 }
    let t : Trail := { t with erased := t.erased + 1 }
    let t := if t.pos = 16384 ∧ t.erased = 64 then { t with cur := 1 - t.cur, pos := 0, erased := 0 } else t
    s.setTrail t

/-- No loopback pattern occupies boot NOR (R556): while one does, no other program, erase or lookup ends. -/
def State.norFree (s : State) : Bool := !s.flag 0x200 0

/-- EVENT_CLOSE (R507): the newest event has gone TRL_FLUSH_MS without an update. -/
def trailEventClose (s : State) : State := s.setTrail { s.trail with ring := closeNewest s.trail.ring }

/-- R509: the ring first (or the last-word registers), then the NOR log. -/
def trailLookup (seq : Nat) (e : Ecc) (s : State) : State :=
  let s := s.setC64 rTrlRdSeq (seq % 2 ^ 48)
  let s := s.ringRead e 0
  let inRing := s.trail.ring.any (·.r.seq = seq % 2 ^ 48)
  s.setTrail { s.trail with fromNor := none, looking := !inRing }

/-- The NOR lookup ends (R509). -/
def trailLookupDone (s : State) : State :=
  if s.trail.looking then
    let seq := s.c64 rTrlRdSeq
    let r := match findPage s.trail.half0 seq with
      | some r => some r
      | none => findPage s.trail.half1 seq
    s.setTrail { s.trail with fromNor := r, looking := false }
  else s

/-- TRL_RD_STATUS and the record shown, as a read finds them now (R509). -/
def State.trlShown (s : State) : Nat × Bytes :=
  match s.trail.ring.find? (·.r.seq = s.c64 rTrlRdSeq) with
  | some x => (1 + (if x.unflushed then 8 else 0) + (if x.opened then 16 else 0), x.r.bytes)
  | none => if s.trail.looking then (2, zeros 32) else match s.trail.fromNor with
    | some r => (5, r.bytes)
    | none => (0, zeros 32)

/-- TRL_STATUS bits that mirror the Trail's state: ERASING, SLOTS_ERASED. -/
def State.trlStatusBits (s : State) : Nat :=
  let er := if 0 < s.trail.erased ∧ s.trail.erased < 64 then 32 else 0
  let sl := (s.trail.slotUsed.zipIdx.map fun (u, i) => if u then 0 else 2 ^ (8 + i)).sum
  er + sl

/-- R505: the step is recorded under the old wall time (Table 13-6), and the new one is loaded. -/
def trailWallWrite (v : Nat) (s : State) : State :=
  let s := s.ownRecord evClockStep (leBytes 8 (s.c64 rTrlWall) ++ leBytes 8 v)
  (s.setC64 rTrlWall v).setTrail { s.trail with wallSet := true }

/-- R518: NOR_RETRY tests a page program. -/
def trailNorRetry (ok : Bool) (s : State) : State :=
  if !s.flag rTrlStatus 1 then s
  else if ok then
    (s.setFlag rTrlStatus 1 false).setTrail { s.trail with ring := s.trail.ring.map fun x => { x with unflushed := false } }
  else s.bump 0x30220

/-- R514: at Brace entry the newest records go to the lowest erased slot, the newest page first. -/
def chunk7 : Nat → List TRec → List (List TRec)
  | 0, _ => []
  | n + 1, l => if l.isEmpty then [] else l.take 7 :: chunk7 n (l.drop 7)

def setNth {α : Type} (l : List α) (i : Nat) (v : α) : List α := l.zipIdx.map fun (x, j) => if j = i then v else x

def State.trailBrace (s : State) : State :=
  let s := s.setTrail { s.trail with ring := closeNewest s.trail.ring }
  if s.flag rTrlStatus 1 || !s.flag rTrlCtl 1 then s else
  match s.trail.slotUsed.findIdx? (!·) with
  | none => s.setTrail { s.trail with braceSkip := true }
  | some i =>
    let recs := (s.trail.ring.take (if s.flag rTrlStatus 0 then 8 else 512)).map (·.r)
    let pages := (chunk7 74 recs).map fun l => ({ recs := l, boot := s.rd rTrlBoot, brace := true } : LogPage)
    let s := s.setTrail { s.trail with slotUsed := setNth s.trail.slotUsed i true, slotPages := setNth s.trail.slotPages i pages, braceAt := some (i, s.now) }
    s.bump 0x30218 pages.length

/-- A reset of the operator plane leaves of the Brace slot the pages programmed by then (R514). -/
def State.cutBrace (s : State) : State :=
  match s.trail.braceAt with
  | none => s
  | some (i, t0) =>
    let kept := ((s.trail.slotPages[i]?).getD []).take ((s.now - t0) / Config.norPageTime)
    s.setTrail { s.trail with slotPages := setNth s.trail.slotPages i kept, braceAt := none }

/-- After a return or at start: TRAIL_BRACE_SKIP where Brace found no erased slot (R514). -/
def State.trailAfterBrace (s : State) : State :=
  let s := if s.trail.braceSkip then (s.setTrail { s.trail with braceSkip := false }).ownRecord evBraceSkip (zeros 16) else s
  s.trailFreeSlots

def pagesRecs (m : Map LogPage) : List TRec := m.flatMap fun e => e.2.recs

/-- The lease end a TRAIL_LEASE head at `seq` announced: its argument record carries it. -/
def leaseEnds (l : List TRec) : List Nat :=
  (l.filter fun r => r.code = evTrailLease && !r.arg).filterMap fun h =>
    (l.find? fun r => r.arg && r.seq = h.seq + 1).map fun r => leNat (r.args.take 8)

/-- Pages until none is due, a half is full or a program fails. -/
def drainPages (ok : Bool) : Nat → State → State
  | 0, s => s
  | n + 1, s => if s.trail.due.isEmpty || decide (16384 ≤ s.trail.pos) || s.flag rTrlStatus 1 then s else drainPages ok n (s.programPage ok)

/-- Table 13-5 (R516), with R506 and R513; `ok`: the ring's test passes; `page`: its pages program and read back. -/
def State.trailStart (s : State) (ok page : Bool) : State :=
  let keep := s.trail
  let log := pagesRecs keep.half0 ++ pagesRecs keep.half1
  let slots := keep.slotPages.flatMap fun ps => ps.flatMap (·.recs)
  let all := log ++ slots
  let topLog := (log.map (·.seq)).foldl max 0
  let boots := ((keep.half0.map fun e => e.2.boot) ++ (keep.half1.map fun e => e.2.boot) ++
    keep.slotPages.flatMap fun ps => ps.map (·.boot)).foldl max 0
  let lease := (leaseEnds all).foldl max 0
  let boot := max (s.rd rTrlBoot) boots + 1
  let seq := max (s.c64 rTrlHwm + 1) lease
  let copies := ((slots ++ keep.lastWords).filter fun r => topLog < r.seq || log.isEmpty)
  let sorted := copies.foldl (fun (m : Map TRec) r => mset m r.seq r) []
  let ring := (sorted.reverse).map fun e => ({ r := e.2, opened := false, written := false, unflushed := false } : RingRec)
  let s := (s.wr rTrlBoot boot).setC64 rTrlSeq seq
  let s := s.setFlag rTrlStatus 0 (!ok)
  let s := (s.setFlag rTrlStatus 1 false).setFlag rTrlStatus 3 false
  let s := s.setTrail { keep with ring := ring.take s.ringCap, leaseNext := none, waiting := [], looking := false, fromNor := none }
  let s := (drainPages page 80 (s.setC64 rTrlLease (seq + 65536))).trailFreeSlots
  let s := if ok then s else s.ownRecord evTrailFailed (leBytes 4 1 ++ zeros 12)
  let e := s.c64 rTrlSeq + 65536
  let s := (s.setC64 rTrlLease e).ownRecord evTrailLease (leBytes 8 e ++ zeros 8)
  let s := s.ownRecord evTrailStart (leBytes 4 (s.rd 0x10020) ++ leBytes 8 seq ++ zeros 4)
  let s := s.setTrail { s.trail with ring := closeNewest s.trail.ring }
  let s := if s.trail.pos < 16384 then s.programPage page else s
  (appendAll keep.waiting s).trailAfterBrace

end Sys2Proof.Machine
end

