-- ==== Sys2Proof/Machine/Fence.lean ====
section
/-! DEFINITION. The Fence queues (R476 to R483): parts, holds, lossy and waiting types, NAKs, and the events the
serving plane reports through it. -/
namespace Sys2Proof.Machine

/-- Types toward the serving plane, and toward the Keeper (Table 12-3). -/
def typesToS : List Nat :=
  [0x01, 0x02, 0x03, 0x10, 0x11, 0x12, 0x13, 0x14, 0x15, 0x16, 0x17, 0x18, 0x20, 0x21, 0x22, 0x23, 0x30, 0x31,
   0x40, 0x41, 0x42, 0x50, 0x71, 0x7E]
def typesToK : List Nat :=
  [0x04, 0x05, 0x19, 0x24, 0x32, 0x33, 0x43, 0x44, 0x45, 0x51, 0x60, 0x61, 0x70, 0x7E]

/-- The lossy types of R480. -/
def lossyType (t : Nat) : Bool := t = 0x33 || t = 0x43 || t = 0x45 || t = 0x60

/-- May use the 8 reserved entries: replies, ALARM, MODE_REPORT and NAK (R480). -/
def reservedType (p : FPart) : Bool := p.reply || p.typ = 0x61 || p.typ = 0x32 || p.typ = 0x7E

/-- A payload cut into parts of up to 48 bytes, numbered from 0, FIRST on the first and LAST on the final (R476, R478). -/
def mkParts (fuel : Nat) (typ : Nat) (reply : Bool) (tag sender part : Nat) (data : Bytes) : List FPart :=
  match fuel with
  | 0 => []
  | n + 1 =>
    let last := decide (data.length ≤ 48)
    let p : FPart :=
      { typ := typ, first := part = 0, last := last, reply := reply, part := part, len := min data.length 48,
        tag := tag, data := padTo 48 (data.take 48), sender := sender }
    if last then [p] else p :: mkParts n typ reply tag sender (part + 1) (data.drop 48)

def partsOf (typ : Nat) (reply : Bool) (tag sender : Nat) (data : Bytes) : List FPart :=
  mkParts (data.length / 48 + 1) typ reply tag sender 0 data

/-- The whole message at the front of a queue and what follows it (R478). -/
def assemble : Nat → Nat → FPart → List FPart → Option (Bytes × List FPart)
  | 0, _, _, _ => none
  | _ + 1, _, _, [] => none
  | n + 1, k, hd, p :: t =>
    if p.part ≠ k ∨ p.typ ≠ hd.typ ∨ p.first ≠ decide (k = 0) ∨ 48 < p.len then none
    else if p.last then some (p.data.take p.len, t)
    else match assemble n (k + 1) hd t with
      | some (d, r) => some (p.data.take p.len ++ d, r)
      | none => none

def frontMsg (q : List FPart) : Option (FMsg × List FPart) :=
  match q with
  | [] => none
  | p :: _ => match assemble (q.length + 1) 0 p q with
    | some (d, r) => some ({ typ := p.typ, reply := p.reply, tag := p.tag, sender := p.sender, data := d }, r)
    | none => none

/-- The 64 bytes of an entry as the Keeper sees them (R476): TYPE in [55:48] of the link word. -/
def FPart.bytes (p : FPart) : Bytes :=
  padTo 64 (leBytes 6 0 ++ leBytes 1 p.typ ++ leBytes 1 0 ++ leBytes 1 (b2n p.first + 2 * b2n p.last + 4 * b2n p.reply)
    ++ leBytes 1 p.part ++ leBytes 1 p.len ++ leBytes 1 0 ++ leBytes 2 p.tag ++ leBytes 2 0 ++ p.data)

/-- An entry read from 64 bytes; `typ` from the link word. -/
def partOfBytes (b : Bytes) (sender : Nat) : FPart :=
  { typ := byteAt b 6, first := bit (byteAt b 8) 0, last := bit (byteAt b 8) 1, reply := bit (byteAt b 8) 2,
    part := byteAt b 9, len := byteAt b 10, tag := leAt b 12 2, data := padTo 48 (b.drop 16), sender := sender }

/-- Entries a kind of message may use: 8 of the 64 are kept for the reserved types (R480). -/
def capK (p : FPart) : Nat := if reservedType p then 64 else 56

/-- May a message of `n` parts start to enter a queue of `cap` entries? It enters whole; one that no queue holds whole enters part by part
as entries free up (log entry 31). -/
def roomFor (q : List FPart) (cap n : Nat) : Bool := decide (q.length + n ≤ cap) || (decide (cap < n) && decide (q.length < cap))

/-- The SYS_FEN_LOSSY rule of R480: a refused EVENT is kept by the serving program, up to 1,024, identical ones merged. -/
def State.keepEvent (s : State) (data : Bytes) : State :=
  let key := data.take 4 ++ data.drop 8
  let n := max (leAt data 4 4) 1
  let f := s.fence
  if f.kept.any (fun k => k.data = key) then
    s.setFence { f with kept := f.kept.map fun k => if k.data = key then { k with count := k.count + n } else k }
  else if f.kept.length < 1024 then s.setFence { f with kept := f.kept ++ [{ data := key, count := n }] }
  else s.setFence { f with keptLost := f.keptLost + n }

/-- A thread that sleeps in MSEND until its part is accepted goes on (R225). -/
def State.wakeSend (s : State) (sender : Nat) : State :=
  match stopTeam (sender / 256) with
  | some k =>
    let t := (k * 8 + sender / 16 % 16) * 4 + sender % 16
    match (s.th t).sleep with
    | .msend _ => s.setTh t { s.th t with sleep := .awake }
    | _ => s
  | none => s

/-- Consecutive parts of one message, `p` the first of them, enter the queue toward the Keeper; the rest, if any, still waits. FIRST without
LAST takes the hold, LAST ends it (R479). A message is counted with its FIRST part. -/
def State.enterK (s : State) (p : FPart) (ps rest : List FPart) : State :=
  let f := s.fence
  let hold := if (p :: ps).any (·.last) then (if f.hold = some p.sender then none else f.hold) else if p.first then some p.sender else f.hold
  let s := (s.setFence { f with toK := f.toK ++ p :: ps, waiting := rest, hold := hold }).wakeSend p.sender
  if p.first then s.bump 0x10006000 else s

/-- As many parts as the queue has entries for. -/
def State.enterSome (s : State) (p : FPart) (ps rest : List FPart) : State :=
  let k := capK p - s.fence.toK.length
  s.enterK p (ps.take (k - 1)) (ps.drop (k - 1) ++ rest)

/-- Does a message's FIRST part, or a part of the holder's, find the queue held by another (R479)? Sender 0x60, the serving program, pushes
its messages one after another. -/
def Fence.heldFor (f : Fence) (p : FPart) : Bool := match f.hold with
  | some h => h != p.sender || h == 0x60
  | none => false

/-- Parts of one message enter the queue toward the Keeper (R479, R480). While another sender holds the queue they wait. -/
def State.pushK (s : State) (ps : List FPart) : State :=
  match ps with
  | [] => s
  | p :: t =>
    let f := s.fence
    let behind := f.hold.isNone && !f.waiting.isEmpty && !reservedType p && !lossyType p.typ
    if f.heldFor p || behind then s.setFence { f with waiting := f.waiting ++ ps }
    else if roomFor f.toK (capK p) ps.length then s.enterSome p t f.waiting
    else if lossyType p.typ then
      let s := s.bump 0x10006010
      if p.typ = 0x60 then s.keepEvent (p.data.take p.len) else s
    else s.setFence { f with waiting := f.waiting ++ ps }

/-- The first whole message of a list of parts. -/
def splitFirst : List FPart → List FPart × List FPart
  | [] => ([], [])
  | p :: t => if p.last then ([p], t) else let (a, b) := splitFirst t; (p :: a, b)

/-- Parts that came together: the serving program's whole message, a thread's one part. -/
def splitPush : List FPart → List FPart × List FPart
  | [] => ([], [])
  | p :: t => if p.sender = 0x60 then splitFirst (p :: t) else ([p], t)

/-- Waiting messages enter in order as entries free up; while a sender holds the queue, its parts alone. -/
def drainK : Nat → State → State
  | 0, s => s
  | n + 1, s =>
    let f := s.fence
    match f.hold with
    | some h => match f.waiting.find? (·.sender == h) with
      | some p => if f.toK.length < capK p then drainK n (s.enterK p [] (f.waiting.erase p)) else s
      | none => s
    | none => match splitPush f.waiting with
      | ([], _) => s
      | (p :: ps, rest) =>
        if roomFor f.toK (capK p) (ps.length + 1) then drainK n (s.enterSome p ps rest)
        else if lossyType p.typ then drainK n (((s.setFence { f with waiting := rest }).wakeSend p.sender).bump 0x10006010)
        else s

/-- Kept EVENTs go out again as entries free up, then EVENTS_LOST for those dropped (R480). -/
def resendKept : Nat → State → State
  | 0, s => s
  | n + 1, s =>
    let f := s.fence
    if 56 ≤ f.toK.length ∨ f.hold.isSome then s else
    match f.kept with
    | k :: t =>
      let d := k.data.take 4 ++ leBytes 4 k.count ++ k.data.drop 4
      resendKept n ((s.setFence { f with kept := t }).pushK (partsOf 0x60 false 0 0x60 d))
    | [] =>
      if f.keptLost = 0 then s else
        (s.setFence { f with keptLost := 0 }).pushK
          (partsOf 0x60 false 0 0x60 (eventPayload evEventsLost 8 1 0 (leBytes 4 f.keptLost ++ zeros 12)))

def State.drainFence (s : State) : State := resendKept 64 (drainK 320 s)

/-- A message from the serving plane to the Keeper. `sender`: SSTOP, SENGINE, STHREAD of its sender. -/
def State.toKeeper (s : State) (typ : Nat) (reply : Bool) (tag : Nat) (data : Bytes) : State :=
  s.pushK (partsOf typ reply tag 0x60 data)

/-- A message from the Keeper toward the serving plane: R480's full queue, R481's absent side. -/
def State.toServing (s : State) (ps : List FPart) : State :=
  if !s.svPresent then s.bump 0x20410 ps.length
  else if 64 < s.fence.toS.length + ps.length then s.setFlag 0x20004 1 true
  else (s.setFence { s.fence with toS := s.fence.toS ++ ps }).bump 0x20400 ps.length

/-- The Keeper's waiting messages enter as entries free up, each message's parts together (R479, R480); one that no queue holds whole enters
part by part, and what is left of it stands at the front. -/
def drainS : Nat → State → State
  | 0, s => s
  | n + 1, s =>
    match splitFirst s.keeper.outQ with
    | ([], _) => s
    | (p :: ps, rest) =>
      let k := if s.svPresent then 64 - s.fence.toS.length else ps.length + 1
      if s.svPresent && !(if p.first then roomFor s.fence.toS 64 (ps.length + 1) else decide (0 < k)) then s
      else drainS n ((s.setKeeper { s.keeper with outQ := (p :: ps).drop k ++ rest }).toServing ((p :: ps).take k))

/-- What the Keeper has still to push of the message whose first parts stand in the queue. -/
def State.tailS (s : State) : List FPart := match s.keeper.outQ with
  | p :: t => if p.first then [] else (splitFirst (p :: t)).1
  | [] => []

/-- The Keeper sends parts toward the serving plane, or keeps them until the queue has room. -/
def State.keeperPush (s : State) (ps : List FPart) : State :=
  drainS 64 (s.setKeeper { s.keeper with outQ := s.keeper.outQ ++ ps })

/-- The Keeper sends a message toward the serving plane, or keeps it until the queue has room. -/
def State.keeperSend (s : State) (typ : Nat) (reply : Bool) (tag : Nat) (data : Bytes) : State :=
  s.keeperPush (partsOf typ reply tag 0 data)

/-- PHC time in ns (R405). -/
def State.phcNs (s : State) : Nat := s.phc / 2 ^ 32

/-- The serving plane reports an event (R505, R519): an alarm code travels as ALARM, any other as EVENT. -/
def State.svEvent (s : State) (code src : Nat) (args : Bytes) : State :=
  s.toKeeper (if isAlarm code then 0x61 else 0x60) false 0 (eventPayload code src 1 s.phcNs args)

/-- A consumer at `stop` met an uncorrectable line (R42): reported with its address. -/
def State.linePoisoned (s : State) (stop a : Nat) : State :=
  s.svEvent 0x0303 (0x10 + stop) (leBytes 1 stop ++ zeros 7 ++ leBytes 8 a)

/-- Shortest payload of each type toward the serving plane (Table 12-3). -/
def minLenS (typ : Nat) : Nat :=
  if typ = 0x01 then 12 else if typ = 0x02 then 5 else if typ = 0x10 then 104 else if typ = 0x11 then 3
  else if typ = 0x12 ∨ typ = 0x13 ∨ typ = 0x17 then 56 else if 0x14 ≤ typ ∧ typ ≤ 0x16 then 2 else if typ = 0x18 then 1
  else if typ = 0x20 ∨ typ = 0x21 then 40 else if typ = 0x22 then 32 else if typ = 0x23 then 4 else if typ = 0x30 then 3
  else if typ = 0x31 then 4 else if typ = 0x40 then 8 else if typ = 0x41 then 4 else if typ = 0x42 then 8
  else if typ = 0x50 then 5 else if typ = 0x71 then 32 else if typ = 0x7E then 2 else 0

/-- Shortest payload of each type toward the Keeper (Table 12-3). -/
def minLenK (typ : Nat) : Nat :=
  if typ = 0x04 then 16 else if typ = 0x05 then 12 else if typ = 0x19 then 20 else if typ = 0x24 then 8
  else if typ = 0x32 ∨ typ = 0x33 ∨ typ = 0x44 then 16 else if typ = 0x43 ∨ typ = 0x70 then 24 else if typ = 0x45 then 144
  else if typ = 0x51 then 48 else if typ = 0x60 ∨ typ = 0x61 then 32 else if typ = 0x7E then 2 else 0

/-- The lead engine takes messages: its program runs, and the device is not in Brace or Fault (R260, R477). During bring-up it takes only
HANDLER_LOAD, and in step 7 TRICK_LOAD (log entry 25). -/
def State.leadTakes (s : State) (typ : Nat) : Bool :=
  decide (1 ≤ s.power.step) && !s.power.brace && !s.power.fault &&
    (s.power.base != .boot || typ == 0x21 || (typ == 0x22 && s.power.step == 7))

/-- The types that the hardware at stop 6 or a MAC takes (R477, Table 12-3). -/
def hardS (typ : Nat) : Bool :=
  (decide (0x12 ≤ typ) && decide (typ ≤ 0x18)) || typ == 0x20 || typ == 0x31 || typ == 0x42 || typ == 0x50

/-- The first message of a queue that does not wait, with what is left of the queue. -/
def firstDue (waits : Nat → Bool) : Nat → List FPart → Option (FMsg × List FPart)
  | 0, _ => none
  | n + 1, q =>
    match frontMsg q with
    | none => none
    | some (m, rest) =>
      if waits m.typ then (firstDue waits n rest).map fun r => (r.1, q.take (q.length - rest.length) ++ r.2) else some (m, rest)

/-- Does a message of this type wait for the lead engine? -/
def State.leadWaits (s : State) (typ : Nat) : Bool := typesToS.contains typ && !hardS typ && !s.leadTakes typ

/-- The message of a queue toward the serving plane that is due next: the front one, but for messages that wait for the lead engine, which
the others pass (R477, log entry 66). -/
def State.dueS (s : State) (q : List FPart) : Option (FMsg × List FPart) := firstDue s.leadWaits 64 q

/-- The message due next and what is left of the queue and of the Keeper's parts: one longer than the queue is taken as its parts come. -/
def State.frontS (s : State) : Option (FMsg × List FPart × List FPart) :=
  match s.dueS s.fence.toS with
  | some (m, rest) => some (m, rest, s.keeper.outQ)
  | none => match s.dueS (s.fence.toS ++ s.tailS) with
    | some (m, rest) => some (m, rest, s.keeper.outQ.drop s.tailS.length)
    | none => none

/-- Take the whole message of type `typ` that is due from the queue toward the serving plane. -/
def State.takeS (s : State) (typ : Nat) : Option (FMsg × State) :=
  match s.frontS with
  | some (m, rest, out) =>
    if m.typ = typ ∧ minLenS typ ≤ m.data.length then
      let t := (s.setFence { s.fence with toS := rest }).setKeeper { s.keeper with outQ := out }
      some (m, drainS 64 (t.bump 0x10006008))
    else none
  | none => none

/-- The same message, taken by the lead engine. -/
def State.takeLead (s : State) (typ : Nat) : Option (FMsg × State) := if s.leadTakes typ then s.takeS typ else none

/-- What its sender has still to push of the message whose first parts stand in the queue toward the Keeper. -/
def Fence.tailK (f : Fence) : List FPart := match f.hold with
  | some h => (splitFirst (f.waiting.filter (·.sender == h))).1
  | none => []

/-- The message at the front of the queue toward the Keeper and the Fence without it: one longer than the queue is taken as its parts come. -/
def Fence.frontK (f : Fence) : Option (FMsg × Fence) :=
  match frontMsg f.toK with
  | some (m, rest) => some (m, { f with toK := rest })
  | none => match frontMsg (f.toK ++ f.tailK) with
    | some (m, _) => some (m, { f with toK := [], waiting := f.tailK.foldl (fun (l : List FPart) p => l.erase p) f.waiting, hold := none })
    | none => none

/-- Take the whole message of type `typ` from the front of the queue toward the Keeper. -/
def State.takeK (s : State) (typ : Nat) : Option (FMsg × State) :=
  match s.fence.frontK with
  | some (m, f) =>
    if m.typ = typ ∧ minLenK typ ≤ m.data.length then
      let s := (s.setFence f).bump 0x20408
      some (m, (s.setKeeper { s.keeper with heardAt := s.now }).drainFence)
    else none
  | none => none

/-- A NAK from the serving plane (R482, Table 12-4). -/
def State.nakK (s : State) (tag ntype reason : Nat) : State :=
  s.toKeeper 0x7E true tag (leBytes 1 ntype ++ leBytes 1 reason)

/-- A NAK from the Keeper toward the serving plane. -/
def State.nakS (s : State) (tag ntype reason : Nat) : State :=
  s.keeperPush (partsOf 0x7E true tag 0 (leBytes 1 ntype ++ leBytes 1 reason))

/-- Why the front of a queue is a bad message (R482): reason and how many entries are discarded. `minLen`: the shortest payload of a type. -/
def badFront (known : List Nat) (minLen : Nat → Nat) (q : List FPart) : Option (Nat × FPart × Nat) :=
  match q with
  | [] => none
  | p :: _ =>
    let n := (splitFirst q).1.length
    if !known.contains p.typ then some (1, p, n)
    else if 48 < p.len then some (2, p, n)
    else match frontMsg q with
      | some (m, _) => if m.data.length < minLen p.typ then some (2, p, n) else none
      | none =>
        let body := (splitFirst q).1
        if body.any (fun x => 48 < x.len) then some (2, p, n)
        else if body.any (·.last) || !p.first then some (3, p, n) else none

/-- The bad message at the front of a queue. `ecc`: one of its words is uncorrectable, and whether its type can be read. -/
def eccFront (ecc : Option Bool) (known : List Nat) (minLen : Nat → Nat) (q : List FPart) : Option (Nat × Nat × FPart × Nat) :=
  match ecc, q with
  | some readable, p :: _ => some (4, if readable then p.typ else 0xFF, p, (splitFirst q).1.length)
  | some _, [] => none
  | none, _ => (badFront known minLen q).map fun b => (b.1, b.2.1.typ, b.2.1, b.2.2)

/-- NAK (R482): the receiver named discards the bad message at the front of its queue and answers with a NAK; bad
messages toward the Keeper get theirs toward the serving plane. -/
def fenceNak (atKeeper : Bool) (ecc : Option Bool) (s : State) : State :=
  if atKeeper then
    match eccFront ecc typesToK minLenK s.fence.toK with
    | some (r, typ, p, n) =>
      let s := s.setFence { s.fence with toK := s.fence.toK.drop n }
      let s := if r = 4 then s.bump 0x20418 else s
      (s.nakS p.tag typ r).drainFence
    | none => s
  else
    match eccFront ecc typesToS minLenS s.fence.toS with
    | some (r, typ, p, n) =>
      let s := (s.setFence { s.fence with toS := s.fence.toS.drop n }).bump 0x10006018
      let s := if r = 4 then s.bump 0x10006020 else s
      s.nakK p.tag typ r
    | none => s

/-- The parts of the holder's message that still wait: its sender's part, or the rest of the serving program's message. -/
def Fence.heldParts (f : Fence) (h : Nat) : List FPart :=
  if h = 0x60 then f.tailK else f.waiting.filter (·.sender == h)

/-- FENCE_HOLD_TIMEOUT (R479): the hold ends, and later parts of that message, those that wait among them, are discarded and counted. -/
def fenceHoldTimeout (s : State) : State :=
  match s.fence.hold with
  | some h =>
    let f := s.fence
    let late := f.heldParts h
    let cut := if late.any (·.last) then f.cut else h :: f.cut
    let s := s.setFence { f with hold := none, cut := cut, waiting := late.foldl (fun (l : List FPart) p => l.erase p) f.waiting }
    let s := if late.isEmpty then s else (s.bump 0x10006018 late.length).wakeSend h
    s.drainFence
  | none => s

/-- An engine's part reaches the Fence stop (R479, R482): a type not toward the Keeper is discarded and counted; parts after a hold timeout
are discarded; a FIRST part without LAST takes the hold as it enters, the part with LAST releases it. -/
def State.enginePart (s : State) (p : FPart) : State :=
  if !typesToK.contains p.typ then s.bump 0x10006018
  else if s.fence.cut.contains p.sender && !p.first then
    let s := s.bump 0x10006018
    if p.last then s.setFence { s.fence with cut := s.fence.cut.filter (· != p.sender) } else s
  else
    let s := s.setFence { s.fence with cut := s.fence.cut.filter (· != p.sender) }
    (s.pushK [p]).drainFence

/-- FEN_TX_PUSH (R480): the message in FEN_TX_DATA is queued toward the serving plane. -/
def fenTxPush (s : State) : State :=
  if !s.flag 0x20000 0 then s else
  let b := (List.range 16).flatMap fun i => leBytes 4 (s.rd (0x20100 + 4 * i))
  s.toServing [partOfBytes b 0]

/-- FEN_RX_POP (R478): the entry shown in FEN_RX_DATA is released. -/
def fenRxPop (s : State) : State :=
  match s.fence.toK with
  | [] => s
  | _ :: t =>
    let s := (s.setFence { s.fence with toK := t }).bump 0x20408
    (s.setKeeper { s.keeper with heardAt := s.now }).drainFence

/-- FEN_STATUS as it stands: levels and presence (Table 12-15). -/
def State.fenStatus (s : State) : Nat :=
  b2n s.svPresent + (s.rd 0x20004 &&& 2) + 4 * b2n (!s.fence.toK.isEmpty) + 256 * min s.fence.toS.length 64 + 65536 * min s.fence.toK.length 64

end Sys2Proof.Machine
end

