-- ==== Sys2Proof/Machine/Nose.lean ====
section
/-! DEFINITION. The Nose (chapter 04): segments and directory, searches, cursors, inserts and moves, re-space, slots, the leash. -/
namespace Sys2Proof.Machine

def noseSize : Nat := 2097152
def rNoseCtl : Nat := 0x10100000
def rNoseStatus : Nat := 0x10100004
def rNoseLeash : Nat := 0x10100010
def orderMax : Nat := 2 ^ 156 - 1

/-- The 160-bit word of an entry (Table 4-1). -/
def NEnt.word (e : NEnt) : Nat := e.order * 16 + e.kind

/-- The segment directory (R149): valid segments and their lowest order word, by rising segment. -/
def dirOf : Map NEnt → List (Nat × Nat)
  | [] => []
  | (a, e) :: t => match dirOf t with
    | (g, w) :: r => if g = a / 1024 then (g, e.order) :: r else (a / 1024, e.order) :: (g, w) :: r
    | [] => [(a / 1024, e.order)]

/-- A prefix mask (R150): ones from bit 159 down to some bit, zeros from there down to bit 4. -/
def isPlainMask (m : Nat) : Bool := (List.range 157).any fun n => m / 16 == orderMax / 2 ^ n * 2 ^ n

/-- Does an entry match a value under a mask (R150)? -/
def entMatch (mask val : Nat) (e : NEnt) : Bool := (e.word &&& mask) == (val &&& mask)

/-- The segments R151 activates for an interval, and BEYOND. -/
def activate (dir : List (Nat × Nat)) (lo hi : Nat) : List Nat × Bool :=
  let below := (dir.filter fun (d : Nat × Nat) => decide (d.2 ≤ lo))
  let first := match below.getLast? with
    | some d => some d.1
    | none => (dir.find? fun (d : Nat × Nat) => decide (d.2 ≤ hi)).map (fun d : Nat × Nat => d.1)
  match first with
  | none => ([], false)
  | some f =>
    let after := dir.filter fun (d : Nat × Nat) => decide (f < d.1)
    match after with
    | [] => ([f], false)
    | g :: rest => if g.2 ≤ hi then ([f, g.1], rest.any fun (d : Nat × Nat) => decide (d.2 ≤ hi)) else ([f], after.any fun (d : Nat × Nat) => decide (d.2 ≤ hi))

/-- Table 4-5 from the matches in the activated segments, in address order. -/
def resultOf (ms : Map NEnt) (beyond : Bool) (pos : Nat) : NRes :=
  match ms with
  | [] => { found := false, addr := 0, member := pos, kind := 0, count := 0, multi := false, beyond := beyond, ad := 0, status := 0 }
  | (a, e) :: _ =>
    { found := true, addr := a, member := pos, kind := e.kind, count := min ms.length 255,
      multi := decide (2 ≤ ms.length) || beyond, beyond := beyond, ad := e.ad, status := 0 }

def failRes (st pos : Nat) : NRes :=
  { found := false, addr := 0, member := pos, kind := 0, count := 0, multi := false, beyond := false, ad := 0, status := st }

def inSegs (segs : List Nat) (x : Nat × NEnt) : Bool := segs.contains (x.1 / 1024)

/-- A prefix-mask search (R151): result and the cursor of R156. -/
def searchPlain (ents : Map NEnt) (mask val pos : Nat) : NRes × Option Nat :=
  let m := mask / 16
  let lo := val / 16 &&& m
  let hi := lo ||| (orderMax - m)
  let (segs, beyond) := activate (dirOf ents) lo hi
  let r := resultOf (ents.filter fun x => inSegs segs x && entMatch mask val x.2) beyond pos
  (r, if r.found then some r.addr else if beyond then segs.getLast?.map fun g => g * 1024 + 1023 else none)

/-- NEXT (R158): the segment holding the cursor address + 1 and the next valid segment after it. -/
def searchNext (ents : Map NEnt) (mask val cur pos : Nat) : NRes × Option Nat :=
  let m := mask / 16
  let hi := (val / 16 &&& m) ||| (orderMax - m)
  let s0 := (cur + 1) / 1024
  let dir := dirOf ents
  let after := dir.filter fun d => s0 < d.1
  let segs := s0 :: (after.take 1).map (·.1)
  let beyond := (after.drop 1).any fun d => d.2 ≤ hi
  let r := resultOf (ents.filter fun x => cur < x.1 && inSegs segs x && entMatch mask val x.2) beyond pos
  (r, if r.found then some r.addr else if beyond then segs.getLast?.map fun g => g * 1024 + 1023 else none)

/-- LOCATE (R159): the lowest entry at or above (strict: above) an order word within its namespace. -/
def searchLocate (ents : Map NEnt) (w : Nat) (strict : Bool) (pos : Nat) : NRes × Option Nat :=
  let hi := orderNs w * 2 ^ 144 + (2 ^ 144 - 1)
  let (segs, beyond) := activate (dirOf ents) w hi
  let ok := fun (e : NEnt) => (if strict then decide (w < e.order) else decide (w ≤ e.order)) && decide (e.order ≤ hi)
  let r := resultOf (ents.filter fun x => inSegs segs x && ok x.2) beyond pos
  (r, if r.found then some r.addr else if beyond then segs.getLast?.map fun g => g * 1024 + 1023 else none)

/-- The point mask: every bit of [159:4]. -/
def pointMask : Nat := orderMax * 16

/-- The point search for an order word. -/
def searchPoint (ents : Map NEnt) (w pos : Nat) : NRes := (searchPlain ents pointMask (w * 16) pos).1

/-- Entries standing one after another from address `a` up, with no hole between. -/
def runUp : Map NEnt → Nat → Nat
  | [], _ => 0
  | (j, _) :: t, a => if j = a then runUp t (a + 1) + 1 else runUp t a

/-- The same going down from `a`, over the entries in falling address order. -/
def runDown : Map NEnt → Nat → Nat
  | [], _ => 0
  | (j, _) :: t, a => if j = a then (if a = 0 then 1 else runDown t (a - 1) + 1) else runDown t a

/-- How R165 places an order word: refused, or the moves and the address of the new entry. -/
inductive Place
  | noHole
  | at_ (moves : List (Nat × Nat)) (addr : Nat)
deriving DecidableEq, Repr

/-- R165: `q1` is the address after the last entry at or below the word; ties shift up. -/
def placeOf (ents : Map NEnt) (order shiftMax : Nat) : Place :=
  let below := ents.filter fun x => x.2.order ≤ order
  let q1 := match below.getLast? with
    | some x => x.1 + 1
    | none => 0
  if q1 < noseSize ∧ (mget ents q1).isNone then .at_ [] q1
  else
    let du := runUp ents q1
    let up := decide (q1 + du < noseSize)
    let dd := if q1 = 0 then 0 else runDown ents.reverse (q1 - 1)
    let down := decide (0 < q1) && decide (dd < q1)
    let upOk := up && decide (du ≤ shiftMax)
    let downMoves := dd - 1
    let downOk := down && decide (dd ≤ shiftMax)
    if upOk && (!down || decide (du ≤ dd)) then
      .at_ ((List.range du).map fun i => (q1 + du - 1 - i, q1 + du - i)) q1
    else if downOk then
      .at_ ((List.range (downMoves + 1)).map fun i => (q1 - dd + i, q1 - dd + i - 1)) (q1 - 1)
    else if upOk then .at_ ((List.range du).map fun i => (q1 + du - 1 - i, q1 + du - i)) q1
    else .noHole

/-- Every cursor on a moved entry follows it in the same cycle (R157); so does the key that the entry stands for. -/
def State.noseMove (s : State) (a b : Nat) : State :=
  match mget s.nose.ents a with
  | none => s
  | some e =>
    let n := s.nose
    let follow := fun (c : Nat) => if c = a then b else c
    let n := { n with ents := mset (mdel n.ents a) b e, cursors := n.cursors.map fun c => (c.1, follow c.2),
                      hcurs := n.hcurs.map fun h => { h with addr := follow h.addr } }
    let k := { s.ks with keys := s.ks.keys.map fun r => if r.nose = some a then { r with nose := some b } else r }
    (s.setNose n).setKs k

def State.noseMoves (s : State) : List (Nat × Nat) → State
  | [] => s
  | (a, b) :: t => (s.noseMove a b).noseMoves t

def State.nosePut (s : State) (a : Nat) (e : NEnt) : State := s.setNose { s.nose with ents := mset s.nose.ents a e }

/-- The 160-bit register group at `base`: word w holds bits [32w + 31:32w]. -/
def State.wide160 (s : State) (base : Nat) : Nat :=
  s.rd base + s.rd (base + 4) * 2 ^ 32 + s.rd (base + 8) * 2 ^ 64 + s.rd (base + 12) * 2 ^ 96 + s.rd (base + 16) * 2 ^ 128

def State.noseMask (s : State) (i : Nat) : Nat := s.wide160 (0x10100100 + 0x20 * i)
def State.partLo (s : State) : Nat := s.wide160 0x10100040 / 16
def State.partHi (s : State) : Nat := s.wide160 0x10100060 / 16
def State.inPart (s : State) (w : Nat) : Bool := decide (s.partLo ≤ w) && decide (w ≤ s.partHi)
def State.shiftMax (s : State) : Nat := s.fld 0x10100008 10 0
def State.packPos (s : State) : Nat := s.fld 0x10000014 2 0

/-- NOSE_FILL and NOSE_DIRTY (R174). -/
def State.noseFill (s : State) : Nat := s.nose.ents.length
def State.noseDirty (s : State) : Nat := (s.nose.ents.filter fun x => x.2.kind = 1 || x.2.kind = 4).length
/-- NOSE_STATUS.FLUSH_NEEDED (R174). -/
def State.flushNeeded (s : State) : Bool := decide (s.fld 0x1010001C 21 0 < s.noseDirty)

/-- The INSERT refusals of R166: 0 accepted, 2 NO_HOLE, 3 DUP_FULL, 4 OUT_OF_PART, 5 BAD_KIND. Where several hold, the one given is the
first in the order BAD_KIND, OUT_OF_PART, DUP_FULL, NO_HOLE: the specification ranks none of them (DESIGN CHOICE, log entry 82). -/
def State.insertStatus (s : State) (order kind : Nat) : Nat :=
  if kind = 0 ∨ 5 ≤ kind then 5
  else if !s.inPart order then 4
  else if 8 ≤ (s.nose.ents.filter fun x => x.2.order = order).length then 3
  else if placeOf s.nose.ents order s.shiftMax = .noHole then 2 else 0

def State.countRefusal (s : State) (st : Nat) : State :=
  if st = 2 then s.bump 0x10100228 else if st = 3 then s.bump 0x10100230 else s

/-- The Nose result word of Table 5-20. -/
def NRes.word (r : NRes) : Nat :=
  r.count * 2 ^ 56 + b2n r.multi * 2 ^ 55 + b2n r.beyond * 2 ^ 54 + r.kind * 2 ^ 50 + r.member * 2 ^ 47 + r.addr * 2 ^ 26
    + r.status * 2 ^ 8 + b2n r.found

/-- Operations of thread `t` that the Nose has not performed yet. -/
def State.noseOwes (s : State) (t : Nat) : Bool :=
  let n := s.nose
  n.reqs.any (fun (r : NReq) => r.thread == t) || n.seqn.any (fun (q : NSeq) => q.thread == t) ||
    n.wide.any (fun (w : NWide) => w.thread == t) || n.psearch.any fun (q : PSearch) => q.thread == t && q.frame.isNone

/-- A result pair reaches its thread, which wakes with its last one: an older operation of a thread stopped and started again writes its
result and no more (R216, R234). -/
def State.nosePair (s : State) (t rd : Nat) (word ad : DWord) : State :=
  let h := s.th t
  let h := if rd = 0 then h else (h.setG rd word).setG (rd + 1) ad
  let h := match h.sleep with
    | .nose _ => if s.noseOwes t then h else { h with sleep := .awake }
    | _ => h
  s.setTh t h

/-- A Nose result reaches its thread (R234, R235): rd, and the associated data in rd + 1. -/
def State.noseDone (s : State) (t rd : Nat) (r : NRes) (withAd : Bool) : State :=
  s.nosePair t rd (BitVec.ofNat 64 r.word) (if withAd && r.found && r.status = 0 then BitVec.ofNat 64 r.ad else 0)

def State.setCursor (s : State) (t : Nat) (a : Option Nat) : State :=
  let c := match a with
    | some x => mset s.nose.cursors t x
    | none => mdel s.nose.cursors t
  s.setNose { s.nose with cursors := c }

/-- The entry at a thread's cursor (R157). -/
def State.cursorEnt (s : State) (t : Nat) : Option (Nat × NEnt) :=
  match mget s.nose.cursors t with
  | some a => (mget s.nose.ents a).map fun e => (a, e)
  | none => none

/-- The result of an operation on the cursor's entry: COUNT 1, the kind after the operation. -/
def updRes (a kind ad pos : Nat) : NRes :=
  { found := true, addr := a, member := pos, kind := kind, count := 1, multi := false, beyond := false, ad := ad, status := 0 }

/-- KIND_WRITE (R161): the cursor's entry takes kind 1 to 4; a hole has no kind to change. -/
def State.kindWrite (s : State) (a kind : Nat) : State :=
  match mget s.nose.ents a with
  | some e => if 1 ≤ kind ∧ kind ≤ 4 then s.nosePut a { e with kind := kind } else s
  | none => s

/-! Pack searches (R181 to R183, R195, R196). -/

/-- A search or result message: its two flits and their CHECK (Tables 4-18, 4-19). -/
def withCheck (b : Bytes) : Bytes := b ++ leBytes 2 (crc16 b)
def checkOk (m : Bytes) : Bool := m.length == 32 && leAt m 30 2 == crc16 (m.take 30)

/-- Leading ones of [159:4] of a mask: PLEN. -/
def plenOf (mask : Nat) : Nat := ((List.range 156).takeWhile fun i => bit mask (159 - i)).length
/-- The mask that PLEN and KMASK spell. -/
def maskOfPlen (plen kmask : Nat) : Nat := (2 ^ 156 - 2 ^ (156 - min plen 156)) * 16 + kmask % 16

/-- FAB cycles between PACK_SYNC pulses, and from a search's start to its release slot (Table 4-9: 26 PCK cycles). -/
def syncPeriod : Nat := 6144
def releaseAfter : Nat := 39

/-- The search message (Table 4-18). -/
def searchMsg (pos num release mask val : Nat) : Bytes :=
  let v := leBytes 20 val
  withCheck ([0xE1] ++ leBytes 2 (pos * 8192 + num) ++ leBytes 4 release ++ v.take 9 ++ [0xE2] ++ v.drop 9 ++
    leBytes 1 (plenOf mask) ++ leBytes 1 (mask % 16))

/-- The result message (Table 4-19). -/
def resultMsg (tag release : Nat) (r : NRes) : Bytes :=
  withCheck ([0xE3] ++ leBytes 1 r.member ++ leBytes 2 tag ++ leBytes 4 release ++ leBytes 8 r.word ++ [0xE4] ++
    leBytes 8 (if r.found then r.ad else 0) ++ zeros 5)

def State.sendMsg (s : State) (m : Bytes) : State :=
  (s.setPack { s.pack with outMsgs := m :: s.pack.outMsgs }).bump 0x10800140

/-- A Pack search leaves its requester. -/
def State.psearchSend (s : State) (q : PSearch) : State :=
  s.sendMsg (searchMsg s.packPos q.num ((s.nose.slotCtr + releaseAfter) % syncPeriod) q.mask q.val)

/-! The slot machine (R162 to R164, R177, R178). -/

/-- Slots per 64 FAB cycles at the level in force (Table 4-8). -/
def leashSlots (lvl : Nat) : Nat := if lvl = 0 then 64 else if lvl = 1 then 48 else if lvl = 2 then 32 else 16

/-- Re-space moves allowed in each 64-cycle window (R168, Table 4-14). -/
def respaceSlots (frac : Nat) : Nat :=
  if frac = 1 then 1 else if frac = 2 then 2 else if frac = 3 then 4 else if frac = 4 then 8 else if frac = 5 then 16 else 0

def pitch (code : Nat) : Nat := if code = 0 then 8 else if code = 1 then 16 else if code = 2 then 32 else 64

/-- An operation that takes no slot (Table 4-6). -/
def NReq.slotless (r : NReq) : Bool := match r.op with
  | .kindWrite _ => true
  | .adRead => true
  | .adopt _ => true
  | .psearch _ _ => true
  | _ => false

/-- A wide search (R150, R152). -/
def NReq.isWide (r : NReq) : Bool := match r.op with
  | .search m _ => !isPlainMask m
  | _ => false

/-- An operation that is an update sequence (R164). -/
def NReq.isUpdate (r : NReq) : Bool := match r.op with
  | .insert .. => true
  | .delete => true
  | .adw .. => true
  | _ => false

/-- The class of a request (Table 4-7); a promoted one is class 3. -/
def NReq.cls (r : NReq) : Nat :=
  if r.slotless then 0 else if r.promoted then 3 else match r.op with
  | .insert .. => 3
  | .delete => 3
  | .adw .. => 3
  | .search m _ => if isPlainMask m then 4 else 7
  | .locate .. => 4
  | .next .. => 5
  | _ => 0

/-- The team port of a request. -/
def NReq.port (r : NReq) : Nat := r.thread / 32

/-- May a wide search start: no leash, within MAX_PER_MS, no update sequence in progress (R152, R178)? -/
def State.wideOk (s : State) : Bool :=
  decide (s.fld rNoseLeash 1 0 = 0) && decide (s.nose.wideInMs < s.fld 0x1010000C 10 0) && s.nose.seqn.isNone

/-- The operations of one thread are performed in issue order (R234): is the request the thread's oldest, with none in progress? -/
def State.firstOf (s : State) (r : NReq) : Bool :=
  let n := s.nose
  n.reqs.find? (·.thread == r.thread) == some r && !n.seqn.any (fun (q : NSeq) => q.thread == r.thread) &&
    !n.wide.any (fun (w : NWide) => w.thread == r.thread) && !n.psearch.any fun (q : PSearch) => q.thread == r.thread && q.frame.isNone

/-- The requests a slot may go to: one update sequence runs at a time, and searches interleave with it (R164). -/
def State.grantable (s : State) : List NReq :=
  s.nose.reqs.filter fun r => s.firstOf r && (!r.isWide || s.wideOk) && (!r.isUpdate || s.nose.seqn.isNone)

/-- The first request of a class in round-robin order of the team ports after port `last` (R162). -/
def pickReq (reqs : List NReq) (c last : Nat) : Option NReq :=
  let ps := (List.range 8).map fun i => (last + 1 + i) % 8
  ps.findSome? fun p => reqs.find? fun r => r.cls = c && r.port = p

def State.pickClass (s : State) (c : Nat) : Option NReq := pickReq s.grantable c (mgetD s.nose.rr c 7)

def removeReq (reqs : List NReq) (r : NReq) : List NReq := reqs.erase r

/-- The write a pending entry stands for becomes visible when its kind leaves pending; set by the keyspace (R57). -/
def State.keyAt (s : State) (a : Nat) : Option KeyRec := s.ks.keys.find? fun r => r.nose = some a

/-- NOSE_CTL.ENABLE and READY: operations are performed; until then every one waits (R176, Table 4-14). -/
def State.noseOpen (s : State) : Bool := s.flag rNoseCtl 0 && s.nose.ready

/-- NPSRCH (R181, R196): PACK_ABSENT while not synchronised; otherwise the search message is sent round the ring. -/
def State.psearchStart (s : State) (t rd mask val : Nat) : State :=
  if !s.flag rNoseStatus 2 then s.noseDone t rd (failRes 6 s.packPos) false
  else
    let n := s.nose
    let q : PSearch := { thread := t, rd := rd, num := n.nextNum % 8192, mask := mask, val := val, again := false, frame := none }
    (s.setNose { n with psearch := n.psearch ++ [q], nextNum := n.nextNum + 1 }).psearchSend q

/-- An operation that takes no slot (Table 4-6): KIND_WRITE, AD_READ, ADOPT of a hand-off cursor (R188), and the start of a Pack search. -/
def State.zeroOp (s : State) (t rd : Nat) (op : NOp) : State :=
  match op with
  | .kindWrite k => match s.cursorEnt t with
    | some (a, _) => (s.kindWrite a k).noseDone t rd (updRes a k 0 s.packPos) false
    | none => s.noseDone t rd (failRes 1 s.packPos) false
  | .adRead => match s.cursorEnt t with
    | some (a, e) => s.noseDone t rd (updRes a e.kind e.ad s.packPos) true
    | none => s.noseDone t rd (failRes 1 s.packPos) false
  | .adopt v => match s.nose.hcurs.find? (·.id = v) with
    | none => s.noseDone t rd (failRes 1 s.packPos) false
    | some c =>
      let s := s.setNose { s.nose with hcurs := s.nose.hcurs.filter (·.id != v) }
      let s := s.setCursor t (some c.addr)
      match s.cursorEnt t with
      | some (a, e) => s.noseDone t rd (updRes a e.kind e.ad s.packPos) true
      | none => s.noseDone t rd (failRes 1 s.packPos) false
  | .psearch m v => s.psearchStart t rd m v
  | _ => s

/-- The waiting operations that take no slot and are their thread's oldest. -/
def State.zeroReqs (s : State) : State :=
  let due := fun (r : NReq) => r.slotless && s.firstOf r
  (s.nose.reqs.filter due).foldl (fun s r => s.zeroOp r.thread r.rd r.op) (s.setNose { s.nose with reqs := s.nose.reqs.filter fun r => !due r })

/-- One of the 64 sub-searches of a wide search, over 32 segments (R152). -/
def State.wideSlot (s : State) (w : NWide) : State :=
  let lo := w.done * 32768
  let ms := s.nose.ents.filter fun x => lo ≤ x.1 && x.1 < lo + 32768 && entMatch w.mask w.val x.2
  let w : NWide := { w with done := w.done + 1, count := w.count + ms.length, lowest := w.lowest.or ms.head? }
  let s := s.bump 0x10100218
  if w.done < 64 then s.setNose { s.nose with wide := some w }
  else
    let s := s.setNose { s.nose with wide := none }
    let r : NRes := { resultOf w.lowest.toList false s.packPos with count := min w.count 255, multi := decide (2 ≤ w.count) }
    (s.setCursor w.thread (w.lowest.map (·.1))).noseDone w.thread w.rd r true

/-- FAB cycles between two slots of an update sequence (Table 4-12, steps 4 and 5; log entry 82). -/
def seqGap : Nat := 2

/-- One granted engine request: the operation's slot (Table 4-6), the first sub-search of a wide search. An INSERT with moves starts an
update sequence. -/
def State.grantReq (s : State) (r : NReq) : State :=
  let n := s.nose
  let s := s.setNose { n with reqs := removeReq n.reqs r, rr := mset n.rr r.cls r.port }
  let pos := s.packPos
  let cur := mget s.nose.cursors r.thread
  match r.op with
  | .search m v =>
    if isPlainMask m then
      let (x, c) := searchPlain s.nose.ents m v pos
      ((s.setCursor r.thread c).bump 0x10100200).noseDone r.thread r.rd x true
    else
      let w : NWide := { thread := r.thread, rd := r.rd, mask := m, val := v, done := 0, lowest := none, count := 0 }
      (s.setNose { s.nose with wideInMs := s.nose.wideInMs + 1 }).wideSlot w
  | .next m v => match cur with
    | none => (s.bump 0x10100200).noseDone r.thread r.rd (failRes 1 pos) true
    | some c =>
      let (x, c) := searchNext s.nose.ents m v c pos
      ((s.setCursor r.thread c).bump 0x10100200).noseDone r.thread r.rd x true
  | .locate w strict =>
    let (x, c) := searchLocate s.nose.ents w strict pos
    ((s.setCursor r.thread c).bump 0x10100200).noseDone r.thread r.rd x true
  | .insert order kind ad =>
    let s := s.bump 0x10100208
    let st := s.insertStatus order kind
    if st ≠ 0 then (s.countRefusal st).noseDone r.thread r.rd (failRes st pos) false
    else match placeOf s.nose.ents order s.shiftMax with
      | .noHole => (s.countRefusal 2).noseDone r.thread r.rd (failRes 2 pos) false
      | .at_ [] a =>
        ((s.nosePut a { order := order, kind := kind, ad := ad }).setCursor r.thread (some a)).noseDone r.thread r.rd (updRes a kind 0 pos) false
      | .at_ moves a =>
        s.setNose { s.nose with seqn := some { thread := r.thread, rd := r.rd, wait := seqGap, moves := moves, final := some (a, { order := order, kind := kind, ad := ad }) } }
  | .delete => match s.cursorEnt r.thread with
    | none => (s.bump 0x10100208).noseDone r.thread r.rd (failRes 1 pos) false
    | some (a, _) =>
      let k := { s.ks with keys := s.ks.keys.map fun q => if q.nose = some a then { q with nose := none } else q }
      (((s.setNose { s.nose with ents := mdel s.nose.ents a }).setKs k).bump 0x10100208).noseDone r.thread r.rd (updRes a 0 0 pos) false
  | .adw ad kind => match s.cursorEnt r.thread with
    | none => (s.bump 0x10100208).noseDone r.thread r.rd (failRes 1 pos) false
    | some (a, e) =>
      let k := kind.getD e.kind
      ((s.nosePut a { e with ad := ad, kind := k }).bump 0x10100208).noseDone r.thread r.rd (updRes a k 0 pos) false
  | op => s.zeroOp r.thread r.rd op

/-- One slot of the update sequence in progress (R164, R165): a move; the last move's slot also writes the new entry. -/
def State.seqSlot (s : State) (q : NSeq) : State :=
  let s := s.bump 0x10100208
  match q.moves with
  | (a, b) :: (m :: rest) => (s.noseMove a b).setNose { (s.noseMove a b).nose with seqn := some { q with wait := seqGap, moves := m :: rest } }
  | last =>
    let s := s.noseMoves last
    let s := s.setNose { s.nose with seqn := none }
    match q.final with
    | some (a, e) => ((s.nosePut a e).setCursor q.thread (some a)).noseDone q.thread q.rd (updRes a e.kind 0 s.packPos) false
    | none => s

/-- The update sequence in progress takes its remaining slots (R164). -/
def seqSlots : Nat → State → State
  | 0, s => s
  | n + 1, s => match s.nose.seqn with
    | some q => seqSlots n (s.seqSlot q)
    | none => s

def State.finishSeq (s : State) : State := match s.nose.seqn with
  | some q => seqSlots (q.moves.length + 1) s
  | none => s

/-- The wide search in progress takes its remaining slots. -/
def wideSlots : Nat → State → State
  | 0, s => s
  | n + 1, s => match s.nose.wide with
    | some w => wideSlots n (s.wideSlot w)
    | none => s

/-- The operations of the serving program, which its commands do at once, come after the update sequence and the wide search in progress
(R152, R164). -/
def State.noseQuiet (s : State) : State := wideSlots 64 s.finishSeq

/-- Slots the serving program uses within a command; the grants that follow pass over them (log entry 82). -/
def State.progSlots (s : State) (n : Nat) : State := s.setNose { s.nose with progSlots := s.nose.progSlots + n }
def State.progSearch (s : State) (n : Nat) : State := (s.bump 0x10100200 n).progSlots n
def State.progUpdate (s : State) (n : Nat) : State := (s.bump 0x10100208 n).progSlots n

/-- A whole INSERT of the serving program: status and the address of the entry. -/
def State.insertWhole (s : State) (e : NEnt) : Nat × Nat × State :=
  let s := s.noseQuiet
  let st := s.insertStatus e.order e.kind
  if st ≠ 0 then (st, 0, (s.countRefusal st).progUpdate 1) else
  match placeOf s.nose.ents e.order s.shiftMax with
  | .noHole => (2, 0, (s.countRefusal 2).progUpdate 1)
  | .at_ moves addr => (0, addr, ((s.noseMoves moves).nosePut addr e).progUpdate (1 + moves.length))

/-- Holes of the aligned block `b` at pitch `p`. -/
def blockHoles (ents : Map NEnt) (b p : Nat) : Nat :=
  p - (ents.filter fun x => b * p ≤ x.1 && x.1 < (b + 1) * p).length

/-- The nearest hole outside block `b` whose own block holds at least two holes (R168): distances 1 up to `d`. Of two at one distance the
upper one is taken: the specification names neither (DESIGN CHOICE, log entry 82). -/
def nearHole (ents : Map NEnt) (b p : Nat) : Nat → Nat → Option Nat
  | _, 0 => none
  | d, n + 1 =>
    let up := (b + 1) * p - 1 + d
    let ok := fun a => (mget ents a).isNone && decide (2 ≤ blockHoles ents (a / p) p)
    if decide (up < noseSize) && ok up then some up
    else if decide (d ≤ b * p) && ok (b * p - d) then some (b * p - d)
    else nearHole ents b p (d + 1) n

/-- The moves of a walk still due: those whose source is itself a hole are done, and none are left once the hole they bring is taken, or
where it is about to leave block `from_` as the last one there (R169). -/
def liveMoves (ents : Map NEnt) (p from_ : Nat) : List (Nat × Nat) → List (Nat × Nat)
  | [] => []
  | (a, b) :: t =>
    if (mget ents b).isSome ∨ (a / p ≠ b / p ∧ b / p = from_ ∧ blockHoles ents from_ p < 2) then []
    else if (mget ents a).isSome then (a, b) :: t else liveMoves ents p from_ t

/-- One step of the re-space walk (R168): a move in progress after a look at the hole map, or the next block. `true`: a slot was
used. A walk whose hole has gone looks at its block again. The walk keeps the number of its next block, so that after a change of
HOLE_PITCH it goes on at that number of blocks of the new size (DESIGN CHOICE, log entry 82). -/
def State.respaceSlot (s : State) : Bool × State :=
  let p := pitch (s.fld rNoseCtl 7 6)
  let move := fun (s : State) (a b : Nat) (rest : List (Nat × Nat)) (h : Nat) =>
    let s := s.noseMove a b
    (true, (s.setNose { s.nose with rsp := rest, rspHole := h, rspUsed := s.nose.rspUsed + 1 }).bump 0x10100210)
  match liveMoves s.nose.ents p (s.nose.rspHole / p) s.nose.rsp with
  | (a, b) :: rest => move s a b rest s.nose.rspHole
  | [] =>
    let next := if s.nose.rsp.isEmpty then s.nose.walk else s.nose.walk - 1
    let b := if next * p < noseSize then next else 0
    let s := s.setNose { s.nose with walk := b + 1, rsp := [] }
    if 0 < blockHoles s.nose.ents b p then (false, s)
    else match nearHole s.nose.ents b p 1 s.shiftMax with
      | none => (false, s.bump 0x10100238)
      | some h =>
        let first := b * p
        let last := b * p + p - 1
        let moves := if last < h then (List.range (h - last)).map fun i => (h - 1 - i, h - i)
          else (List.range (first - h)).map fun i => (h + 1 + i, h + i)
        match liveMoves s.nose.ents p (h / p) moves with
        | (x, y) :: rest => move s x y rest h
        | [] => (false, s)

/-- Is this FAB cycle one of the slots Retriever holds: 4 in every 15, or 1 in every 8 at leash level 3 (R163, R178)? Which 4 they are is
not stated: the model spreads them as Retriever accepts frames (DESIGN CHOICE, log entry 82). -/
def State.rtvTurn (s : State) : Bool :=
  if s.fld rNoseLeash 1 0 = 3 then s.nose.cyc % 8 == 0 else s.nose.cyc % 15 % 4 == 0

/-- A slot of the window is used. -/
def State.slotUsed (s : State) : State := s.setNose { s.nose with used := s.nose.used + 1 }

/-- The slot of one FAB cycle by the classes of Table 4-7, and whether it read an entry. -/
def State.slotGrant (s : State) : Bool × State :=
  let n := s.nose
  if 0 < n.packSlots then (false, (s.setNose { n with packSlots := n.packSlots - 1 }).slotUsed)
  else match n.seqn.filter fun q => q.wait = 0 with
  | some q => (true, s.slotUsed.seqSlot q)
  | none =>
    if s.rtvTurn ∧ 0 < n.rtvSlots then (false, (s.setNose { n with rtvSlots := n.rtvSlots - 1 }).slotUsed)
    else match n.wide with
    | some w => (true, s.slotUsed.wideSlot w)
    | none =>
      if 0 < n.progSlots then (false, (s.setNose { n with progSlots := n.progSlots - 1 }).slotUsed)
      else match (s.pickClass 3).or ((s.pickClass 4).or (s.pickClass 5)) with
      | some r => (true, s.slotUsed.grantReq r)
      | none =>
        let x := if n.seqn.isNone && decide (n.rspUsed < respaceSlots (s.fld rNoseCtl 5 3)) then s.respaceSlot else (false, s)
        if x.1 then (true, x.2.slotUsed)
        else match x.2.pickClass 7 with
        | some r => (true, x.2.slotUsed.grantReq r)
        | none => (false, x.2.bump (if s.fld rNoseLeash 1 0 ≠ 0 ∧ (n.reqs.any fun r => r.isWide) = true then 0x10100240 else 0x10100220))

/-- The start of a FAB cycle: the windows of the leash, of Retriever and of the update sequence in progress move on. -/
def Nose.cycle (n : Nose) : Nose :=
  { n with cyc := n.cyc + 1, used := if n.cyc % 64 = 0 then 0 else n.used, rspUsed := if n.cyc % 64 = 0 then 0 else n.rspUsed,
           rtvFrames := if n.cyc % 15 = 0 then 0 else n.rtvFrames, rtvSearches := if n.cyc % 8 = 0 then 0 else n.rtvSearches }

/-- An update sequence comes nearer to its next slot. -/
def State.seqTick (s : State) (before : Option NSeq) : State := match before, s.nose.seqn with
  | some p, some q => if p = q ∧ 0 < q.wait then s.setNose { s.nose with seqn := some { q with wait := q.wait - 1 } } else s
  | _, _ => s

/-- NOSE_SLOT_GRANT (R162): one FAB cycle's slot under the leash budget of the 64-cycle window, and whether it read an entry. The
operations that take no slot come after it, since a search granted in this cycle sees the old kind (R161); none comes in the middle of
a wide search (R152). -/
def noseSlot (s : State) : Bool × State :=
  let s := s.setNose s.nose.cycle
  if !s.noseOpen then (false, s) else
  let lost := s.nose.reqs.length + b2n s.nose.seqn.isSome + b2n s.nose.wide.isSome
  let r := if leashSlots (s.fld rNoseLeash 1 0) ≤ s.nose.used then (false, if lost = 0 then s else s.bump 0x10100240 lost) else s.slotGrant
  let t := r.2.seqTick s.nose.seqn
  (r.1, if t.nose.wide.isSome then t else t.zeroReqs)

/-- SLOT_REQUEST_PROMOTE (R162): the oldest request not yet promoted has waited 1,024 FAB cycles. -/
def promoteFirst : List NReq → List NReq
  | [] => []
  | r :: t => if r.promoted then r :: promoteFirst t else { r with promoted := true } :: t

def noseWindowReset (s : State) : State := s.setNose { s.nose with wideInMs := 0 }

/-- The leash level a temperature asks for, coming from level `lvl` (R177): down at once, up only 2 °C below the limit. -/
def leashFrom (lvl : Nat) (t : Int) : Nat :=
  let raw := if t ≤ 95 then 0 else if t ≤ 100 then 1 else if t ≤ 103 then 2 else 3
  let rel := if t ≤ 93 then 0 else if t ≤ 98 then 1 else if t ≤ 101 then 2 else 3
  if lvl ≤ raw then raw else max raw (min lvl rel)

/-- The level in force with LEASH_STEP recorded on a change (R179). `lvl0` is the level derived from temperature. -/
def State.setLeash (s : State) (lvl0 : Nat) : State :=
  let old := s.fld rNoseLeash 1 0
  let new := max lvl0 (s.fld rNoseLeash 5 4)
  if old = new then s
  else (s.setFld rNoseLeash 1 0 new).svEvent 0x0800 0x15 (leBytes 1 old ++ leBytes 1 new ++ leBytes 1 (s.fld rNoseLeash 15 8) ++ zeros 13)

end Sys2Proof.Machine
end

