-- ==== Sys2Proof/Machine/Icdin.lean ====
section
/-! DEFINITION. How an Icdin instruction issues on a thread (chapter 05): readiness, fetch checks, the muzzle, traps,
loop ends, jumps, and the operand forms the instructions share. -/
namespace Sys2Proof.Machine

/-- CSR numbers of Table 5-2. -/
def cSTART : Nat := 0x002
def cTVEC : Nat := 0x004
def cEPC : Nat := 0x005
def cCAUSE : Nat := 0x006
def cTVAL : Nat := 0x007
def cKWLEN : Nat := 0x020
def cMZENTRY : Nat := 0x040
def cMZLO : Nat := 0x041
def cMZHI : Nat := 0x042
def cMZWLO : Nat := 0x043
def cMZWHI : Nat := 0x044
def cMZBUDGET : Nat := 0x045
def cMZLEFT : Nat := 0x046
def cMZCAUSE : Nat := 0x047
def cMZEPC : Nat := 0x048
def cMZTVAL : Nat := 0x049

/-- Trap causes (Table 5-23). -/
def cILLEGAL : Nat := 1
def cMISALIGN : Nat := 2
def cACCESS : Nat := 3
def cECC : Nat := 4
def cLOOPDEPTH : Nat := 5
def cLOOPFORM : Nat := 6
def cBREAK : Nat := 7
def cMSGDEST : Nat := 8
def cTICKETFULL : Nat := 9
def cRANGE : Nat := 10

/-- Muzzle causes (Table 5-24). -/
def mEXIT : Nat := 1
def mCALL : Nat := 2
def mSETUP : Nat := 3
def mBUDGET : Nat := 0x10
def mFETCH : Nat := 0x11
def mDATA : Nat := 0x12
def mILLEGAL : Nat := 0x13
def mFAULT : Nat := 0x14

/-! Instruction words (Table 5-4), as TEAM_TVAL shows them. -/

def encR (major rd rs1 rs2 func : Nat) : Nat := major * 2 ^ 26 + rd * 2 ^ 21 + rs1 * 2 ^ 16 + rs2 * 2 ^ 11 + func
def encI (major rd rs1 imm : Nat) : Nat := major * 2 ^ 26 + rd * 2 ^ 21 + rs1 * 2 ^ 16 + imm
def encJ (major rd imm : Nat) : Nat := major * 2 ^ 26 + rd * 2 ^ 21 + imm
def encL (major cnt len : Nat) : Nat := major * 2 ^ 26 + cnt * 2 ^ 14 + len
def encLR (major rs len : Nat) : Nat := major * 2 ^ 26 + rs * 2 ^ 21 + len
def encX (major rd rs1 rs2 rs3 func : Nat) : Nat :=
  major * 2 ^ 26 + rd * 2 ^ 21 + rs1 * 2 ^ 16 + rs2 * 2 ^ 11 + rs3 * 2 ^ 6 + func
def encN (rd rs1 rs2 mask sub kind : Nat) : Nat :=
  0x3C * 2 ^ 26 + rd * 2 ^ 21 + rs1 * 2 ^ 16 + rs2 * 2 ^ 11 + mask * 2 ^ 8 + sub * 2 ^ 4 + kind
def encY (rd rs1 func imm : Nat) : Nat := 0x3F * 2 ^ 26 + rd * 2 ^ 21 + rs1 * 2 ^ 16 + func * 2 ^ 12 + imm

/-! Which words are instructions (R217, R218, R236; Tables 5-4 to 5-22). -/

/-- CSR numbers of Table 5-2. -/
def csrKnown (n : Nat) : Bool :=
  [0x000, 0x001, 0x002, 0x004, 0x005, 0x006, 0x007, 0x008, 0x009, 0x010, 0x011, 0x020, 0x021, 0x022, 0x030, 0x031, 0x032, 0x033, 0x034,
   0x040, 0x041, 0x042, 0x043, 0x044, 0x045, 0x046, 0x047, 0x048, 0x049].contains n

/-- Functions of Table 5-6; from 0x020 on the rs2 field is 0. -/
def aluWord (func rs2 : Nat) : Bool :=
  decide (func ≤ 0x00E) || (decide (0x010 ≤ func) && decide (func ≤ 0x012)) || (decide (0x014 ≤ func) && decide (func ≤ 0x017)) ||
    (decide (0x020 ≤ func) && decide (func ≤ 0x029) && rs2 == 0)

/-- Sub-operations of Table 5-19 with the fields they leave unused. -/
def noseWord (rs1 rs2 mask sub kind : Nat) : Bool :=
  match sub with
  | 0 | 1 | 3 => rs2 == 0 && kind == 0
  | 2 => rs2 == 0 && mask == 0 && decide (kind < 2)
  | 4 => rs2 == 0 && mask == 0 && kind == 0
  | 5 => rs1 == 0 && rs2 == 0 && mask == 0 && kind == 0
  | 6 => rs1 == 0 && decide (kind ≤ 4)
  | 7 => rs1 == 0 && rs2 == 0 && decide (1 ≤ kind) && decide (kind ≤ 4)
  | 8 => rs1 == 0 && rs2 == 0
  | 9 => rs1 == 0
  | _ => false

/-- Functions of Table 5-21 with the fields they leave unused. -/
def keyWord (rd rs1 rs2 rs3 func : Nat) : Bool :=
  match func with
  | 0 | 4 => rd == 0 && rs3 == 0
  | 1 => rs3 == 0
  | 2 => rs1 == 0 && rs2 == 0 && rs3 == 0
  | 3 => rs2 == 0 && rs3 == 0
  | _ => false

/-- Functions of Table 5-22 with the fields it says are 0. -/
def sysWord (rd rs1 func imm : Nat) : Bool :=
  match func with
  | 0 | 3 => rd == 0 && rs1 == 0 && imm == 0
  | 1 => imm / 512 == 0
  | 2 | 4 | 5 | 6 => true
  | _ => false

/-- Is the word an instruction, every field it says must be 0 being 0? -/
def legalWord (w : Nat) : Bool :=
  let major := bits w 26 6
  let rd := bits w 21 5; let rs1 := bits w 16 5; let rs2 := bits w 11 5; let rs3 := bits w 6 5
  if major = 0x00 then aluWord (bits w 0 11) rs2
  else if major ≤ 0x06 then true
  else if major = 0x07 then decide (bits w 0 16 < 0xC0)
  else if major = 0x08 then rs1 == 0
  else if 0x10 ≤ major ∧ major ≤ 0x16 ∨ 0x18 ≤ major ∧ major ≤ 0x1B ∨ 0x20 ≤ major ∧ major ≤ 0x27 then true
  else if major = 0x28 then bits w 10 4 == 0
  else if major = 0x29 then bits w 10 11 == 0
  else if 0x2C ≤ major ∧ major ≤ 0x2E then bits w 12 4 == 0 && csrKnown (bits w 0 12)
  else if major = 0x30 ∨ major = 0x31 then true
  else if major = 0x34 then rd == 0 && bits w 0 11 == 0
  else if major = 0x35 then rs1 == 0 && decide (bits w 0 16 < 2)
  else if 0x38 ≤ major ∧ major ≤ 0x3B then bits w 0 16 == 0
  else if major = 0x3C then rd != 31 && noseWord rs1 rs2 (bits w 8 3) (bits w 4 4) (bits w 0 4)
  else if major = 0x3D then keyWord rd rs1 rs2 rs3 (bits w 0 6)
  else if major = 0x3E then
    (bits w 0 6 == 0 && rs2 == 0 && rs3 == 0 && rd != 31) || (bits w 0 6 == 1 && rd == 0)
  else if major = 0x3F then sysWord rd rs1 (bits w 12 4) (bits w 0 12)
  else false

/-- What an instruction does once it has issued and passed its checks. -/
inductive Eff
  /-- It completes; the next instruction follows, loop ends evaluated. -/
  | next (s : State)
  /-- A taken branch or jump. -/
  | jump (s : State) (target : Nat)
  /-- It traps: cause, INFO, TVAL. -/
  | trap (cause info tval : Nat)
  /-- The same for a trap that is no data access: a jump whose target traps (R211). -/
  | jumpTrap (cause tval : Nat)
  /-- The pc is already set. -/
  | set (s : State)
  /-- A unit has no room for it yet: it has not issued. -/
  | hold

/-- R220: the evaluation at the body end. -/
def loopEnd : List LoopEnt → Nat → List LoopEnt × Nat
  | [], pc => ([], pc + 4)
  | e :: t, pc =>
    if e.stop = pc then
      if 1 < e.count then ({ e with count := e.count - 1 } :: t, e.start) else loopEnd t pc
    else (e :: t, pc + 4)

/-- R221: entries whose body the target leaves are popped, from the innermost outward. -/
def loopLeave : List LoopEnt → Nat → List LoopEnt
  | [], _ => []
  | e :: t, target => if e.start ≤ target ∧ target ≤ e.stop then e :: t else loopLeave t target

def Thread.loops (h : Thread) : List LoopEnt := if h.muzzled then h.mzLoops else h.sysLoops
def Thread.setLoops (h : Thread) (l : List LoopEnt) : Thread := if h.muzzled then { h with mzLoops := l } else { h with sysLoops := l }

/-- The pc after an instruction that completes without a taken jump; loop stacks rest while INTRAP is 1 (R222). -/
def Thread.advance (h : Thread) : Thread :=
  if h.intrap then { h with pc := h.pc + 4 }
  else let (l, p) := loopEnd h.loops h.pc; { (h.setLoops l) with pc := p }

def Thread.goto (h : Thread) (target : Nat) : Thread :=
  if h.intrap then { h with pc := target }
  else { (h.setLoops (loopLeave h.loops target)) with pc := target }

/-- The thread may issue (R206). -/
def Thread.ready (h : Thread) : Bool := h.run && (match h.sleep with
  | .awake => true
  | _ => false)

/-- May thread `t` issue now (R206)? It is ready, and after a YIELD every other thread listed has issued since or is not ready. -/
def State.mayIssue (s : State) (t : Nat) : Bool :=
  (s.th t).ready && (s.th t).yielded.all fun x => !(s.th x.1).ready || (s.th x.1).issued != x.2

/-- A stopped thread tells the dispatcher (R258). -/
def State.noticeStop (s : State) (t : Nat) : State :=
  s.setDisp { s.disp with notices := s.disp.notices ++ [(engineOf t, t % 4)] }

/-- R237, R238: a trap in system mode, or a double trap. -/
def State.trapTo (s : State) (t cause info tval : Nat) : State :=
  let h := s.th t
  let h1 := (h.setCsr cCAUSE (info % 256 * 256 + cause)).setCsr cTVAL (tval % 2 ^ 32)
  if h.intrap then (s.setTh t { h1 with run := false, double := true }).noticeStop t
  else s.setTh t { (h1.setCsr cEPC (h.pc % 65536)) with intrap := true, pc := h.csr cTVEC }

/-- R244: leaving muzzled mode. `epc`: where a resumed trick would continue. -/
def Thread.mzLeave (h : Thread) (cause info epc tval : Nat) : Thread :=
  let h := ((h.setCsr cMZCAUSE (info % 65536 * 256 + cause)).setCsr cMZEPC (epc % 65536)).setCsr cMZTVAL (tval % 2 ^ 32)
  { h with muzzled := false, pc := h.mzRet }
def State.mzLeave (s : State) (t cause info epc tval : Nat) : State := s.setTh t ((s.th t).mzLeave cause info epc tval)

/-- `n` core cycles pass (R243): the budget falls, and in the one in which it reaches 0 the trick leaves with MZ_BUDGET; TVAL is 0. -/
def Thread.mzSpend (h : Thread) (n : Nat) : Thread :=
  if !h.muzzled then h
  else if h.csr cMZLEFT ≤ n then (h.setCsr cMZLEFT 0).mzLeave mBUDGET 0 h.pc 0
  else h.setCsr cMZLEFT (h.csr cMZLEFT - n)

/-- A trap that is no data access: R242's MZ_FAULT in muzzled mode. -/
def State.raiseFault (s : State) (t cause tval : Nat) : State :=
  let h := s.th t
  if h.muzzled then s.mzLeave t mFAULT cause h.pc tval else s.trapTo t cause 0 tval

/-- A trap of an instruction's operands: R242 in muzzled mode, where an ACCESS on data leaves with MZ_DATA. -/
def State.raise (s : State) (t cause info tval : Nat) : State :=
  let h := s.th t
  if h.muzzled then
    if cause = cACCESS then s.mzLeave t mDATA 0 h.pc tval else s.mzLeave t mFAULT cause h.pc tval
  else s.trapTo t cause info tval

/-- The word of engine `e`'s instruction store at `pc`. -/
def State.fetched (s : State) (e pc : Nat) : Nat := leNat (memRead s.mem.istore (e * 0x10000 + pc) 4)

/-- What the fetch of the next instruction meets, in R239's order: the code window (R242), the store's end (R211), its check code (R213), and
a word that is no instruction (R217). -/
inductive FetchEnd
  | good
  | outside
  | access
  | ecc
  | illegal (w : Nat)
deriving DecidableEq, Repr

def State.fetch (s : State) (t : Nat) : FetchEnd :=
  let h := s.th t
  let e := engineOf t
  if h.muzzled && !(decide (h.csr cMZLO ≤ h.pc) && decide (h.pc < h.csr cMZHI)) then .outside
  else if 0x10000 ≤ h.pc then .access
  else if (s.en e).badInsn.contains (h.pc / 8) then .ecc
  else if !legalWord (s.fetched e h.pc) then .illegal (s.fetched e h.pc)
  else .good

/-- An instruction of thread `t` issues: it is counted, and a YIELD is over. -/
def Thread.issue (h : Thread) : Thread := { h with issued := h.issued + 1, yielded := [] }

/-- One instruction on thread `t`: readiness, the fetch checks, the trick profile of R245 (`mz`: accepted when muzzled), then its effect; the
first cause of R239 wins. An uncorrectable word of data is reported (R42). A thread that may not issue issues nothing. -/
def issue (t word : Nat) (mz : Bool) (f : State → Thread → Eff) (s0 : State) : State :=
  if !s0.mayIssue t then s0 else
  let s := s0.setTh t (s0.th t).issue
  let h := s.th t
  match s.fetch t with
  | .outside => s.mzLeave t mFETCH 0 h.pc h.pc
  | .access => s.raiseFault t cACCESS h.pc
  | .ecc => s.raise t cECC 0 h.pc
  | .illegal w => if h.muzzled then s.mzLeave t mILLEGAL 0 h.pc w else s.trapTo t cILLEGAL 0 w
  | .good =>
    if h.muzzled && !mz then s.mzLeave t mILLEGAL 0 h.pc word
    else match f s h with
      | .next s2 => s2.setTh t (s2.th t).advance
      | .jump s2 a => s2.setTh t ((s2.th t).goto a)
      | .trap c i v => (if c = cECC then s.linePoisoned (engineStop (engineOf t)) v else s).raise t c i v
      | .jumpTrap c v => s.raiseFault t c v
      | .set s2 => s2
      | .hold => s0

/-- As `issue`, on the serving plane. -/
def onThread (t word : Nat) (mz : Bool) (f : State → Thread → Eff) (s : State) : Out := s.onSv (issue t word mz f)

/-- A register-to-register result. -/
def wrG (s : State) (t rd : Nat) (v : DWord) : State := s.setTh t ((s.th t).setG rd v)

/-- An ALU operation of Table 5-6. -/
def alu (t : Fin 256) (rd rs1 rs2 : Fin 32) (func : Nat) (f : DWord → DWord → DWord) (s : State) : Out :=
  onThread t (encR 0 rd rs1 rs2 func) true (fun s h => .next (wrG s t rd (f (h.g rs1) (h.g rs2)))) s

/-- A one-operand ALU operation: the rs2 field is 0 (R218). -/
def alu1 (t : Fin 256) (rd rs1 : Fin 32) (func : Nat) (f : DWord → DWord) (s : State) : Out :=
  onThread t (encR 0 rd rs1 0 func) true (fun s h => .next (wrG s t rd (f (h.g rs1)))) s

/-- An immediate operation of Table 5-7. -/
def aluI (t : Fin 256) (rd rs1 : Fin 32) (major imm : Nat) (f : DWord → DWord) (s : State) : Out :=
  onThread t (encI major rd rs1 imm) true (fun s h => .next (wrG s t rd (f (h.g rs1)))) s

def sext16 (i : Half) : DWord := i.signExtend 64
def zext16 (i : Half) : DWord := i.zeroExtend 64

/-! The engine data space (Table 5-1). -/

/-- Where an access of `n` bytes at `a` lies. -/
inductive Place5
  | data
  | key
  | slot
  | nowhere
deriving DecidableEq, Repr

def dataPlace (a n : Nat) : Place5 :=
  if a + n ≤ 0x20000 then .data
  else if 0x20000 ≤ a ∧ a + n ≤ 0x20200 then .key
  else if 0x21000 ≤ a ∧ a + n ≤ 0x21040 then .slot else .nowhere

/-- May the thread touch [a, a + n)? In muzzled mode only the data window or the key window (R242). -/
def Thread.mayAccess (h : Thread) (a n : Nat) : Bool :=
  if h.muzzled then
    (dataPlace a n == .data && decide (h.csr cMZWLO ≤ a) && decide (a + n ≤ h.csr cMZWHI)) || dataPlace a n == .key
  else dataPlace a n != .nowhere

/-- May a key or frame instruction touch [a, a + n)? In muzzled mode only the data window (Table 5-25). -/
def Thread.mayKey (h : Thread) (a n : Nat) : Bool :=
  if h.muzzled then dataPlace a n == .data && decide (h.csr cMZWLO ≤ a) && decide (a + n ≤ h.csr cMZWHI) else dataPlace a n != .nowhere

/-- The bad words that writing [a, a + n) leaves: one written whole has a fresh check code. -/
def keepBad (l : List Nat) (a n : Nat) : List Nat := l.filter fun w => !(decide (a ≤ w * 8) && decide (w * 8 + 8 ≤ a + n))

/-- The bytes at [a, a + n) of the data space of thread `t`. -/
def State.dread (s : State) (t a n : Nat) : Bytes :=
  match dataPlace a n with
  | .data => memRead s.mem.dstore (engineOf t * 0x20000 + a) n
  | .key => slice (s.th t).kwin (a - 0x20000) n
  | .slot => slice (s.th t).rslot (a - 0x21000) n
  | .nowhere => []

/-- Store bytes at `a`. A word written whole has a fresh check code. -/
def State.dwrite (s : State) (t a : Nat) (b : Bytes) : State :=
  let e := engineOf t
  let h := s.th t
  match dataPlace a b.length with
  | .data =>
    (s.setMem { s.mem with dstore := memWrite s.mem.dstore (e * 0x20000 + a) b }).setEn e
      { s.en e with badData := keepBad (s.en e).badData a b.length }
  | .key => s.setTh t { h with kwin := patch h.kwin (a - 0x20000) b, badWords := keepBad h.badWords a b.length }
  | .slot => s.setTh t { h with rslot := patch h.rslot (a - 0x21000) b, badWords := keepBad h.badWords a b.length }
  | .nowhere => s

/-- Does [a, a + n) hold an uncorrectable word (R213)? Words of the key window and receive slot are numbered by address. -/
def State.dbad (s : State) (t a n : Nat) : Bool :=
  let e := s.en (engineOf t)
  let l := if a < 0x20000 then e.badData else (s.th t).badWords
  l.any fun w => decide (w * 8 < a + n) && decide (a < w * 8 + 8)

/-- A correctable error of a local store: corrected, written back and counted (R213). -/
def Engine.countEcc (g : Engine) : Engine := { g with lsecc := min (g.lsecc + 1) 0xFFFFFFFF }

/-- The word at `a` of thread `t`'s data space turns uncorrectable. -/
def State.spoil (s : State) (t a : Nat) : State :=
  let e := engineOf t
  if a < 0x20000 then s.setEn e { s.en e with badData := a / 8 :: (s.en e).badData }
  else s.setTh t { s.th t with badWords := a / 8 :: (s.th t).badWords }

/-- What the reads of an instruction that issues find (R213): on the fetch, or, once nothing before it in R239's order stops the
instruction, in the word at the address it reads first. -/
def State.upset (s : State) (t : Nat) (up : Upset) (reads : Thread → Option Nat) : State :=
  let e := engineOf t
  if !s.mayIssue t then s else
  match up, s.fetch t with
  | .fetch .corrected, .good => s.setEn e (s.en e).countEcc
  | .fetch .bad, .good => s.setEn e { s.en e with badInsn := (s.th t).pc / 8 :: (s.en e).badInsn }
  | .data .corrected, .good => if (reads (s.th t)).isSome then s.setEn e (s.en e).countEcc else s
  | .data .bad, .good => match reads (s.th t) with
    | some a => s.spoil t a
    | none => s
  | _, _ => s

/-- As `onThread`, with what the reads find. -/
def onReads (t word : Nat) (mz : Bool) (up : Upset) (reads : Thread → Option Nat) (f : State → Thread → Eff) (s : State) : Out :=
  s.onSv fun s => issue t word mz f (s.upset t up reads)

/-- A checked read in R239's order: ACCESS, then ECC. -/
def withRead (s : State) (t : Nat) (h : Thread) (a n : Nat) (k : Bytes → Eff) : Eff :=
  if !h.mayAccess a n then .trap cACCESS 0 a
  else if s.dbad t a n then .trap cECC 0 a
  else k (s.dread t a n)

/-- The effective address rs1 + sext(imm16), 64 bits (R209). -/
def effAddr (h : Thread) (rs1 : Nat) (imm : Half) : Nat := (h.g rs1 + sext16 imm).toNat

/-- A load of `n` bytes (Table 5-8). -/
def load (t : Fin 256) (rd rs1 : Fin 32) (imm : Half) (up : Upset) (major n : Nat) (ext : Nat → DWord) (s : State) : Out :=
  let reads := fun (h : Thread) => let a := effAddr h rs1 imm; if a % n = 0 ∧ h.mayAccess a n then some a else none
  onReads t (encI major rd rs1 imm.toNat) true up reads (fun s h =>
    let a := effAddr h rs1 imm
    if a % n ≠ 0 then .trap cMISALIGN 0 a
    else withRead s t h a n fun b => .next (wrG s t rd (ext (leNat b)))) s

/-- A store of the low `n` bytes of rs2. -/
def store (t : Fin 256) (rs2 rs1 : Fin 32) (imm : Half) (major n : Nat) (s : State) : Out :=
  onThread t (encI major rs2 rs1 imm.toNat) true (fun s h =>
    let a := effAddr h rs1 imm
    if a % n ≠ 0 then .trap cMISALIGN 0 a
    else if !h.mayAccess a n then .trap cACCESS 0 a
    else .next (s.dwrite t a (leBytes n (h.g rs2).toNat))) s

/-- A jump to `target` (R211): checked at the jump. -/
def jumpTo (s : State) (target : Nat) : Eff :=
  if target % 4 ≠ 0 then .jumpTrap cMISALIGN target
  else if 0x10000 ≤ target then .jumpTrap cACCESS target
  else .jump s target

/-- PC + 4 × offset in 64 bits. -/
def pcRel (pc : Nat) (off : DWord) : Nat := (BitVec.ofNat 64 pc + off * 4).toNat

/-- A muzzled branch or JAL with an offset of 0 or below is rejected at decode, taken or not (R242, R245). -/
def backward (off : DWord) : Bool := off.toInt ≤ 0

/-- The trap of an instruction's own decode in either mode. -/
def illegal (s : State) (t word : Nat) (h : Thread) : Eff :=
  if h.muzzled then .set (s.mzLeave t mILLEGAL 0 h.pc word) else .trap cILLEGAL 0 word

/-- A conditional branch (Table 5-9). -/
def branch (t : Fin 256) (rs1 rs2 : Fin 32) (imm : Half) (major : Nat) (c : DWord → DWord → Bool) (s : State) : Out :=
  let word := encI major rs2 rs1 imm.toNat
  onThread t word true (fun s h =>
    if h.muzzled && backward (sext16 imm) then illegal s t word h
    else if c (h.g rs1) (h.g rs2) then jumpTo s (pcRel h.pc (sext16 imm)) else .next s) s

/-- LOOP and LOOPR push an entry (R220, R222). A count of 0 skips the body (LOOPR). -/
def loopPush (s : State) (t word : Nat) (h : Thread) (cnt len : Nat) : Eff :=
  let stop := h.pc + 4 * len
  if h.intrap then .trap cILLEGAL 0 word
  else if h.muzzled && decide (h.csr cMZHI ≤ stop) then illegal s t word h
  else if cnt ≠ 0 ∧ 4 ≤ h.loops.length then .trap cLOOPDEPTH 0 h.pc
  else if len = 0 then .trap cLOOPFORM 0 h.pc
  else if (match h.loops with
    | e :: _ => decide (e.stop < stop)
    | [] => false) then .trap cLOOPFORM 0 h.pc
  else if cnt = 0 then
    let (l, p) := loopEnd h.loops stop
    .set (s.setTh t { (h.setLoops l) with pc := p })
  else
    .set (s.setTh t { (h.setLoops ({ start := h.pc + 4, stop := stop, count := cnt } :: h.loops)) with pc := h.pc + 4 })

/-! Tickets (R228, R229). -/

/-- The lowest-numbered free ticket. -/
def freeTicket (l : List Ticket) : Option Nat := l.findIdx? (· == .free)

/-- Completion word (Table 5-14). -/
def complWord (result ticket status : Nat) : Nat := result % 2 ^ 32 * 2 ^ 32 + ticket * 2 ^ 8 + status

def isDone (k : Ticket) : Bool := match k with
  | .done _ => true
  | _ => false

/-- The tickets of MASK as (number, state). -/
def inMask (l : List Ticket) (mask : Nat) : List (Nat × Ticket) :=
  (l.zipIdx.filter fun x => bit mask x.2).map fun x => (x.2, x.1)

/-- What WAIT finds (R229): nothing yet, or the word to return and the tickets to free. -/
def waitDone (l : List Ticket) (mask : Nat) (all : Bool) : Option (Nat × List Nat) :=
  let ts := inMask l mask
  let done := ts.filterMap fun (i, k) => match k with
    | .done w => some (i, w)
    | _ => none
  let busy := ts.any fun x => x.2 == .busy
  if !busy && done.isEmpty then some (complWord 0 0 0xFF, [])
  else if all then
    if busy then none
    else match (done.find? fun x => x.2 % 256 ≠ 0).or done.head? with
      | some (_, w) => some (w, ts.map (·.1))
      | none => none
  else match done.head? with
    | some (i, w) => some (w, [i])
    | none => none

def freeTickets (l : List Ticket) (is : List Nat) : List Ticket :=
  l.zipIdx.map fun (k, i) => if is.contains i then .free else k

/-- A sleeping WAIT is looked at again when a ticket changes. -/
def State.wakeWait (s : State) (t : Nat) : State :=
  let h := s.th t
  match h.sleep with
  | .wait rd mask all => match waitDone h.tickets mask all with
    | some (w, is) => s.setTh t { (h.setG rd (BitVec.ofNat 64 w)) with tickets := freeTickets h.tickets is, sleep := .awake }
    | none => s
  | _ => s

/-- A job completes: its ticket turns DONE with a completion word (R228). -/
def State.jobDone (s : State) (t ticket status result : Nat) : State :=
  let h := s.th t
  let ts := h.tickets.zipIdx.map fun (k, i) => if i = ticket ∧ k = .busy then .done (complWord result ticket status) else k
  (s.setTh t { h with tickets := ts }).wakeWait t

/-- A job instruction takes a ticket and reads its whole descriptor at issue (R228). `full`: its unit has no room, and the instruction waits. -/
def startJob (t : Fin 256) (rd rs1 : Fin 32) (major n : Nat) (full : State → Bool) (k : State → Nat → Bytes → State) (s : State) : Out :=
  onThread t (encI major rd rs1 0) false (fun s h =>
    let a := (h.g rs1).toNat
    if a % n ≠ 0 then .trap cMISALIGN 0 a
    else if !h.mayAccess a n then .trap cACCESS 0 a
    else match freeTicket h.tickets with
      | none => .trap cTICKETFULL 0 h.pc
      | some i =>
        if s.dbad t a n then .trap cECC 0 a
        else if full s then .hold
        else
          let b := s.dread t a n
          let h := { h with tickets := h.tickets.zipIdx.map fun (x, j) => if j = i then .busy else x }
          .next (k (s.setTh t (h.setG rd (BitVec.ofNat 64 i))) i b)) s

end Sys2Proof.Machine
end

