-- ==== Sys2Proof/Machine/Engines.lean ====
section
/-! DEFINITION. Messages between engines and the dispatcher (R225 to R227, R246 to R257), role changes, deliveries. -/
namespace Sys2Proof.Machine

/-! Route word fields (Table 5-11). -/
def Msg.typ (m : Msg) : Nat := bits m.route 48 8
def Msg.sthread (m : Msg) : Nat := bits m.route 39 2
def Msg.sengine (m : Msg) : Nat := bits m.route 36 3
def Msg.sstop (m : Msg) : Nat := bits m.route 32 4
def Msg.epoch (m : Msg) : Nat := bits m.route 16 16
def Msg.role (m : Msg) : Nat := bits m.route 8 4
def Msg.dengine (m : Msg) : Nat := bits m.route 4 3
def Msg.dstop (m : Msg) : Nat := bits m.route 0 4
def Msg.bytes (m : Msg) : Bytes := leBytes 8 m.route ++ padTo 56 m.body

def routeWord (typ sthread sengine sstop epoch role dengine dstop : Nat) : Nat :=
  typ * 2 ^ 48 + sthread * 2 ^ 39 + sengine * 2 ^ 36 + sstop * 2 ^ 32 + epoch * 2 ^ 16 + role * 2 ^ 8 + dengine * 2 ^ 4 + dstop

/-- The engine that sent a message, where a team stop sent it. -/
def Msg.sender (m : Msg) : Option Nat := (stopTeam m.sstop).map fun k => k * 8 + m.sengine

/-- Is the message the intake message of frame `f` (Table 6-2)? -/
def Msg.isIntakeOf (m : Msg) (f : Frame) : Bool :=
  m.sstop == 5 && f.isIntake && leAt m.body 0 2 == f.sess && leAt m.body 16 4 == f.seq

/-- The frame whose intake message it is and that does not wait at the dispatcher. -/
def State.intakeOf (s : State) (m : Msg) : Option Nat :=
  (s.ft.frames.find? fun e => m.isIntakeOf e.2 && !s.disp.waiting.any fun (d : DMsg) => d.frame == some e.1).map (·.1)

/-- A message returned by an engine goes back to the dispatcher (R255); the time of its first bounce stands. -/
def State.bounce (s : State) (m : Msg) (frame : Option Nat) (since : Option Nat) : State :=
  let frame := frame.or (s.intakeOf m)
  let d : DMsg := { m := m, frame := frame, bounced := some (since.getD s.now), flight := 0, sent := false }
  (s.setDisp { s.disp with waiting := s.disp.waiting ++ [d] }).bump 0x10003408

def bounceAll : List Msg → State → State
  | [], s => s
  | m :: t, s => bounceAll t (s.bounce m none none)

/-- A thread takes a message (R227): the receive slot, and the route word in rd. -/
def State.receive (s : State) (t rd : Nat) (m : Msg) : State :=
  let h := s.th t
  let bw := h.badWords.filter fun w => decide (w < 0x4200)
  s.setTh t { (h.setG rd (BitVec.ofNat 64 m.route)) with rslot := m.bytes, sleep := .awake, badWords := bw }

/-- Threads asleep in MRECV are served in the order they began to wait (R227). -/
def serveWaiters : Nat → Nat → State → State
  | 0, _, s => s
  | n + 1, e, s =>
    let g := s.en e
    match g.queue, g.waiters with
    | m :: q, t :: ws =>
      let s := s.setEn e { g with queue := q ++ g.mesh.take 1, mesh := g.mesh.drop 1, waiters := ws }
      let rd := match (s.th t).sleep with
        | .mrecv rd => rd
        | _ => 0
      serveWaiters n e (s.receive t rd m)
    | _, _ => s

/-- A message that matches TEAM_ROLE enters the queue; beyond 16 it waits in the mesh (R226). -/
def State.enqueue (s : State) (e : Nat) (m : Msg) : State :=
  let g := s.en e
  let s := if g.queue.length < 16 then s.setEn e { g with queue := g.queue ++ [m] } else s.setEn e { g with mesh := g.mesh ++ [m] }
  serveWaiters 16 e s

/-- ROLE and EPOCH equal TEAM_ROLE (R226). -/
def matchesRole (m : Msg) (role : Nat) : Bool := m.role = bits role 0 4 && m.epoch = bits role 16 16

/-- MESSAGE_ARRIVAL (R226): the oldest message on its way to engine `e` arrives. -/
def messageArrival (e : Nat) (s : State) : State :=
  match s.disp.waiting.find? fun d => d.flight = e + 1 with
  | none => s
  | some d =>
    let s := s.setDisp { s.disp with waiting := s.disp.waiting.erase d }
    if matchesRole d.m (s.en e).role then s.enqueue e d.m
    else s.bounce d.m d.frame d.bounced

/-- TEAM_ROLE changes: every message of the queue, and behind it in the mesh, that no longer matches is returned, in order, at
once (R226, R249). -/
def State.setRole (s : State) (e role : Nat) : State :=
  let g := s.en e
  let all := g.queue ++ g.mesh
  let stay := all.filter fun m => matchesRole m role
  bounceAll (all.filter fun m => !matchesRole m role) (s.setEn e { g with role := role, queue := stay.take 16, mesh := stay.drop 16 })

def rDspCtl : Nat := 0x10003000
def rDspAssignSt : Nat := 0x1000300C

/-- ROLE_ASSIGN (R247, R248). -/
def roleAssign (e role : Nat) (s : State) : State :=
  let d := s.deng e
  let early := match d.assigned with
    | some t => decide (s.now < t + 150000)
    | none => false
  if e = 0 ∨ role = 7 ∨ 8 ≤ role ∨ early = true then s.setFlag rDspAssignSt 1 true
  else
    let ep := if d.epoch = 0xFFFF then 1 else d.epoch + 1
    let s := s.setDEng e { d with epoch := ep, role := role, state := 2, assigned := some s.now, pendRole := some (role, ep) }
    (((s.setFld rDspAssignSt 31 16 ep).setFlag rDspAssignSt 1 false).setFlag rDspAssignSt 0 true)

/-- ROLE_CHANGE (R249): the TEAM_ROLE write reaches the engine, behind the messages the dispatcher sent it before (R24). -/
def roleChange (e : Nat) (s : State) : State :=
  match (s.deng e).pendRole with
  | some (role, ep) =>
    if s.disp.waiting.any fun (d : DMsg) => d.flight == e + 1 && d.sent && d.m.epoch != ep then s else s.setRole e (ep * 65536 + role)
  | none => s

/-- ROLE_CHANGE_ACK (R247): the engine is active in its new role. -/
def roleChangeAck (e : Nat) (s : State) : State :=
  let d := s.deng e
  match d.pendRole with
  | some (role, ep) =>
    if (s.en e).role = ep * 65536 + role then
      let s := s.setDEng e { d with pendRole := none, state := if d.state = 3 then 3 else if role = 0 then 0 else 1 }
      s.setFlag rDspAssignSt 0 ((List.range 64).any fun k => (s.deng k).pendRole.isSome)
    else s
  | none => s

/-- Messages in flight to, and queued at, engine `e`. -/
def State.load (s : State) (e : Nat) : Nat :=
  (s.en e).queue.length + (s.en e).mesh.length + (s.disp.waiting.filter fun d => d.flight = e + 1).length

/-- R252: the active holder of the role with the fewest messages; ties round robin in engine number order. -/
def State.holder (s : State) (role : Nat) : Option Nat :=
  let order := (List.range 64).map fun i => (s.disp.rr + 1 + i) % 64
  let hs := order.filter fun e => (s.deng e).state = 1 && (s.deng e).role = role && decide (s.load e < 16)
  hs.foldl (fun best e => match best with
    | none => some e
    | some b => if s.load e < s.load b then some e else some b) none

def State.anyHolder (s : State) (role : Nat) : Bool :=
  (List.range 64).any fun e => (s.deng e).state = 1 && (s.deng e).role = role

/-- A frame that executes nothing: refused, under the old key, with SEQ 0, or with a SEQ already executed, skipped or behind the window. -/
def Session.idle (x : Session) (f : Frame) : Bool :=
  f.seq = 0 || f.status != 0 || f.old || (decide (f.seq ≤ x.h) && (x.done.contains f.seq || x.skipped.contains f.seq)) ||
    decide (f.seq + 256 ≤ x.h)

/-- Does a frame of session `sid` with an open SEQ at or below H (R596) wait at the dispatcher? -/
def State.openWaits (s : State) (sid : Nat) (x : Session) : Bool :=
  s.disp.waiting.any fun (d : DMsg) => d.flight == 0 && match d.frame.bind fun id => mget s.ft.frames id with
    | some f => f.sess == sid && decide (f.seq ≤ x.h) && !x.idle f
    | none => false

/-- R254: may the frame of an intake message go out now? A busy session holds it, and so do missing numbers below it and an open SEQ that
waits for its turn. -/
def State.frameMayGo (s : State) (id : Nat) : Bool :=
  match mget s.ft.frames id with
  | none => true
  | some f => match mget s.ft.sessions f.sess with
    | none => true
    | some x =>
      x.idle f || (!x.busy && (decide (f.seq ≤ x.h) ||
        ((List.range (f.seq - x.h - 1)).all (fun i => (x.skipped ++ x.refused).contains (x.h + 1 + i)) && !s.openWaits f.sess x)))

/-- The message with its destination filled in for engine `e` (R252). -/
def addressTo (m : Msg) (e epoch : Nat) : Msg :=
  { m with route := setBits (setBits (setBits m.route 16 16 epoch) 4 3 (e % 8)) 0 4 (engineStop e) }

/-- A waiting message that can be delivered now; a bounced one is not held again (R255). -/
def State.mayGo (s : State) (d : DMsg) : Bool :=
  d.flight == 0 && (s.holder d.m.role).isSome && (d.bounced.isSome || (d.frame.map s.frameMayGo).getD true)

/-- In Test the dispatcher delivers no intake message (R551). -/
def State.testHolds (s : State) (d : DMsg) : Bool := s.power.base == .test && d.frame.isSome

/-- DISPATCH_DELIVERY (R252 to R254): the oldest waiting message that can go is sent to its role's least-loaded holder. -/
def dispatchDelivery (s : State) : State :=
  if !s.flag rDspCtl 0 || s.flag rDspCtl 1 || s.halted then s else
  match s.disp.waiting.find? fun d => s.mayGo d && !s.testHolds d with
  | none => s
  | some d => match s.holder d.m.role with
    | none => s
    | some e =>
      let d' : DMsg := { d with m := addressTo d.m e (s.deng e).epoch, flight := e + 1, sent := true }
      let s := s.setDisp { s.disp with waiting := s.disp.waiting.erase d ++ [d'], rr := e }
      let s := s.bump 0x10003400
      match d.frame with
      | some f => match mget s.ft.frames f with
        | some fr => s.setFt { s.ft with sessions := mupd s.ft.sessions fr.sess fun x => if x.idle fr then x else { x with busy := true } }
        | none => s
      | none => s

/-- An engine writes a session ID to SYS_DSP_RELEASE (R254). -/
def sessionRelease (id : Nat) (s : State) : State :=
  s.setFt { s.ft with sessions := mupd s.ft.sessions id fun x => { x with busy := false } }

/-- A message enters the dispatcher toward a role (R253): its EPOCH is ignored. -/
def State.toRole (s : State) (m : Msg) (frame : Option Nat) : State :=
  s.setDisp { s.disp with waiting := s.disp.waiting ++ [{ m := m, frame := frame, bounced := none, flight := 0, sent := false }] }

/-- A message on its way to engine `e`. -/
def State.sendTo (s : State) (e : Nat) (m : Msg) : State :=
  s.setDisp { s.disp with waiting := s.disp.waiting ++ [{ m := m, frame := none, bounced := none, flight := e + 1, sent := false }] }

/-- The Fence's number for a thread as sender: SSTOP, SENGINE, STHREAD. -/
def fenceSender (t : Nat) : Nat := engineStop (engineOf t) * 256 + engineOf t % 8 * 16 + t % 4

/-- MSEND's routing (R225, R253). A TYPE of 0xE0 up belongs to the dispatcher: discarded and counted. -/
def State.route (s : State) (t : Nat) (m : Msg) : State :=
  if m.dstop = 5 then
    if 0xE0 ≤ m.typ ∨ m.role = 0 ∨ 8 ≤ m.role then s.bump 0x10003410 else s.toRole m none
  else if m.dstop = 6 then
    let b := m.bytes
    s.enginePart { partOfBytes b (fenceSender t) with typ := m.typ }
  else match stopTeam m.dstop with
    | some k => if 0xE0 ≤ m.typ then s.bump 0x10003410 else s.sendTo (k * 8 + m.dengine) m
    | none => s

/-- A notice of the dispatcher reaches the lead engine (R258): DSTOP 4, DENGINE 0, ROLE 7, EPOCH 1, and the route fields of the thread that
sent it. -/
def State.toLead (s : State) (typ from_ : Nat) (body : Bytes) : State :=
  s.enqueue 0 { route := routeWord typ (from_ % 4) (engineOf from_ % 8) (engineStop (engineOf from_)) 1 7 0 4, body := body }

/-- A message given up, readdressed to engine `e` as it is now: TYPE 0xF0 + ROLE, SSTOP, SENGINE and STHREAD as they were (R256). -/
def State.asLost (s : State) (e : Nat) (m : Msg) : Msg :=
  let r := setBits m.route 48 8 (0xF0 + m.role)
  let r := setBits r 8 4 (bits (s.en e).role 0 4)
  addressTo { m with route := r } e (bits (s.en e).role 16 16)

/-- R256, R257: give up a message. An intake message goes to the lead engine, any other back to the thread that sent it; `failed` is what that
thread does with the operation it was serving. -/
def State.giveUp (s : State) (d : DMsg) (failed : Nat → State → State) : State :=
  let s := s.setDisp { s.disp with waiting := s.disp.waiting.erase d }
  let s := (s.bump 0x10003410).wr 0x10003014 (d.m.route % 2 ^ 32)
  let s := s.svEvent 0x0300 0x15 (leBytes 4 (d.m.route % 2 ^ 32) ++ zeros 12)
  if d.frame.isSome then s.sendTo 0 (s.asLost 0 d.m)
  else match d.m.sender with
    | some e => (failed (4 * e + d.m.sthread) s).sendTo e (s.asLost e d.m)
    | none => s

/-- The message DISPATCH_GIVE_UP takes: the oldest bounced one, or the oldest intake whose role has no active holder. -/
def State.giveUpCandidate (s : State) : Option DMsg :=
  if s.flag rDspCtl 1 then none else
  s.disp.waiting.find? fun d => d.flight = 0 && (d.bounced.isSome || (d.frame.isSome && !s.anyHolder d.m.role))

/-- SYS_DSP_ENGn as it stands (Table 6-14). -/
def State.dspEng (s : State) (n : Nat) : Nat :=
  let d := s.deng n
  d.epoch * 65536 + d.role * 4096 + d.stopped * 256 + d.state * 64 + (s.en n).queue.length

/-- SYS_DSP_STATUS as it stands. -/
def State.dspStatus (s : State) : Nat :=
  min (s.disp.waiting.filter fun d => d.frame.isSome && d.flight = 0).length 0xFFFF +
    (s.ft.sessions.filter fun x => x.2.busy).length / 256 % 256 * 65536

end Sys2Proof.Machine
end

