-- ==== Sys2Proof/Machine/CfgSets.lean ====
section
/-! DEFINITION. Configuration sets as the units read them: sections, default records (R47, R493, R498, R501), and the
fields of the namespace, tenant, directory, device and Pack records. -/
namespace Sys2Proof.Machine

def secGlobal : Nat := 0
def secProtocol : Nat := 1
def secStorage : Nat := 2
def secDram : Nat := 3
def secPort : Nat := 4
def secGate : Nat := 5
def secTenant : Nat := 6
def secNs : Nat := 7
def secDir : Nat := 8
def secDevice : Nat := 9
def secPack : Nat := 10
def secBinding : Nat := 11
def secKeygrant : Nat := 12
def secCipher : Nat := 13

/-- Record sizes and counts (Table 12-10). -/
def recSize (sec : Nat) : Nat :=
  ([16, 32, 64, 16, 128, 288, 32, 32, 32, 32, 160, 4, 4, 16][sec]?).getD 0
def recCount (sec : Nat) : Nat :=
  ([1, 1, 1, 1, 2, 2, 1024, 4096, 65536, 16384, 1, 80, 4096, 1][sec]?).getD 0

def defaultProtocol : Bytes :=
  leBytes 2 7341 ++ leBytes 2 16 ++ leBytes 4 1000 ++ leBytes 4 100000 ++ leBytes 4 128 ++ leBytes 4 512 ++ leBytes 4 1000 ++ zeros 8
def defaultStorage : Bytes :=
  leBytes 2 512 ++ [0, 4, 50, 0] ++ leBytes 2 20 ++ zeros 4 ++ leBytes 2 8 ++ leBytes 2 256 ++ [4, 10] ++ leBytes 2 16 ++
    [40, 7, 25, 2] ++ zeros 2 ++ leBytes 2 200 ++ zeros 36
def defaultDram : Bytes := [0xFF, 0, 3, 1] ++ leBytes 2 1000 ++ [1, 0] ++ leBytes 4 80 ++ zeros 4
def defaultPort : Bytes :=
  [0, 0, 0, 2] ++ leBytes 2 9216 ++ [0xFF, 0] ++ zeros 6 ++ [1, 2] ++ leBytes 2 20480 ++ leBytes 2 16384 ++ leBytes 2 100 ++
    leBytes 2 1000 ++ leBytes 2 256 ++ [0, 30] ++ leBytes 2 1000 ++ [80, 10] ++ zeros 96

/-- What a record that was never written holds: the defaults its table gives, else zero; no owner in KEYGRANT. -/
def defaultRec (sec : Nat) : Bytes :=
  if sec = secProtocol then defaultProtocol else if sec = secStorage then defaultStorage
  else if sec = secDram then defaultDram else if sec = secPort then defaultPort
  else if sec = secKeygrant then leBytes 4 0x3FF else zeros (recSize sec)

/-- Record `i` of section `sec`. -/
def CfgSet.get (c : CfgSet) (sec i : Nat) : Bytes := mgetD c.recs (sec * 65536 + i) (defaultRec sec)
def CfgSet.put (c : CfgSet) (sec i : Nat) (b : Bytes) : CfgSet := { c with recs := mset c.recs (sec * 65536 + i) b }

/-- The bits of byte `i` of a record that its table names: the reserved ones leave as zero (R17). -/
def recMask (sec i : Nat) : Nat :=
  let upTo := fun (n : Nat) => if i < n then 0xFF else 0
  if sec = secGlobal then (if i = 5 then 0x3F else upTo 6)
  else if sec = secProtocol then upTo 24
  else if sec = secStorage then upTo 32
  else if sec = secDram then (if i = 7 then 0 else upTo 12)
  else if sec = secPort then (if i = 14 then 7 else if i = 26 then 0x1F else upTo 112)
  else if sec = secGate then upTo 272
  else if sec = secTenant then (if i = 1 then 3 else if i = 3 then 0 else 0xFF)
  else if sec = secNs then (if i = 1 ∨ i = 5 then 0x0F else if i = 3 then 3 else if i = 7 then 0 else if i = 9 ∨ i = 11 then 0x3F else 0xFF)
  else if sec = secDir then (if i = 1 then 0x0F else if i = 3 then 0x3F else if i = 4 then 1 else if i < 4 ∨ 8 ≤ i ∧ i < 24 then 0xFF else 0)
  else if sec = secDevice then (if i = 20 then 1 else upTo 20)
  else if sec = secPack then (if i = 0 ∨ 8 ≤ i ∧ i < 148 then 0xFF else 0)
  else if sec = secBinding then (if i = 1 then 0xFF else if i = 2 then 0x0F else if i = 3 then 0x80 else 0)
  else if sec = secKeygrant then (if i = 1 then 3 else upTo 1)
  else upTo 6

def cleanRec (sec : Nat) (b : Bytes) : Bytes := b.zipIdx.map fun e => e.1 &&& BitVec.ofNat 8 (recMask sec e.2)

/-- The set in force for a frame's epoch (R496). -/
def State.setOf (s : State) (epoch : Nat) : CfgSet :=
  if s.cfg.active.epoch = epoch then s.cfg.active else match s.cfg.prev with
    | some p => if p.epoch = epoch then p else s.cfg.active
    | none => s.cfg.active

/-! Namespace and tenant records (Tables 2-1, 2-2). -/
def nsTenant (c : CfgSet) (ns : Nat) : Nat := bits (leAt (c.get secNs ns) 2 2) 0 10
/-- 0 absent, 1 active, 2 read-only, 3 follower. -/
def nsStateOf (c : CfgSet) (ns : Nat) : Nat := byteAt (c.get secNs ns) 4
def nsFlag (c : CfgSet) (ns i : Nat) : Bool := bit (byteAt (c.get secNs ns) 5) i
def nsFollowers (c : CfgSet) (ns : Nat) : List Nat :=
  (List.range (byteAt (c.get secNs ns) 6)).map fun i => bits (leAt (c.get secNs ns) (8 + 2 * i) 2) 0 14
def nsMirrorUs (c : CfgSet) (ns : Nat) : Nat := let v := leAt (c.get secNs ns) 12 4; if v = 0 then 2000 else v
def nsKeyQuota (c : CfgSet) (ns : Nat) : Nat := leAt (c.get secNs ns) 16 8
def nsByteQuota (c : CfgSet) (ns : Nat) : Nat := leAt (c.get secNs ns) 24 8
/-- 0 absent, 1 active, 2 suspended. -/
def tenantState (c : CfgSet) (t : Nat) : Nat := byteAt (c.get secTenant t) 2
def tenantOpsRate (c : CfgSet) (t : Nat) : Nat := leAt (c.get secTenant t) 4 4
def tenantOpsBurst (c : CfgSet) (t : Nat) : Nat := leAt (c.get secTenant t) 8 4
def tenantByteRate (c : CfgSet) (t : Nat) : Nat := leAt (c.get secTenant t) 12 4
def tenantByteBurst (c : CfgSet) (t : Nat) : Nat := leAt (c.get secTenant t) 16 4
def tenantSessLimit (c : CfgSet) (t : Nat) : Nat := leAt (c.get secTenant t) 20 4
def tenantByteQuota (c : CfgSet) (t : Nat) : Nat := leAt (c.get secTenant t) 24 8

/-! Protocol record (Table 3-10). -/
def State.proto (s : State) (o n : Nat) : Nat := leAt (s.cfg.active.get secProtocol 0) o n

/-! Directory, devices and the Pack (R81, R82, R86, R593). -/
def selfId (c : CfgSet) : Nat := bits (leAt (c.get secGlobal 0) 4 2) 0 14
def dirGen (c : CfgSet) : Nat := leAt (c.get secGlobal 0) 0 4
def dirNs (e : Bytes) : Nat := bits (leAt e 0 2) 0 12
def dirOwner (e : Bytes) : Nat := bits (leAt e 2 2) 0 14
def dirReadOnly (e : Bytes) : Bool := bit (byteAt e 4) 0
def dirHead (e : Bytes) : Nat := beAt e 8 16
def headOf (k : Bytes) : Nat := beNat (padTo 16 k)

/-- The entry of a namespace that covers a head: the greatest START_HEAD not above it (R81). -/
def dirEntry (c : CfgSet) (ns head : Nat) : Option Bytes :=
  (c.dir.filter fun e => dirNs e = ns && decide (dirHead e ≤ head)).foldl (fun best e => match best with
    | none => some e
    | some b => if dirHead b ≤ dirHead e then some e else some b) none

/-- The entry with the lowest START_HEAD above `head` that satisfies `p`. -/
def dirNext (c : CfgSet) (ns head : Nat) (p : Bytes → Bool) : Option Bytes :=
  (c.dir.filter fun e => dirNs e = ns && decide (head < dirHead e) && p e).foldl (fun best e => match best with
    | none => some e
    | some b => if dirHead e < dirHead b then some e else some b) none

def packN (c : CfgSet) : Nat := byteAt (c.get secPack 0) 0
/-- Boundary `b`, 1 to N - 1, of a PACK record: namespace and head (R86, Table 12-12). -/
def recBound (r : Bytes) (b : Nat) : Nat := leAt r (8 + 20 * (b - 1)) 20 / 2 ^ 20
def packBound (c : CfgSet) (b : Nat) : Nat := recBound (c.get secPack 0) b
/-- The position that holds a namespace and head under a PACK record. -/
def recHolder (r : Bytes) (ns head : Nat) : Nat :=
  ((List.range (byteAt r 0 - 1)).filter fun i => decide (recBound r (i + 1) ≤ ns * 2 ^ 128 + head)).length
def packHolder (c : CfgSet) (ns head : Nat) : Nat := recHolder (c.get secPack 0) ns head
/-- The key lies between the old and the new place of a boundary that is being moved (R89, R184). -/
def State.moving (s : State) (c : CfgSet) (ns : Nat) (key : Bytes) : Bool := match s.pack.moved with
  | some r => decide (2 ≤ packN c) && recHolder r ns (headOf key) != packHolder c ns (headOf key)
  | none => false

/-- This device, or a member of its Pack whose HELLO has named it (R82, R90, R593). -/
def State.isLocalDev (s : State) (c : CfgSet) (d : Nat) : Bool :=
  d == selfId c || (decide (2 ≤ packN c) && s.pack.devices.any fun x => x.2 = d)

def State.ownedHere (s : State) (c : CfgSet) (ns head : Nat) : Bool :=
  match dirEntry c ns head with
  | none => true
  | some e => s.isLocalDev c (dirOwner e)

/-- The REDIRECT value (Table 3-6). -/
def redirectVal (c : CfgSet) (owner : Nat) : Bytes :=
  let d := c.get secDevice owner
  beBytes 2 owner ++ slice d 16 2 ++ beBytes 4 (dirGen c) ++ slice d 0 16

/-- Place directory entries by key: same NSID and START_HEAD replaces (R493). -/
def dirPlace (dir : List Bytes) (e : Bytes) : List Bytes :=
  if dir.any fun x => dirNs x = dirNs e && dirHead x = dirHead e then
    dir.map fun x => if dirNs x = dirNs e ∧ dirHead x = dirHead e then e else x
  else dir ++ [e]

end Sys2Proof.Machine
end

