-- ==== Sys2Proof/Machine/DramMap.lean ====
section
/-! DEFINITION. DRAM addresses: the windows of Table 8-2 and the maps of R339 to R342. A byte's canonical address is its
interleaved address, or 0x90_0000_0000 + channel × 2^32 + offset in a local area. -/
namespace Sys2Proof.Machine

def rDrcCtl : Nat := 0x10300000
def rDrcStatus : Nat := 0x10300004
def rDrcMap : Nat := 0x10300008
def drcBlock (ch : Nat) : Nat := 0x10301000 + 0x1000 * ch

/-- The enabled channels, counting from 0 upward. -/
def State.dramChans (s : State) : List Nat := (List.range 8).filter fun c => bit (s.rd rDrcMap) c
def State.dramRanks (s : State) : Nat := 1 + s.fld rDrcMap 10 10
def State.dramRows (s : State) : Nat := if s.flag rDrcMap 11 then 131072 else 65536
def State.localRows (s : State) : Nat := s.fld 0x1030000C 17 0
/-- Bytes of one channel's local area (R339). -/
def State.localCap (s : State) : Nat := s.localRows * 16 * s.dramRanks * 1792
/-- Bytes of the interleaved area (R340). -/
def State.interCap (s : State) : Nat := s.dramChans.length * (s.dramRows - s.localRows) * 16 * s.dramRanks * 1792

def localBase : Nat := 0x9000000000
def localKey (c x : Nat) : Nat := localBase + c * 2 ^ 32 + x

def State.jrnChA (s : State) : Nat := leAt (s.cfg.active.get secStorage 0) 2 1
def State.jrnChB (s : State) : Nat := leAt (s.cfg.active.get secStorage 0) 3 1

/-- The canonical address read at data address `a` and those written, for `n` bytes inside one window; none where no window
holds them all (R338). -/
def State.dramKeys (s : State) (a n : Nat) : Option (Nat × List Nat) :=
  let cap := s.localCap
  let isJ := fun (c : Nat) => c == s.jrnChA || c == s.jrnChB
  if a + n ≤ s.interCap then some (a, [a])
  else if 0x8000000000 ≤ a ∧ a + n ≤ 0x8000000000 + cap then
    let x := a - 0x8000000000
    some (localKey s.jrnChA x, [localKey s.jrnChA x, localKey s.jrnChB x])
  else if 0x8800000000 ≤ a ∧ a + n ≤ 0x8800000000 + cap then some (localKey s.jrnChB (a - 0x8800000000), [])
  else if localBase ≤ a then
    let c := (a - localBase) / 2 ^ 32
    let x := (a - localBase) % 2 ^ 32
    if c < 8 ∧ s.dramChans.contains c = true ∧ x + n ≤ cap then some (a, if isJ c then [] else [a]) else none
  else none

def State.dramReadable (s : State) (a n : Nat) : Bool := (s.dramKeys a n).isSome
def State.dramWritable (s : State) (a n : Nat) : Bool := match s.dramKeys a n with
  | some (_, _ :: _) => true
  | _ => false

/-- DRAM takes requests: enabled, initialised, not in self-refresh. -/
def State.dramReady (s : State) : Bool := s.flag rDrcCtl 0 && s.flag rDrcStatus 0 && !s.flag rDrcStatus 6

def State.dramRd (s : State) (a n : Nat) : Bytes := match s.dramKeys a n with
  | some (k, _) => memRead s.mem.dram k n
  | none => []

def writeAt (b : Bytes) : List Nat → Memory → Memory
  | [], m => m
  | k :: t, m => writeAt b t (memWrite m k b)

def State.dramWr (s : State) (a : Nat) (b : Bytes) : State := match s.dramKeys a b.length with
  | some (_, ks) => s.setMem { s.mem with dram := writeAt b ks s.mem.dram }
  | none => s

/-- The canonical line number used for poison marks. -/
def State.dramLine (s : State) (a : Nat) : Nat := match s.dramKeys a 1 with
  | some (k, _) => k / 64
  | none => a / 64

/-- A place in DRAM: channel, rank × 16 + bank group × 4 + bank, row, group, line of the group. -/
structure DPlace where
  ch : Nat
  bank : Nat
  row : Nat
  group : Nat
  o : Nat
deriving DecidableEq, Repr

/-- The digits of an order, least significant first: 0 channel, 1 bank group, 2 bank, 3 group, 4 rank (Table 8-3). -/
def orderDigits (order : Nat) : List Nat :=
  if order = 0 then [0, 1, 2, 3, 4] else if order = 1 then [3, 0, 1, 2, 4] else if order = 2 then [0, 3, 1, 2, 4] else [1, 0, 2, 3, 4]

/-- Consume digits from `u`: values by digit, and what is left, the row. -/
def takeDigits (size : Nat → Nat) : List Nat → Nat → Map Nat → Map Nat × Nat
  | [], u, m => (m, u)
  | d :: t, u, m => takeDigits size t (u / size d) (mset m d (u % size d))

/-- Where the line of a canonical address lies (R340, R341). -/
def State.dramPlace (s : State) (k : Nat) : DPlace :=
  let size := fun (d : Nat) => if d = 0 then max s.dramChans.length 1 else if d = 4 then s.dramRanks else 4
  let isLocal := decide (localBase ≤ k)
  let line := (if isLocal then (k - localBase) % 2 ^ 32 else k) / 64
  let digits := if isLocal then [1, 2, 3, 4] else orderDigits (s.fld rDrcMap 9 8)
  let (m, row) := takeDigits size digits (line / 7) []
  let row := if isLocal then s.dramRows - s.localRows + row else row
  let ch := if isLocal then (k - localBase) / 2 ^ 32 else (s.dramChans[mgetD m 0 0]?).getD 0
  { ch := ch, bank := mgetD m 4 0 * 16 + mgetD m 1 0 * 4 + mgetD m 2 0, row := row, group := mgetD m 3 0, o := line % 7 }

/-- The segment of a row: its three most significant bits (R358). -/
def State.rowSegment (s : State) (row : Nat) : Nat := row * 8 / s.dramRows

end Sys2Proof.Machine
end

