-- ==== Sys2Proof/Machine/Dram.lean ====
section
/-! DEFINITION. The DRAM controllers (R329 to R370): queues, order, howl, refresh, frequency change, self-refresh,
training, scrubbing. A line's contents are taken at the cycle its request enters a queue (R343, R344, R348). -/
namespace Sys2Proof.Machine

def State.chan (s : State) (ch : Nat) : DChan := (mget s.drc.chans ch).getD DChan.reset
def State.setChan (s : State) (ch : Nat) (c : DChan) : State := s.setDrc { s.drc with chans := mset s.drc.chans ch c }
def State.drive (s : State) (ch what bank arg : Nat) : State :=
  s.setDrc { s.drc with cmds := { ch := ch, what := what, bank := bank, arg := arg } :: s.drc.cmds }

/-- The controller of a channel, and the stop it sits at. -/
def ctlOf (ch : Nat) : Nat := ch / 4
def ctlStop (k : Nat) : Nat := if k = 0 then 0 else 3

def rFspCtl : Nat := 0x1030001C
def rTrain : Nat := 0x10300020
def rTrnStatus : Nat := 0x10300028
def rQos : Nat := 0x10300088

def State.fspOp (s : State) : Nat := s.fld rDrcStatus 5 4
/-- DRC clock in kHz for a set point's RATE (Table 8-1b). -/
def State.drcKhz (s : State) : Nat :=
  let r := s.fld (0x10300010 + 4 * s.fspOp) 1 0
  if r = 0 then 533333 else if r = 1 then 800000 else if r = 2 then 937500 else 1066667
/-- DRC cycles since a time. -/
def State.drcAge (s : State) (t : Nat) : Nat := (s.now - t) * s.drcKhz / 1500000

/-! Errors (R336, R366, R367). -/

/-- A corrected line of channel `ch`. -/
def State.countCe (s : State) (ch n : Nat) : State :=
  let c := s.chan ch
  (s.setChan ch { c with ceWin := c.ceWin + n }).bump (drcBlock ch + 0x400) n

/-- An uncorrectable line at a canonical address: counted, its address kept, poisoned, reported; at UE_SIT in a window
SIT_REQ is set. -/
def State.countUe (s : State) (k : Nat) (stop : Nat) : State :=
  let ch := (s.dramPlace k).ch
  let c := s.chan ch
  let s := (s.setChan ch { c with ueWin := c.ueWin + 1 }).bump (drcBlock ch + 0x408)
  let s := s.setC64 (drcBlock ch + 0x480) (k % 2 ^ 40)
  let s := if s.mem.poison.contains (3, k / 64) then s else s.setMem { s.mem with poison := s.mem.poison ++ [(3, k / 64)] }
  let s := s.linePoisoned stop k
  if s.fld 0x1030008C 23 16 ≤ (s.chan ch).ueWin then s.setFlag rDrcStatus 24 true else s

/-! Howl (R346, R352). -/

/-- Owed refreshes of a channel go out back to back. -/
def State.payDebt (s : State) (ch : Nat) : State :=
  let c := s.chan ch
  if c.debt = 0 ∧ c.forced = false then s
  else
    let n := c.debt + b2n c.forced
    (List.range n).foldl (fun s _ => s.drive ch 4 0 0) (s.setChan ch { c with debt := 0, forced := false, rows := [] })

def State.howlAt (s : State) (k : Nat) : Bool := s.drc.howl.any fun x => x / 3 = k

def fifoOf (d : Dram) (x : Nat) : List DReq := mgetD d.fifos x []

/-- Howl follows the FIFO levels; when a controller's howl clears its channels pay their refresh debt. -/
def State.howlCheck (s : State) : State :=
  let up := (List.range 6).filter fun x =>
    let n := (fifoOf s.drc x).length
    decide (96 ≤ n) || (s.drc.howl.contains x && decide (64 < n))
  let was := [0, 1].filter fun k => s.howlAt k
  let s := s.setDrc { s.drc with howl := up }
  let cleared := was.filter fun k => !s.howlAt k
  cleared.foldl (fun s k => (List.range 4).foldl (fun s i => s.payDebt (k * 4 + i)) s) s

/-! Requests (R343 to R348). -/

/-- May channel `ch` take requests into its queues now? -/
def State.chanOpen (s : State) (ch : Nat) : Bool :=
  s.dramReady && s.drc.change.isNone && !bit (s.fld rTrain 7 0) ch

/-- Write drain starts at WQ_HI lines and ends at WQ_LO (R345). -/
def State.drainCheck (s : State) (ch : Nat) : State :=
  let c := s.chan ch
  let n := c.wq.length
  let d := if s.fld rQos 23 16 ≤ n then true else if n ≤ s.fld rQos 31 24 then false else c.drain
  s.setChan ch { c with drain := d }

/-- Staging drains into the write queue in arrival order (R342). -/
def drainStaging : Nat → Nat → State → State
  | 0, _, s => s
  | n + 1, ch, s =>
    let c := s.chan ch
    match c.staging with
    | r :: t => if c.wq.length < 48 then drainStaging n ch (s.setChan ch { c with wq := c.wq ++ [r], staging := t }) else s
    | [] => s

/-- The newest queued write of a line, in the write queue or staging. -/
def DChan.newest (c : DChan) (line : Nat) : Option DReq :=
  (c.wq ++ c.staging).foldl (fun best r => if r.line = line then (match best with
    | some b => if b.id < r.id then some r else some b
    | none => some r) else best) none

/-- The bytes of a merged line: those whose mask bit is set from `new` (R335). -/
def mergeLine (old new mask : Bytes) : Bytes :=
  (List.range 64).map fun i => if bit (byteAt mask (i / 8)) (i % 8) then (new.drop i).headD 0 else (old.drop i).headD 0

def State.poisonLine (s : State) (k : Nat) (on : Bool) : State :=
  let p := s.mem.poison.filter (· != (3, k / 64))
  s.setMem { s.mem with poison := if on then p ++ [(3, k / 64)] else p }

/-- A read-modify-write of the line at a canonical address (R335): counted; what decoding the old line found is counted against its
channel, and an uncorrectable one leaves the merged line poisoned. -/
def State.rmw (s : State) (k : Nat) (old : Ecc) : State :=
  let ch := (s.dramPlace k).ch
  let s := s.bump (drcBlock ch + 0x428)
  match old with
  | .good => s
  | .corrected => s.countCe ch 1
  | .bad => s.countUe k (ctlStop (ctlOf ch))

/-- The lines that a write of `n` bytes at data address `a` covers in part, each in every copy, are merged. -/
def State.rmwEnds (s : State) (a n : Nat) (old : Ecc) : State :=
  let ends := (if a % 64 = 0 then [] else [a / 64]) ++ (if (a + n) % 64 = 0 ∨ (a % 64 ≠ 0 ∧ (a + n) / 64 = a / 64) then [] else [(a + n) / 64])
  let keys := ends.flatMap fun l => match s.dramKeys (64 * l) 64 with
    | some (_, ks) => ks
    | none => []
  keys.foldl (fun (s : State) k => s.rmw k old) s

/-- What a request does to its line in the cycle in which it enters its queue (R343): a write's line holds the new data from here, merged
where its mask is partial; a read takes what its line holds. -/
def State.absorb (s : State) (r : DReq) : DReq × State :=
  let k := 64 * r.line
  if r.write then
    let b := if r.partialMask then mergeLine (memRead s.mem.dram k 64) r.data r.mask else padTo 64 r.data
    let s := s.setMem { s.mem with dram := memWrite s.mem.dram k b }
    ({ r with data := b }, if r.partialMask then s.rmw k r.old else s.poisonLine k false)
  else ({ r with data := memRead s.mem.dram k 64 }, s)

/-- A request enters its queue, or is served from a queued full line (R348). `jrn`: journal staging of its channel. -/
def State.enterQueue (s : State) (r : DReq) (jrn : Bool) : State :=
  let (r, s) := s.absorb r
  let c := { s.chan r.ch with down := false }
  if r.write then
    if jrn then drainStaging 48 r.ch (s.setChan r.ch { c with staging := c.staging ++ [r] }) |>.drainCheck r.ch
    else (s.setChan r.ch { c with wq := c.wq ++ [r] }).drainCheck r.ch
  else match c.newest r.line with
    | some w => if w.partialMask then s.setChan r.ch { c with rq := c.rq ++ [r] }
      else
        let s := s.setChan r.ch c
        (s.setDrc { s.drc with served := (r.id, r.data) :: s.drc.served }).bump (drcBlock r.ch + 0x420)
    | none => s.setChan r.ch { c with rq := c.rq ++ [r] }

/-- Has the queue a request needs room? -/
def State.queueRoom (s : State) (r : DReq) (jrn : Bool) : Bool :=
  let c := s.chan r.ch
  s.chanOpen r.ch && (if !r.write then decide (c.rq.length < 64) else if jrn then decide (c.staging.length < 16384)
    else decide (c.wq.length < 48))

/-- Is this write one of the journal window (both its copies lie in local areas of the journal channels)? -/
def State.isJournalKey (s : State) (k : Nat) : Bool :=
  decide (localBase ≤ k) && (let c := (k - localBase) / 2 ^ 32; c == s.jrnChA || c == s.jrnChB)

/-- Waiting requests enter in order as room allows: a request passes no older one of its channel. -/
def admitList : List DReq → List Nat → List DReq → State → List DReq × State
  | [], _, keep, s => (keep.reverse, s)
  | r :: t, stuck, keep, s =>
    let j := r.write && s.isJournalKey (r.line * 64)
    if !stuck.contains r.ch && s.queueRoom r j then admitList t stuck keep (s.enterQueue r j)
    else admitList t (r.ch :: stuck) (r :: keep) s

def admitFifo (s : State) (x : Nat) : State :=
  let (left, s) := admitList (fifoOf s.drc x) [] [] s
  s.setDrc { s.drc with fifos := mset s.drc.fifos x left }

/-- Real-time requests from the mesh fill their FIFOs up to 128 lines; others wait for their queues. -/
def State.dramAdmit (s : State) : State :=
  let s := (List.range 6).foldl admitFifo s
  let isRt := fun (r : DReq) => r.rt.isSome
  let rt := s.drc.waiting.filter isRt
  let rest := s.drc.waiting.filter fun r => !isRt r
  let (s, stay) := rt.foldl (fun (p : State × List DReq) r =>
    let x := ctlOf r.ch * 3 + r.rt.getD 0
    let q := fifoOf p.1.drc x
    if q.length < 128 then (p.1.setDrc { p.1.drc with fifos := mset p.1.drc.fifos x (q ++ [r]) }, p.2) else (p.1, p.2 ++ [r])) (s, [])
  let (left, s) := admitList rest [] [] s
  (s.setDrc { s.drc with waiting := stay ++ left }).howlCheck

/-- One copy of a line write asks for its queue. -/
def State.lineWrite (s : State) (k : Nat) (data mask : Bytes) (old : Ecc) (rt : Option Nat) : State :=
  let r : DReq :=
    { id := s.drc.nextId, ch := (s.dramPlace k).ch, line := k / 64, write := true, partialMask := mask.any (· != 0xFF), data := data,
      mask := mask, old := old, rt := rt, since := s.now }
  (s.setDrc { s.drc with nextId := s.drc.nextId + 1, waiting := s.drc.waiting ++ [r] }).dramAdmit

/-- DRAM_REQUEST (R335, R338, R343): one line at data address `a`; `mask` of eight bytes for a write. Outside every
window it does nothing (its job ends with FAULT, R338). -/
def dramRequest (a : Nat) (write : Bool) (data mask : Bytes) (old : Ecc) (rt : Option Nat) (s : State) : State :=
  match s.dramKeys (a / 64 * 64) 64 with
  | none => s
  | some (k, ks) =>
    if write then ks.foldl (fun s k => s.lineWrite k data (padTo 8 mask) old rt) s
    else
      let r : DReq :=
        { id := s.drc.nextId, ch := (s.dramPlace k).ch, line := k / 64, write := false, partialMask := false,
          data := [], mask := [], old := .good, rt := rt, since := s.now }
      (s.setDrc { s.drc with nextId := s.drc.nextId + 1, waiting := s.drc.waiting ++ [r] }).dramAdmit

/-- May the request's line be touched yet (R344, R348)? -/
def DChan.ready (c : DChan) (r : DReq) : Bool :=
  if r.write then
    !(c.rq.any fun x => x.line = r.line && decide (x.id < r.id)) && !(c.wq.any fun x => x.line = r.line && decide (x.id < r.id))
  else !((c.wq ++ c.staging).any fun x => x.line = r.line && x.partialMask && decide (x.id < r.id))

/-- The class of a request in Table 8-4, 2 to 7. -/
def State.classOf (s : State) (c : DChan) (r : DReq) : Nat :=
  let p := s.dramPlace (r.line * 64)
  let hit := mget c.rows p.bank = some p.row
  let preferred := r.write == c.drain
  let howled := match r.rt with
    | some q => s.drc.howl.contains (ctlOf r.ch * 3 + q)
    | none => false
  if howled then 2 else if s.fld rQos 11 0 ≤ s.drcAge r.since then 3
  else if preferred then (if hit then 4 else 5) else if hit then 6 else 7

/-- The lowest class, and in it the oldest. -/
def pickLine (cls : DReq → Nat) : List DReq → Option DReq
  | [] => none
  | r :: t => match pickLine cls t with
    | none => some r
    | some b => if cls b < cls r ∨ (cls b = cls r ∧ b.id < r.id) then some b else some r

/-- The bursts of one line (R334, R335): a read takes the data chunk and, unless the check buffer holds it, the check chunk;
a write the data chunk and a masked write of the line's bytes of the check chunk, after the read of a read-modify-write. -/
def State.driveLine (s : State) (r : DReq) (p : DPlace) (inBuf : Bool) : State :=
  let data := p.row * 32 + 8 * p.group + p.o
  let check := p.row * 32 + 8 * p.group + 7
  let s := if r.write && !r.partialMask then s else
    let s := s.drive r.ch 2 p.bank data
    if inBuf then s else s.drive r.ch 12 p.bank check
  if r.write then (s.drive r.ch 3 p.bank data).drive r.ch 13 p.bank check else s

/-- A request's bursts are issued: it leaves its queue, and a read is served (R334, R345). -/
def State.issueData (s : State) (c : DChan) (r : DReq) (p : DPlace) (cls : Nat) : State :=
  let ck := p.bank * 2 ^ 24 + p.row * 4 + p.group
  let s := s.driveLine r p (c.check.contains ck)
  let reads := !r.write || r.partialMask
  let check := if reads then (ck :: c.check.filter (· != ck)).take 16 else c.check
  let c := { c with rq := c.rq.filter (·.id != r.id), wq := c.wq.filter (·.id != r.id), check := check }
  let s := s.setChan r.ch c
  let s := if reads then s.bump (drcBlock r.ch + 0x410) else s
  let s := if r.write then s.bump (drcBlock r.ch + 0x418) else s.setDrc { s.drc with served := (r.id, r.data) :: s.drc.served }
  let s := if cls = 2 then s.bump (drcBlock r.ch + 0x438) else s
  ((drainStaging 48 r.ch s).drainCheck r.ch).dramAdmit

/-- DRAM_COMMAND_ISSUE (R345, Table 8-4): channel `ch` issues one command; `timed`: the requests whose command the DRAM
timing allows now. A forced refresh comes first. -/
def dramCommandIssue (ch : Nat) (timed : List Nat) (s : State) : State :=
  let c := s.chan ch
  if s.flag rDrcStatus 6 then s
  else if c.forced then (s.setChan ch { c with forced := false, rows := [] }).drive ch 4 0 0
  else if !s.dramReady || bit (s.fld rTrain 7 0) ch then s
  else match pickLine (s.classOf c) ((c.rq ++ c.wq).filter fun r => timed.contains r.id && c.ready r) with
    | none => s
    | some r =>
      let p := s.dramPlace (r.line * 64)
      match mget c.rows p.bank with
      | some row =>
        if row = p.row then s.issueData c r p (s.classOf c r)
        else (s.setChan ch { c with rows := mdel c.rows p.bank }).drive ch 0 p.bank 0
      | none => (s.setChan ch { c with rows := mset c.rows p.bank p.row }).drive ch 1 p.bank p.row

/-- DRAM_POWER_DOWN (R345): 256 DRC cycles without a request. -/
def dramPowerDown (ch : Nat) (s : State) : State :=
  let c := s.chan ch
  if c.rq.isEmpty && c.wq.isEmpty && c.staging.isEmpty && !s.flag rDrcStatus 6 && !c.down then
    (s.setChan ch { c with down := true }).drive ch 9 0 0
  else s

/-! Refresh (R349 to R352). -/

/-- DRAM_REFRESH_DUE (R351, R352): tREFI elapses. -/
def dramRefreshDue (ch : Nat) (s : State) : State :=
  if s.flag rDrcStatus 6 then s else
  let c := s.chan ch
  if s.howlAt (ctlOf ch) then
    if s.fld 0x10300080 27 24 ≤ c.debt then s.setChan ch { c with forced := true }
    else (s.setChan ch { c with debt := c.debt + 1 }).bump (drcBlock ch + 0x430)
  else (s.setChan ch { c with rows := [] }).drive ch 4 0 0

/-- ZQ_LATCH (R350). -/
def zqLatch (ch : Nat) (s : State) : State := if s.flag rDrcStatus 6 then s else s.drive ch 5 0 0

/-- MR4_POLL (R349): `hot`: some rank reports above 85 °C. -/
def mr4Poll (hot : Bool) (s : State) : State := if s.flag rDrcStatus 6 then s else s.setFlag 0x10300080 28 hot

/-! Initialisation, frequency change, self-refresh. -/

/-- DRAM_INIT_COMPLETE (R337, R359): every line, or every line of a masked segment, holds zeros. -/
def dramInitComplete (s : State) : State :=
  if s.flag rDrcStatus 0 ∨ s.flag rDrcStatus 6 ∨ s.flag rDrcCtl 0 = false then s
  else
    let gone := fun (a : Nat) => if s.drc.partInit then
        let p := s.dramPlace a
        bit (s.rd (0x103000A0 + 4 * p.ch)) (s.rowSegment p.row)
      else true
    let m := s.mem
    let s := s.setMem { m with dram := m.dram.filter (fun c => !gone c.1), poison := m.poison.filter fun x => x.1 != 3 || !gone (64 * x.2) }
    let s := if s.drc.partInit then (List.range 8).foldl (fun s c => s.wr (0x103000A0 + 4 * c) 0) s else s
    ((s.setDrc { s.drc with partInit := false }).setFlag rDrcStatus 0 true).dramAdmit

/-- FSP_CHANGE (R353, R354): TARGET is written and GO set. -/
def fspChange (target : Nat) (s : State) : State :=
  let s := if target ≤ 2 then s.setFld rFspCtl 1 0 target else s
  if s.drc.change.isSome then s
  else
    let t := s.fld rFspCtl 1 0
    if s.fld rTrain 7 0 ≠ 0 ∨ s.flag (0x10300010 + 4 * t) 8 = false ∨ t = s.fspOp then s.setFlag rDrcStatus 2 true
    else (s.setDrc { s.drc with change := some t }).setFlag rFspCtl 31 true

/-- The change ends without a switch: as a refusal (R355). -/
def fspHowlTimeout (s : State) : State :=
  if s.drc.change.isSome && !s.drc.howl.isEmpty then
    (((s.setDrc { s.drc with change := none }).setFlag rFspCtl 31 false).setFlag rDrcStatus 2 true).dramAdmit
  else s

/-- Queued requests of a channel complete, oldest first. -/
def finishChan (s : State) (ch : Nat) : State :=
  let c := s.chan ch
  let served := (c.rq.map fun r => (r.id, r.data)).reverse
  let rmw := ((c.wq ++ c.staging).filter (·.partialMask)).length
  let s := (s.bump (drcBlock ch + 0x410) (c.rq.length + rmw)).bump (drcBlock ch + 0x418) (c.wq.length + c.staging.length)
  let s := s.setDrc { s.drc with served := served ++ s.drc.served }
  let s := s.setChan ch { c with rq := [], wq := [], staging := [], rows := [], drain := false }
  s.payDebt ch

def State.finishAll (s : State) : State := (List.range 8).foldl finishChan s

/-- FSP_CHANGE_COMPLETE (Table 8-5): steps 2 to 5; howl holds step 2. -/
def fspChangeComplete (s : State) : State :=
  match s.drc.change with
  | none => s
  | some t =>
    if !s.drc.howl.isEmpty then s
    else
      let s := s.finishAll
      let s := (s.dramChans).foldl (fun s ch => s.drive ch 6 0 (16 * 256 + t)) s
      (((s.setFld rDrcStatus 5 4 t).setFlag rFspCtl 31 false).setDrc { s.drc with change := none }).dramAdmit

/-- SELF_REFRESH_ENTER (R357): SR is set; queues complete and every enabled channel enters. -/
def selfRefreshEnter (s : State) : State :=
  if s.flag rDrcStatus 6 then s
  else
    let s := (s.setFlag rDrcCtl 3 true).finishAll
    let s := s.dramChans.foldl (fun s ch => (s.drive ch 6 0 (23 * 256 + s.fld (0x103000A0 + 4 * ch) 7 0)).drive ch 10 0 0) s
    s.setFlag rDrcStatus 6 true

/-- SELF_REFRESH_EXIT (R357, R359): SR is cleared; masked segments are initialised before requests go on. -/
def selfRefreshExit (s : State) : State :=
  let s := s.setFlag rDrcCtl 3 false
  if !s.flag rDrcStatus 6 then s
  else
    let s := s.dramChans.foldl (fun s ch => s.drive ch 11 0 0) (s.setFlag rDrcStatus 6 false)
    if (List.range 8).any fun c => s.rd (0x103000A0 + 4 * c) != 0 then
      (s.setFlag rDrcStatus 0 false).setDrc { s.drc with partInit := true }
    else s.dramAdmit

/-! Training (R360 to R363). -/

/-- The delay registers of bank `f` of channel `ch`. -/
def delayRegs (ch f : Nat) : List Nat :=
  let b := drcBlock ch + 0x100 * f
  [b, b + 4] ++ (List.range 18).map (fun i => b + 0x10 + 4 * i) ++ (List.range 18).map (fun i => b + 0x60 + 4 * i) ++ [b + 0xB0]

/-- A delay register that a write may change now (R360, R361): of another set point, or of an open channel. -/
def State.delayWritable (s : State) (a : Nat) : Bool :=
  let ch := (a - 0x10301000) / 0x1000
  let f := a % 0x1000 / 0x100
  f != s.fspOp || bit (s.fld rTrain 7 0) ch

/-- TRAIN_WINDOW_OPEN (R354, R360). -/
def trainOpen (ch : Nat) (s : State) : State :=
  if s.flag rFspCtl 31 || bit (s.fld rTrain 7 0) ch then s
  else
    let saved := (delayRegs ch s.fspOp).map fun a => (a, s.rd a)
    (s.setFlag rTrain ch true).setDrc { s.drc with windows := mset s.drc.windows ch { saved := saved, live := s.flag rDrcCtl 0 } }

/-- A window closes; with APPLY the trial bank stands, else the saved one returns. A window of a running controller ends a
retraining, whose outcome the Trail records (R366). -/
def State.trainShut (s : State) (ch : Nat) (apply : Bool) : State :=
  match mget s.drc.windows ch with
  | none => s.setFlag rTrain ch false
  | some w =>
    let s := if apply then s else w.saved.foldl (fun s x => s.wr x.1 x.2) s
    let s := (s.setDrc { s.drc with windows := mdel s.drc.windows ch }).setFlag rTrain ch false
    let s := if w.live then s.svEvent 0x0401 8 (leBytes 1 ch ++ leBytes 1 (b2n apply) ++ zeros 14) else s
    s.dramAdmit

/-- TRAIN_WINDOW_CLOSE (R360): the OPEN bit is cleared with APPLY as written. -/
def trainClose (ch : Nat) (apply : Bool) (s : State) : State :=
  let s := s.setFlag rTrain 16 apply
  if bit (s.fld rTrain 7 0) ch then s.trainShut ch apply else s

/-- TRAIN_WINDOW_TIMEOUT (R361): 500 µs after it opened while ENABLE was 1. -/
def trainTimeout (ch : Nat) (s : State) : State :=
  match mget s.drc.windows ch with
  | some w => if w.live then (s.trainShut ch false).setFlag rTrnStatus 1 true else s
  | none => s

/-- A write to DRC_TRN_CMD (R362). -/
def trainCmd (ch rank op ma opd : Nat) (s : State) : State :=
  if s.flag rTrnStatus 0 || !bit (s.fld rTrain 7 0) ch || op = 7 then s
  else
    let s := s.drive ch (if op = 0 then 6 else if op = 1 then 7 else 8) rank (op * 65536 + ma * 256 + opd)
    (s.setDrc { s.drc with train := some { ch := ch, rank := rank, op := op, ma := ma, opd := opd } }).setFlag rTrnStatus 0 true

/-- Captured bytes of each operation (Table 8-6). -/
def captureLen (op : Nat) : Nat := if op = 1 then 1 else if op = 2 ∨ op = 3 then 2 else if op = 4 ∨ op = 6 then 64 else 0

/-- The capture stands in DRC_TRN_RESULT0 up, byte 0 in bits [7:0] of the first. -/
def putCapture : Nat → Bytes → State → State
  | _, [], s => s
  | i, b :: t, s =>
    let a := 0x10300040 + 4 * (i / 4)
    putCapture (i + 1) t (s.setFld a (8 * (i % 4) + 7) (8 * (i % 4)) b.toNat)

/-- TRAIN_OP_COMPLETE (R362): BUSY clears; `capture`: what the DRAM answered. -/
def trainOpComplete (capture : Bytes) (s : State) : State :=
  match s.drc.train with
  | none => s
  | some t =>
    let s := (s.setDrc { s.drc with train := none }).setFlag rTrnStatus 0 false
    putCapture 0 (padTo (captureLen t.op) capture) s

/-! Scrubbing and error windows (R366 to R368). -/

/-- The canonical address of line `i` of channel `ch` in address order: the interleaved share, then the local area. -/
def State.scrubKey (s : State) (ch i : Nat) : Nat :=
  let order := s.fld rDrcMap 9 8
  let c := max s.dramChans.length 1
  let idx := (s.dramChans.idxOf ch)
  let share := s.interCap / 64 / c
  if i < share then
    let g := i / 7
    let p := if order = 0 ∨ order = 2 then 1 else 4
    let u := (g / p * c + idx) * p + g % p
    (u * 7 + i % 7) * 64
  else localKey ch ((i - share) * 64)

/-- DRAM_SCRUB (R368): one line of every enabled channel; `ecc`: what decoding found, by channel. -/
def dramScrub (ecc : List Ecc) (s : State) : State :=
  if !s.flag rDrcCtl 2 || s.fld 0x10300090 13 0 = 0 || !s.dramReady || s.halted then s
  else
    let i := s.drc.scrub
    let one := fun (s : State) (ch : Nat) =>
      let s := s.bump (drcBlock ch + 0x410)
      match (ecc[ch]?).getD .good with
      | .good => s
      | .corrected => (s.countCe ch 1).bump (drcBlock ch + 0x418)
      | .bad => s.countUe (s.scrubKey ch i) (ctlStop (ctlOf ch))
    let total := (s.interCap / max s.dramChans.length 1 + s.localCap) / 64
    let s := s.dramChans.foldl one s
    s.setDrc { s.drc with scrub := if total ≤ i + 1 then 0 else i + 1 }

/-- ECC_WINDOW (R366): a 1 s window of channel `ch` ends; above CE_THR retraining is asked for and the Trail told. -/
def eccWindow (ch : Nat) (s : State) : State :=
  let c := s.chan ch
  let s := s.setChan ch { c with ceWin := 0, ueWin := 0 }
  if s.fld 0x1030008C 15 0 < c.ceWin then
    (s.setFlag rDrcStatus (16 + ch) true).svEvent 0x0400 8 (leBytes 1 ch ++ zeros 3 ++ leBytes 4 c.ceWin ++ zeros 8)
  else s

/-- DRC_STATUS as it stands. -/
def State.drcStatus (s : State) : Nat := setBits (s.rd rDrcStatus) 3 1 (b2n (!s.drc.howl.isEmpty))
def State.drcHowl (s : State) : Nat := maskOf s.drc.howl
where maskOf (l : List Nat) : Nat := (l.map fun x => 2 ^ x).sum

def execDramPowerDown (ch : Fin 8) (s : State) : Out := s.onSv (dramPowerDown ch.val)
def execDramRefreshDue (ch : Fin 8) (s : State) : Out := s.onSv (dramRefreshDue ch.val)
def execZqLatch (ch : Fin 8) (s : State) : Out := s.onSv (zqLatch ch.val)
def execMr4Poll (hot : Bool) (s : State) : Out := s.onSv (mr4Poll hot)
def execFspChange (target : Fin 4) (s : State) : Out := s.onSv (fspChange target.val)
def execSelfRefreshEnter (s : State) : Out := s.onSv selfRefreshEnter
def execTrainWindowOpen (ch : Fin 8) (s : State) : Out := s.onSv (trainOpen ch.val)
def execMrWrite (ch : Fin 8) (rank : Fin 2) (ma opd : Byte) (s : State) : Out := s.onSv (trainCmd ch.val rank.val 0 ma.toNat opd.toNat)
def execMrRead (ch : Fin 8) (rank : Fin 2) (ma : Byte) (s : State) : Out := s.onSv (trainCmd ch.val rank.val 1 ma.toNat 0)
def execCaTrainingStep (ch : Fin 8) (rank : Fin 2) (s : State) : Out := s.onSv (trainCmd ch.val rank.val 2 0 0)
def execWckLevellingStep (ch : Fin 8) (rank : Fin 2) (s : State) : Out := s.onSv (trainCmd ch.val rank.val 3 0 0)
def execReadDqCalibration (ch : Fin 8) (rank : Fin 2) (s : State) : Out := s.onSv (trainCmd ch.val rank.val 4 0 0)
def execWriteFifo (ch : Fin 8) (rank : Fin 2) (s : State) : Out := s.onSv (trainCmd ch.val rank.val 5 0 0)
def execReadFifo (ch : Fin 8) (rank : Fin 2) (s : State) : Out := s.onSv (trainCmd ch.val rank.val 6 0 0)
def execTrainOpComplete (capture : Bytes) (s : State) : Out := s.onSv (trainOpComplete capture)
def execEccWindow (ch : Fin 8) (s : State) : Out := s.onSv (eccWindow ch.val)

end Sys2Proof.Machine
end

