-- ==== Sys2Proof/Machine/IcdinSys.lean ====
section
/-! DEFINITION. CSR, message, job, Nose, key, frame and system instructions (R214 to R216, R223 to R245), and the DMA mover. -/
namespace Sys2Proof.Machine

/-! Engine CSRs (Table 5-2). -/

def ticketBits (l : List Ticket) : Nat :=
  (l.zipIdx.map fun (k, i) => (if k == .busy then 2 ^ i else 0) + (if isDone k then 2 ^ (8 + i) else 0)).sum

def sleepBit (h : Thread) : Bool := match h.sleep with
  | .awake => false
  | _ => true

def tctl (h : Thread) : Nat :=
  b2n h.run + 2 * b2n h.muzzled + 4 * b2n h.intrap + 8 * b2n h.double + 16 * b2n (sleepBit h)

/-- The value of CSR `n` in thread `t`'s bank, or none where Table 5-2 lists no such number. -/
def State.csrGet (s : State) (t n : Nat) : Option Nat :=
  let h := s.th t
  let e := s.en (engineOf t)
  if n = 0x000 then some t
  else if n = 0x001 then some (tctl h)
  else if n = 0x010 then some e.role
  else if n = 0x011 then some e.queue.length
  else if n = 0x021 then some (ticketBits h.tickets)
  else if n = 0x022 then some (h.mzLoops.length * 16 + h.sysLoops.length)
  else if n = 0x030 then some (e.cycles % 2 ^ 32)
  else if n = 0x031 then some (e.cyclesSnap / 2 ^ 32)
  else if n = 0x032 then some (h.issued % 2 ^ 32)
  else if n = 0x033 then some (h.issuedSnap / 2 ^ 32)
  else if n = 0x034 then some e.lsecc
  else if [0x002, 0x004, 0x005, 0x006, 0x007, 0x008, 0x009, 0x020, 0x040, 0x041, 0x042, 0x043, 0x044, 0x045,
           0x046, 0x047, 0x048, 0x049].contains n then some (h.csr n)
  else none

/-- What reading CSR `n` does: snapshots (R15) and the clear of TEAM_LSECC. -/
def State.csrTouch (s : State) (t n : Nat) : State :=
  let h := s.th t
  let e := s.en (engineOf t)
  if n = 0x030 then s.setEn (engineOf t) { e with cyclesSnap := e.cycles % 2 ^ 64 }
  else if n = 0x032 then s.setTh t { h with issuedSnap := h.issued % 2 ^ 64 }
  else if n = 0x034 then s.setEn (engineOf t) { e with lsecc := 0 }
  else s

/-- The bits of a plain CSR that hold a value; 0 for read-only numbers. -/
def csrMask (n : Nat) : Nat :=
  if n = 0x002 ∨ n = 0x004 ∨ n = 0x005 ∨ n = 0x040 ∨ n = 0x041 then 0xFFFC
  else if n = 0x006 then 0xFFFF
  else if n = 0x007 ∨ n = 0x008 ∨ n = 0x009 then 0xFFFFFFFF
  else if n = 0x042 then 0x1FFFC
  else if n = 0x043 then 0x1FFFF
  else if n = 0x044 ∨ n = 0x045 then 0x3FFFF
  else 0

/-- A thread the dispatcher shows as stopped runs again (R258, R259); an engine all of whose threads were stopped takes part again. -/
def State.clearStopped (s : State) (e k : Nat) : State :=
  let d := s.deng e
  if !bit d.stopped k then s
  else s.setDEng e { d with stopped := setBits d.stopped k 1 0,
                            state := if d.state ≠ 3 then d.state else if d.pendRole.isSome then 2 else if d.role = 0 then 0 else 1 }

/-- A thread that starts: at TEAM_START, in system mode (R216). -/
def Thread.begin (h : Thread) : Thread :=
  { h with run := true, pc := h.csr cSTART, muzzled := false, intrap := false, double := false, sysLoops := [], mzLoops := [], sleep := .awake }

/-- RUN from 0 to 1 starts the thread at TEAM_START in system mode; from 1 to 0 stops it issuing (R216). -/
def State.setRun (s : State) (t : Nat) (r : Bool) : State :=
  let h := s.th t
  if r && !h.run then
    let e := engineOf t
    let s := (s.setEn e { s.en e with waiters := (s.en e).waiters.filter (· != t) }).clearStopped e (t % 4)
    s.setTh t h.begin
  else if !r && h.run then s.setTh t { h with run := false }
  else s

def State.csrPut (s : State) (t n v : Nat) : State :=
  if n = 0x001 then s.setRun t (bit v 0)
  else if n = 0x010 then s.setRole (engineOf t) (v &&& 0xFFFF000F)
  else if n = 0x020 then (if bits v 0 10 ≤ 512 then s.setTh t ((s.th t).setCsr n (bits v 0 10)) else s)
  else if csrMask n = 0 then s
  else s.setTh t ((s.th t).setCsr n (v &&& csrMask n))

/-- A write through the sub-block to a thread-scope CSR of a running thread is ignored, but for TEAM_TCTL (R215). -/
def State.csrPutOutside (s : State) (t n v : Nat) : State :=
  if (s.th t).run && n ≠ 0x001 && n ≠ 0x010 then s else s.csrPut t n v

/-- A CSR instruction (R223): old value to rd, then the new value `f old` where there is a write. -/
def csrOp (t : Fin 256) (rd rs1 : Fin 32) (n : BitVec 12) (major : Nat) (f : Nat → Option Nat) (s : State) : Out :=
  let word := encI major rd rs1 n.toNat
  onThread t word false (fun s _ =>
    match s.csrGet t n.toNat with
    | none => .trap cILLEGAL 0 word
    | some old =>
      let s1 := s.csrTouch t n.toNat
      let s2 := match f old with
        | some v => s1.csrPut t n.toNat (v % 2 ^ 32)
        | none => s1
      .next (wrG s2 t rd (BitVec.ofNat 64 old))) s

def execCsrrw (t : Fin 256) (rd rs1 : Fin 32) (n : BitVec 12) (s : State) : Out :=
  csrOp t rd rs1 n 0x2C (fun _ => some ((s.th t).g rs1).toNat) s
def execCsrrs (t : Fin 256) (rd rs1 : Fin 32) (n : BitVec 12) (s : State) : Out :=
  csrOp t rd rs1 n 0x2D (fun o => if rs1 = 0 then none else some (o ||| ((s.th t).g rs1).toNat % 2 ^ 32)) s
def execCsrrc (t : Fin 256) (rd rs1 : Fin 32) (n : BitVec 12) (s : State) : Out :=
  csrOp t rd rs1 n 0x2E (fun o => if rs1 = 0 then none else some (o &&& (2 ^ 32 - 1 - ((s.th t).g rs1).toNat % 2 ^ 32))) s

def execThreadRunSet (t : Fin 256) (s : State) : Out := s.onSv fun s => s.setRun t true
def execThreadRunClear (t : Fin 256) (s : State) : Out := s.onSv fun s => s.setRun t false

/-! Messages (R225, R227). -/

/-- MSEND (R225). While the Fence cannot accept its part, the thread sleeps (R479, R480). -/
def execMsend (t : Fin 256) (rs1 rs2 : Fin 32) (s : State) : Out :=
  onThread t (encR 0x34 0 rs1 rs2 0) false (fun s h =>
    let a := (h.g rs1).toNat
    let r := (h.g rs2).toNat
    let dest := bits r 0 4
    if a % 64 ≠ 0 then .trap cMISALIGN 0 a
    else if 0x20000 < a + 64 then .trap cACCESS 0 a
    else if dest ≠ 5 ∧ dest ≠ 6 ∧ (stopTeam dest).isNone then .trap cMSGDEST 0 (r % 2 ^ 32)
    else if s.dbad t a 64 then .trap cECC 0 a
    else
      let r := setBits (setBits (setBits r 32 4 (engineStop (engineOf t))) 36 3 (engineOf t % 8)) 39 2 (t.val % 4)
      let m : Msg := { route := r, body := (s.dread t a 64).drop 8 }
      let s2 := s.route t m
      .next (if dest = 6 ∧ (s2.fence.waiting.any fun p => p.sender == fenceSender t) = true then s2.setTh t { s2.th t with sleep := .msend m } else s2)) s

def execMrecv (t : Fin 256) (rd : Fin 32) (nb : Bool) (s : State) : Out :=
  onThread t (encI 0x35 rd 0 (b2n nb)) false (fun s h =>
    let e := engineOf t
    let g := s.en e
    match g.queue with
    | m :: q =>
      let s := s.setEn e { g with queue := q ++ g.mesh.take 1, mesh := g.mesh.drop 1 }
      .next (s.receive t rd m)
    | [] =>
      if nb then .next (wrG s t rd 0)
      else .next ((s.setTh t { h with sleep := .mrecv rd }).setEn e { g with waiters := g.waiters ++ [t.val] })) s

/-! DMA (R230, R231, R262 to R264). -/

/-- DMA: a team's mover takes up to 32 jobs; one more waits for a place (R262). -/
def execDma (t : Fin 256) (rd rs1 : Fin 32) (s : State) : Out :=
  let full := fun (s : State) => decide (32 ≤ (s.jobs.dma.filter fun j => j.thread / 32 = t.val / 32).length)
  startJob t rd rs1 0x38 32 full (fun s i b =>
    let j : DmaJob :=
      { id := s.jobs.nextId, thread := t, ticket := i, src := leAt b 0 8, dst := leAt b 8 8, len := leAt b 16 4, running := false }
    s.setJobs { s.jobs with dma := s.jobs.dma ++ [j], nextId := s.jobs.nextId + 1 }) s

/-- Size of a DMA space in bytes (Table 5-17), for the spaces of one range. -/
def spaceSize (sp : Nat) : Nat :=
  if sp = 0 then 0x20000 else if sp = 1 then 0x100000 else if sp = 2 then 0x1000000 else 0

/-- The received frame one of whose cells holds a PKT address, and the address's offset in the frame's cell chain (R382). -/
def State.pktFrame (s : State) (a : Nat) : Option (RxFrame × Nat) :=
  (s.port (a / 0x800000)).rx.findSome? fun r =>
    (r.cells.findIdx? (· == a % 0x800000 / 256)).map fun i => (r, 256 * i + a % 256)

/-- A frame's cell chain: intake message line, descriptor, and the frame's bytes. -/
def RxFrame.chain (r : RxFrame) : Bytes := padTo 64 r.intake ++ padTo 64 r.desc ++ r.data

/-- Do `n` bytes at `a` lie in space `sp`, or in one frame, or in one DRAM window (R230, R338, R382)? -/
def State.spaceOk (s : State) (sp a n : Nat) (write : Bool) : Bool :=
  if sp = 3 then (if write then s.dramWritable a n else s.dramReadable a n)
  else if sp = 4 then decide (a % 0x800000 < 0x700000) && decide (a < 0x1000000) && (match s.pktFrame a with
    | some (r, o) => decide (o + n ≤ r.chain.length)
    | none => false)
  else if sp = 5 then decide (a % 0x10000 + n ≤ 0x10000) && decide (a < 0x400000)
  else decide (a + n ≤ spaceSize sp)

/-- R230, R382: spaces, alignment, lengths, and staying within the space or the frame. -/
def State.dmaValid (s : State) (j : DmaJob) : Bool :=
  let ss := j.src / 2 ^ 60; let ds := j.dst / 2 ^ 60
  let sa := j.src % 2 ^ 40; let da := j.dst % 2 ^ 40
  decide (1 ≤ j.len) && decide (j.len ≤ 1048576) && decide (ss ≤ 4) && (decide (ds ≤ 3) || ds == 5) &&
    da % 64 == 0 && (ss == 4 || (sa % 64 == 0 && j.len % 64 == 0)) && s.spaceOk ss sa j.len false && s.spaceOk ds da j.len true

/-- The memory and base key of a DMA space for a job of engine `e`. -/
def spaceRead (s : State) (e sp a n : Nat) : Bytes :=
  if sp = 0 then memRead s.mem.dstore (e * 0x20000 + a) n
  else if sp = 1 then memRead s.mem.team (e / 8 * 0x100000 + a) n
  else if sp = 2 then memRead s.mem.vcache a n
  else if sp = 3 then s.dramRd a n
  else if sp = 4 then (match s.pktFrame a with
    | some (r, o) => slice r.chain o n
    | none => [])
  else []

def spaceWrite (s : State) (e sp a : Nat) (b : Bytes) : State :=
  let m := s.mem
  if sp = 0 then s.setMem { m with dstore := memWrite m.dstore (e * 0x20000 + a) b }
  else if sp = 1 then s.setMem { m with team := memWrite m.team (e / 8 * 0x100000 + a) b }
  else if sp = 2 then s.setMem { m with vcache := memWrite m.vcache a b }
  else if sp = 3 then s.dramWr a b
  else if sp = 5 then s.setMem { m with istore := memWrite m.istore a b }
  else s

/-- An operator handler in the handler area of engine `e` (R261), its words good. -/
def State.writeHandler (s : State) (e : Nat) (image : Bytes) : State :=
  let g := s.en e
  spaceWrite (s.setEn e { g with badInsn := g.badInsn.filter fun w => decide (w < 0xA000) || decide (0xE000 ≤ w) }) e 5 (e * 0x10000 + 0xA000) image

/-- A line for poison marks: its space, and its number there (local stores per engine, team SRAM per team, DRAM canonical). -/
def State.lineKey (s : State) (e sp a : Nat) : Nat × Nat :=
  (sp, if sp = 3 then s.dramLine a else (if sp = 0 then e * 0x20000 + a else if sp = 1 then e / 8 * 0x100000 + a else a) / 64)

/-- The address of line `i` of a range that starts at `a`: a frame's lines follow its cell chain (R382). -/
def State.lineAt (s : State) (sp a i : Nat) : Nat :=
  match if sp = 4 then s.pktFrame a else none with
  | some (r, o) =>
    let o := o / 64 * 64 + 64 * i
    a / 0x800000 * 0x800000 + ((r.cells[o / 256]?).getD 0) * 256 + o % 256
  | none => a / 64 * 64 + 64 * i

/-- The lines of a range, as space and address. -/
def State.linesOf (s : State) (sp a n : Nat) : List (Nat × Nat) := (List.range ((a % 64 + n + 63) / 64)).map fun i => (sp, s.lineAt sp a i)

/-- Is a line of engine `e`'s space poisoned, or a word of a local store's line uncorrectable? -/
def State.lineLost (s : State) (e : Nat) (l : Nat × Nat) : Bool :=
  s.mem.poison.contains (s.lineKey e l.1 l.2) || (l.1 == 0 && (s.en e).badData.any fun w => decide (w / 8 = l.2 / 64))

def poisonLines (s : State) (e sp a n : Nat) : List Nat :=
  ((s.linesOf sp a n).zipIdx.filter fun x => s.lineLost e x.1).map (·.2)

/-- What a consumer at `stop` finds as it decodes source lines of engine `e` (R25, R42, R336), `ce` and `ue` by their place in the list: a
DRAM line counts against its own channel, a local store's line in the engine; an uncorrectable line is poisoned where it lies and
reported. -/
def State.decodeLines (s : State) (stop e : Nat) (lines : List (Nat × Nat)) (ce ue : List Nat) : State :=
  let fixed := fun (s : State) (i : Nat) => match lines[i]? with
    | some l => if l.1 = 3 then s.countCe (s.dramPlace (64 * s.dramLine l.2)).ch 1 else if l.1 = 0 then s.setEn e (s.en e).countEcc else s
    | none => s
  let lost := fun (s : State) (i : Nat) => match lines[i]? with
    | some l =>
      if l.1 = 3 then s.countUe (64 * s.dramLine l.2) stop
      else
        let s := if s.lineLost e l then s
          else if l.1 = 0 then s.setEn e { s.en e with badData := (List.range 8).map (fun w => l.2 / 64 * 8 + w) ++ (s.en e).badData }
          else s.setMem { s.mem with poison := s.mem.poison ++ [s.lineKey e l.1 l.2] }
        s.linePoisoned stop l.2
    | none => s
  ue.foldl lost (ce.foldl fixed s)

/-- The bytes of a DMA that came from its bad source lines: pieces of [0, n), for a source that starts `r` bytes into its first line. -/
def badPieces (r n : Nat) (ls : List Nat) : List (Nat × Nat) :=
  (ls.map fun i => (64 * i - r, min n (64 * (i + 1) - r))).filter fun p => decide (p.1 < p.2)

/-- The units of `w` bytes that pieces at `a` touch. -/
def touched (w a : Nat) (ps : List (Nat × Nat)) : List Nat :=
  (ps.flatMap fun p => (List.range ((a + p.2 + w - 1) / w - (a + p.1) / w)).map fun i => (a + p.1) / w + i).eraseDups

/-- The units of `w` bytes that [a, a + n) covers whole. -/
def covered (w a n : Nat) : List Nat := (touched w a [(0, n)]).filter fun u => decide (a ≤ u * w) && decide (u * w + w ≤ a + n)

/-- Poison travels as carried between spaces (R231), a line of the destination taking it from any byte of a bad source line; into LOCAL or
IMEM it makes the words uncorrectable (R213). A line or word written in part keeps its mark. `r`: bytes of the source's first line before it
starts. -/
def State.carryPoison (s : State) (e ds da n r : Nat) (ls : List Nat) : State :=
  let ps := badPieces r n ls
  if ds = 0 then
    let g := s.en e
    s.setEn e { g with badData := (g.badData.filter fun w => !(covered 8 da n).contains w) ++ touched 8 da ps }
  else if ds = 5 then
    let x := da / 0x10000
    let a := da % 0x10000
    let g := s.en x
    s.setEn x { g with badInsn := (g.badInsn.filter fun w => !(covered 8 a n).contains w) ++ touched 8 a ps }
  else
    let keys := fun (l : List Nat) => l.map fun i => s.lineKey e ds (64 * i)
    s.setMem { s.mem with poison := (s.mem.poison.filter fun p => !(keys (covered 64 da n)).contains p) ++ keys (touched 64 da ps) }

/-- DMA_JOB_START (R262): the team's mover, with fewer than 8 jobs running, takes the next queued job round robin. A
job that breaks R230 ends with FAULT before any byte is written. -/
def dmaJobStart (m : Nat) (s : State) : State :=
  let mine := s.jobs.dma.filter fun j => j.thread / 32 = m
  if 8 ≤ (mine.filter (·.running)).length then s else
  let rr := mgetD s.jobs.rr m 0
  let engines := (List.range 8).map fun i => m * 8 + (rr + 1 + i) % 8
  match engines.findSome? fun e => mine.find? fun j => !j.running && j.thread / 4 = e with
  | none => s
  | some j =>
    let s := s.setJobs { s.jobs with rr := mset s.jobs.rr m (j.thread / 4 % 8) }
    if !s.dmaValid j then
      (s.setJobs { s.jobs with dma := s.jobs.dma.erase j }).jobDone j.thread j.ticket 3 0
    else s.setJobs { s.jobs with dma := s.jobs.dma.map fun x => if x.id = j.id then { x with running := true } else x }

/-- Do two jobs' destination ranges overlap in one space (R264)? -/
def overlaps (a b : DmaJob) : Bool :=
  a.dst / 2 ^ 60 == b.dst / 2 ^ 60 && decide (a.dst % 2 ^ 40 < b.dst % 2 ^ 40 + b.len) && decide (b.dst % 2 ^ 40 < a.dst % 2 ^ 40 + a.len)

/-- Have the DRAM controllers room for a write of `n` bytes at data address `a`: is each of its lines' queues open and not full
(R280, R343, R354)? -/
def State.dramTakes (s : State) (a n : Nat) : Bool :=
  match s.dramKeys a n with
  | some (_, ks) =>
    let chans := (ks.flatMap fun k => (List.range ((n + 63) / 64)).map fun i => ((s.dramPlace (k + 64 * i)).ch, s.isJournalKey k)).eraseDups
    chans.all fun c => s.chanOpen c.1 && (if c.2 then decide ((s.chan c.1).staging.length < 16384) else decide ((s.chan c.1).wq.length < 48))
  | none => true

/-- DMA_JOB_COMPLETE (R263): every line of the running job `id` is written; an earlier job of the same thread with an
overlapping destination finishes first, and DRAM lines wait until their controllers take them. A copy into the journal window is the
soft point of its records (R280). `ce`, `ue`: source lines found correctable and uncorrectable, where it decodes (R231) or reads a local
store (R32); `old`: what the read-modify-write of a last line written in part finds (R335). -/
def dmaJobComplete (id : Nat) (ce ue : List Nat) (old : Ecc) (s : State) : State :=
  match s.jobs.dma.find? fun j => j.id = id && j.running with
  | none => s
  | some j =>
    if s.jobs.dma.any fun x => x.id < j.id && x.thread = j.thread && overlaps x j then s else
    let e := engineOf j.thread
    let ss := j.src / 2 ^ 60; let ds := j.dst / 2 ^ 60
    let sa := j.src % 2 ^ 40; let da := j.dst % 2 ^ 40
    if ((ss == 3 || ds == 3) && !s.dramReady) || (ds == 3 && !s.dramTakes da j.len) then s else
    let decoded := ds == 0 || ds == 5 || ss == 0
    let s := if decoded then s.decodeLines (engineStop e) e (s.linesOf ss sa j.len) ce ue else s
    let bad := poisonLines s e ss sa j.len
    let told := if decoded then ue else []
    let b := spaceRead s e ss sa j.len
    let s := s.setJobs { s.jobs with dma := s.jobs.dma.erase j }
    let s := if ds = 3 then s.rmwEnds da j.len old else s
    let s := spaceWrite s e ds da b
    let s := s.carryPoison e ds da j.len (sa % 64) bad
    let s := if decoded && bad.any fun i => !told.contains i then s.linePoisoned (engineStop e) sa else s
    s.jobDone j.thread j.ticket (if decoded && !bad.isEmpty then 1 else 0) j.len

def execFemit (t : Fin 256) (rd rs1 : Fin 32) (s : State) : Out :=
  startJob t rd rs1 0x3B 64 (fun _ => false) (fun s i b =>
    s.setJobs { s.jobs with emits := s.jobs.emits ++ [{ id := s.jobs.nextId, thread := t, ticket := i, desc := b, counter := 0 }], nextId := s.jobs.nextId + 1 }) s

def execWait (t : Fin 256) (rd : Fin 32) (mask : Byte) (all : Bool) (s : State) : Out :=
  onThread t (encY rd 0 1 (mask.toNat + 256 * b2n all)) false (fun s h =>
    match waitDone h.tickets mask.toNat all with
    | some (w, is) => .next (s.setTh t { (h.setG rd (BitVec.ofNat 64 w)) with tickets := freeTickets h.tickets is })
    | none => .next (s.setTh t { h with sleep := .wait rd mask.toNat all })) s

/-! Nose instructions (Tables 5-19, 5-20). -/

/-- Queue a request at the team's port; the thread sleeps until its result (R234). -/
def State.noseAsk (s : State) (t rd : Nat) (op : NOp) : State :=
  let h := s.th t
  let s := s.setTh t { h with sleep := .nose rd }
  s.setNose { s.nose with reqs := s.nose.reqs ++ [{ thread := t, rd := rd, op := op, promoted := false }] }

/-- A Nose instruction with an operand block (R233), 32-byte aligned. rd 31 is excluded. -/
def noseBlk (t : Fin 256) (rd rs1 : Fin 32) (word : Nat) (k : State → Nat → Nat → Eff) (s : State) : Out :=
  onThread t word false (fun s h =>
    let a := (h.g rs1).toNat
    if rd.val = 31 then .trap cILLEGAL 0 word
    else if a % 32 ≠ 0 then .trap cMISALIGN 0 a
    else if dataPlace a 32 ≠ .data then .trap cACCESS 0 a
    else if s.dbad t a 32 then .trap cECC 0 a
    else let b := s.dread t a 32; k s (leAt b 0 20) (leAt b 24 8)) s

def execNsrch (t : Fin 256) (rd rs1 : Fin 32) (mask : Fin 8) (s : State) : Out :=
  noseBlk t rd rs1 (encN rd rs1 0 mask 0 0) (fun s w _ => .next (s.noseAsk t rd (.search (s.noseMask mask) w))) s
def execNnext (t : Fin 256) (rd rs1 : Fin 32) (mask : Fin 8) (s : State) : Out :=
  noseBlk t rd rs1 (encN rd rs1 0 mask 1 0) (fun s w _ => .next (s.noseAsk t rd (.next (s.noseMask mask) w))) s
def execNloc (t : Fin 256) (rd rs1 : Fin 32) (strict : Bool) (s : State) : Out :=
  noseBlk t rd rs1 (encN rd rs1 0 0 2 (b2n strict)) (fun s w _ => .next (s.noseAsk t rd (.locate (w / 16) strict))) s

/-- NPSRCH (R181, R196): it waits only for older operations of its thread. -/
def execNpsrch (t : Fin 256) (rd rs1 : Fin 32) (mask : Fin 8) (s : State) : Out :=
  noseBlk t rd rs1 (encN rd rs1 0 mask 3 0) (fun s w _ =>
    if s.noseOwes t then .next (s.noseAsk t rd (.psearch (s.noseMask mask) w))
    else .next ((s.setTh t { s.th t with sleep := .nose rd }).psearchStart t rd (s.noseMask mask) w)) s

def execNins (t : Fin 256) (rd rs1 : Fin 32) (s : State) : Out :=
  noseBlk t rd rs1 (encN rd rs1 0 0 4 0) (fun s w ad => .next (s.noseAsk t rd (.insert (w / 16) (w % 16) ad))) s

/-- A Nose instruction without an operand block. -/
def noseReg (t : Fin 256) (rd : Fin 32) (word : Nat) (bad : Bool) (k : State → Thread → Eff) (s : State) : Out :=
  onThread t word false (fun s h => if rd.val = 31 ∨ bad then .trap cILLEGAL 0 word else k s h) s

def execNdel (t : Fin 256) (rd : Fin 32) (s : State) : Out :=
  noseReg t rd (encN rd 0 0 0 5 0) false (fun s _ => .next (s.noseAsk t rd .delete)) s
def execNadw (t : Fin 256) (rd rs2 : Fin 32) (kind : BitVec 4) (s : State) : Out :=
  noseReg t rd (encN rd 0 rs2 0 6 kind.toNat) (decide (4 < kind.toNat))
    (fun s h => .next (s.noseAsk t rd (.adw (h.g rs2).toNat (if kind = 0 then none else some kind.toNat)))) s

/-- An operation that takes no slot: performed at once, or waiting at the team's port until the Nose performs operations and the thread's
older ones are done. -/
def State.noseZero (s : State) (t rd : Nat) (op : NOp) : State :=
  if s.noseOpen && !s.noseOwes t then s.zeroOp t rd op else s.noseAsk t rd op

/-- NKIND: its kinds are 1 to 4 (Table 5-19). -/
def execNkind (t : Fin 256) (rd : Fin 32) (kind : BitVec 4) (s : State) : Out :=
  noseReg t rd (encN rd 0 0 0 7 kind.toNat) (decide (kind.toNat = 0) || decide (4 < kind.toNat))
    (fun s _ => .next (s.noseZero t rd (.kindWrite kind.toNat))) s
def execNadr (t : Fin 256) (rd : Fin 32) (s : State) : Out :=
  noseReg t rd (encN rd 0 0 0 8 0) false (fun s _ => .next (s.noseZero t rd .adRead)) s

/-- NADOPT (R188): a hand-off cursor becomes the thread's; a freed one gives NO_ENTRY. -/
def execNadopt (t : Fin 256) (rd rs2 : Fin 32) (s : State) : Out :=
  noseReg t rd (encN rd 0 rs2 0 9 0) false (fun s h =>
    let v := (h.g rs2).toNat
    if 64 ≤ v then .trap cRANGE 0 (v % 2 ^ 32) else .next (s.noseZero t rd (.adopt v))) s

/-! Key and frame instructions (Table 5-21, R236). -/

/-- The window key: the first TEAM_KWLEN bytes of the key window. -/
def Thread.key (h : Thread) : Bytes := h.kwin.take (h.csr cKWLEN)

/-- R213 on the window bytes a key instruction reads. -/
def kwBad (s : State) (t n : Nat) : Bool := decide (0 < n) && s.dbad t 0x20000 n

/-- The bytes of a key or frame instruction at `a`: a length of 0 accesses nothing. -/
def Thread.keyAccess (h : Thread) (a n : Nat) : Bool := n == 0 || h.mayKey a n

/-- The address a key instruction reads first: its operand, or the window when it holds a key. -/
def Thread.readsKey (h : Thread) : Option Nat := if h.csr cKWLEN = 0 then none else some 0x20000

def execKload (t : Fin 256) (rs1 rs2 : Fin 32) (up : Upset) (s : State) : Out :=
  let reads := fun (h : Thread) => let a := (h.g rs1).toNat; let n := (h.g rs2).toNat
    if h.mayKey a n ∧ 1 ≤ n ∧ n ≤ 512 then some a else none
  onReads t (encX 0x3D 0 rs1 rs2 0 0) true up reads (fun s h =>
    let a := (h.g rs1).toNat; let n := (h.g rs2).toNat
    if !h.keyAccess a n then .trap cACCESS 0 a
    else if n = 0 ∨ 512 < n then .trap cRANGE 0 (n % 2 ^ 32)
    else if s.dbad t a n then .trap cECC 0 a
    else
      let b := s.dread t a n
      let bw := keepBad h.badWords 0x20000 n
      .next (s.setTh t ({ h with kwin := patch h.kwin 0 b, badWords := bw }.setCsr cKWLEN n))) s

def execKcmp (t : Fin 256) (rd rs1 rs2 : Fin 32) (up : Upset) (s : State) : Out :=
  let reads := fun (h : Thread) => let a := (h.g rs1).toNat; let n := (h.g rs2).toNat
    if !h.keyAccess a n ∨ 512 < n then none else if n = 0 then h.readsKey else some a
  onReads t (encX 0x3D rd rs1 rs2 0 1) true up reads (fun s h =>
    let a := (h.g rs1).toNat; let n := (h.g rs2).toNat
    if !h.keyAccess a n then .trap cACCESS 0 a
    else if 512 < n then .trap cRANGE 0 (n % 2 ^ 32)
    else if decide (0 < n) && s.dbad t a n then .trap cECC 0 a
    else if kwBad s t (h.csr cKWLEN) then .trap cECC 0 0x20000
    else
      let b := s.dread t a n
      let k := h.key
      .next (wrG s t rd (if k = b then 0 else if bytesLt b k then 1 else BitVec.allOnes 64))) s

def execKhash16 (t : Fin 256) (rd : Fin 32) (up : Upset) (s : State) : Out :=
  onReads t (encX 0x3D rd 0 0 0 2) true up Thread.readsKey (fun s h =>
    if kwBad s t (h.csr cKWLEN) then .trap cECC 0 0x20000 else .next (wrG s t rd (BitVec.ofNat 64 (tailHash h.key)))) s

def execKhash32 (t : Fin 256) (rd rs1 : Fin 32) (up : Upset) (s : State) : Out :=
  onReads t (encX 0x3D rd rs1 0 0 3) true up Thread.readsKey (fun s h =>
    if h.csr cKWLEN = 0 then .trap cRANGE 0 0
    else if kwBad s t (h.csr cKWLEN) then .trap cECC 0 0x20000
    else .next (wrG s t rd (BitVec.ofNat 64 (khash32 ((h.g rs1).toNat % 4096) h.key)))) s

def execKword (t : Fin 256) (rs1 rs2 : Fin 32) (up : Upset) (s : State) : Out :=
  let reads := fun (h : Thread) => let a := (h.g rs1).toNat; if a % 32 = 0 ∧ dataPlace a 32 = .data then h.readsKey else none
  onReads t (encX 0x3D 0 rs1 rs2 0 4) false up reads (fun s h =>
    let a := (h.g rs1).toNat; let v := (h.g rs2).toNat
    if a % 32 ≠ 0 then .trap cMISALIGN 0 a
    else if dataPlace a 32 ≠ .data then .trap cACCESS 0 a
    else if h.csr cKWLEN = 0 then .trap cRANGE 0 0
    else if kwBad s t (h.csr cKWLEN) then .trap cECC 0 0x20000
    else .next (s.dwrite t a (leBytes 20 (orderWord (v % 4096) h.key * 16 + bits v 12 4) ++ zeros 4))) s

def execFopr (t : Fin 256) (rd rs1 : Fin 32) (up : Upset) (s : State) : Out :=
  let word := encX 0x3E rd rs1 0 0 0
  let reads := fun (h : Thread) => let a := (h.g rs1).toNat; if rd.val ≠ 31 ∧ h.mayKey a 16 then some a else none
  onReads t word true up reads (fun s h =>
    let a := (h.g rs1).toNat
    if rd.val = 31 then illegal s t word h
    else if !h.mayKey a 16 then .trap cACCESS 0 a
    else if s.dbad t a 16 then .trap cECC 0 a
    else
      let b := s.dread t a 16
      let v := beAt b 0 1 * 2 ^ 56 + beAt b 1 1 * 2 ^ 48 + beAt b 2 1 * 2 ^ 40 + beAt b 3 3 * 2 ^ 16 + beAt b 6 2
      .next (wrG (wrG s t rd (BitVec.ofNat 64 v)) t (rd.val + 1) (BitVec.ofNat 64 (beAt b 8 8)))) s

def execFoph (t : Fin 256) (rs1 rs2 rs3 : Fin 32) (s : State) : Out :=
  onThread t (encX 0x3E 0 rs1 rs2 rs3 1) true (fun s h =>
    let a := (h.g rs1).toNat; let v := (h.g rs2).toNat
    if !h.mayKey a 16 then .trap cACCESS 0 a
    else .next (s.dwrite t a (beBytes 8 v ++ beBytes 8 (h.g rs3).toNat))) s

/-! System instructions (Table 5-22) and muzzled mode (R240 to R244). -/

/-- YIELD (R206): the other ready threads of the engine issue once before this one. -/
def execYield (t : Fin 256) (s : State) : Out :=
  onThread t (encY 0 0 0 0) true (fun s h =>
    let others := (List.range 4).map (fun i => engineOf t * 4 + i) |>.filter fun x => x ≠ t.val && (s.th x).ready
    .next (s.setTh t { h with yielded := others.map fun x => (x, (s.th x).issued) })) s

def execBrk (t : Fin 256) (code : Byte) (s : State) : Out :=
  onThread t (encY 0 0 2 code.toNat) false (fun _ h => .trap cBREAK code.toNat h.pc) s

def execEret (t : Fin 256) (s : State) : Out :=
  let word := encY 0 0 3 0
  onThread t word false (fun s h =>
    if !h.intrap then .trap cILLEGAL 0 word
    else .set (s.setTh t { h with intrap := false, pc := h.csr cEPC })) s

/-- The checks of R240 for a fresh trick. -/
def mzSetupOk (h : Thread) : Bool :=
  decide (h.csr cMZLO < h.csr cMZHI) && decide (h.csr cMZHI - h.csr cMZLO ≤ 2048) && decide (h.csr cMZLO ≤ h.csr cMZENTRY) &&
    decide (h.csr cMZENTRY < h.csr cMZHI) && decide (h.csr cMZWLO < h.csr cMZWHI) && decide (h.csr cMZWHI ≤ 0x20000) &&
    decide (1 ≤ h.csr cMZBUDGET) && decide (h.csr cMZBUDGET ≤ 200000) && h.mzLoops.isEmpty

def mzEnter (s : State) (t : Nat) (h : Thread) (resume : Bool) : Eff :=
  let ok := if resume then h.csr cMZCAUSE % 256 == mCALL else mzSetupOk h
  if !ok then .next (s.setTh t ((h.setCsr cMZCAUSE mSETUP).setCsr cMZTVAL 0))
  else
    let h1 := h.advance
    let h2 := { h1 with mzRet := h1.pc, muzzled := true }
    if resume then .set (s.setTh t { h2 with pc := h2.csr cMZEPC })
    else .set (s.setTh t { (h2.setCsr cMZLEFT (h2.csr cMZBUDGET)) with regs := Vector.replicate 32 0, mzLoops := [], pc := h2.csr cMZENTRY })

def execMzenter (t : Fin 256) (resume : Bool) (s : State) : Out :=
  onThread t (encY 0 0 4 (b2n resume)) false (fun s h => mzEnter s t h resume) s

def execMzexit (t : Fin 256) (rs1 : Fin 32) (s : State) : Out :=
  let word := encY 0 rs1 5 0
  onThread t word true (fun s h =>
    if !h.muzzled then .trap cILLEGAL 0 word
    else .set (s.mzLeave t mEXIT 0 h.pc ((h.g rs1).toNat % 2 ^ 32))) s

/-- Core cycles in a FAB cycle. -/
def coreCycles : Nat := 2

/-- MZ_BUDGET (R243): the budget of a muzzled thread runs out in this FAB cycle; with more core cycles left nothing happens. -/
def mzBudget (t : Nat) (s : State) : State :=
  let h := s.th t
  if h.muzzled && decide (h.csr cMZLEFT ≤ coreCycles) then s.setTh t (h.mzSpend coreCycles) else s
def execMzBudget (t : Fin 256) (s : State) : Out := s.onSv (mzBudget t)

/-- MZCALL (Table 5-24): leaves with MZ_CALL; EPC is the instruction after it, loop ends evaluated. -/
def mzCall (s : State) (t n : Nat) : State :=
  let h := (s.th t).advance
  (s.setTh t h).mzLeave t mCALL n h.pc 0

end Sys2Proof.Machine
end

