-- ==== Sys2Proof/Machine/FlashMap.lean ====
section
/-! DEFINITION. Where flash data lies: geometry (R292, R296, R297), absent LUNs (R295), the layout of a run (R307). -/
namespace Sys2Proof.Machine

/-! Geometry (R292, R296, R297). -/
def State.flP (s : State) : Nat := 2 ^ s.fld 0x10400008 1 0
def State.flK (s : State) : Nat := s.fld 0x10400008 4 2 + 3
def State.flPages (s : State) (slc : Bool) : Nat := if slc then s.fld 0x1040000C 28 16 else s.fld 0x10400008 17 5
def State.flGroups (s : State) : Nat := s.fld 0x1040000C 3 0 + 1
def State.flSegs (s : State) : Nat := s.flGroups * (s.fld 0x10400008 31 18 + 1)
/-- Codewords of one page-set: the pages of every plane on one LUN. -/
def State.pageSet (s : State) : Nat := s.flP * s.flK
/-- Data codewords of a segment, D of R297. -/
def State.segCws (s : State) (slc : Bool) : Nat := 15 * s.flPages slc * s.pageSet

/-- Data page-sets of an SLC segment. -/
def State.slcSets (s : State) : Nat := 15 * s.flPages true

/-- Stripe and channel of data codeword `c`. -/
def State.cwStripe (s : State) (c : Nat) : Nat := c / max (15 * s.pageSet) 1
def State.cwChannel (s : State) (c : Nat) : Nat :=
  let st := s.cwStripe c
  (st + 1 + c % max (15 * s.pageSet) 1 / max s.pageSet 1) % 16
/-- A LUN by channel × 16 + its number on the channel, which is the segment's die group (R292). -/
def State.segLun (s : State) (seg ch : Nat) : Nat := ch * 16 + seg % s.flGroups
/-- LUNs a chip enable of a channel has, and the chip enables CE_EN turns on. -/
def State.chLuns (s : State) (ch : Nat) : Nat := s.fld (0x10400100 + 16 * ch) 7 6 + 1
def State.chCes (s : State) (ch : Nat) : List Nat := (List.range 8).filter fun ce => bit (s.fld (0x10400100 + 16 * ch) 15 8) ce
/-- Bit of FLC_CH_PRESENT for the `g`-th LUN of a channel, counted chip enable first (R292). -/
def State.presentBit (s : State) (ch g : Nat) : Nat :=
  let l := s.chLuns ch
  match (s.chCes ch)[g / l]? with
  | some ce => 4 * ce + g % l
  | none => 32
/-- The number on its channel of the LUN behind a bit of FLC_CH_PRESENT. -/
def State.lunOfBit (s : State) (ch b : Nat) : Nat :=
  ((s.chCes ch).filter fun ce => decide (ce < b / 4)).length * s.chLuns ch + b % 4
def State.lunPresent (s : State) (lun : Nat) : Bool := s.flag (0x10400104 + 16 * (lun / 16)) (s.presentBit (lun / 16) (lun % 16))

/-- Channels on which die group `g` has lost its LUN (R295). -/
def State.lostChans (s : State) (g : Nat) : List Nat :=
  if s.st.lostGroups.contains g then (List.range 16).filter fun ch => !s.lunPresent (ch * 16 + g) else []

/-- A die group with two absent LUNs has lost its data (R295). -/
def State.groupGone (s : State) (g : Nat) : Bool := decide (2 ≤ (s.lostChans g).length)
/-- Does the segment lie in such a group? -/
def State.segGone (s : State) (n : Nat) : Bool := s.groupGone (n % s.flGroups)

/-! The layout of a run (R307). -/

def entBytes (e : RunEnt) : Nat :=
  let n := if 24 + e.key.length + e.value.length ≤ 4080 then 24 + e.key.length + e.value.length else 32 + e.key.length
  (n + 15) / 16 * 16
def extentCws (e : RunEnt) : Nat := if 24 + e.key.length + e.value.length ≤ 4080 then 0 else (e.value.length + 4095) / 4096

/-- Codeword and offset of each entry in data blocks of 4,096 bytes with a 16-byte header. -/
def layoutEnts : List RunEnt → Nat → Nat → List (Nat × Nat)
  | [], _, _ => []
  | e :: t, c, o =>
    let n := entBytes e
    if 4096 < o + n then (c + 1, 16) :: layoutEnts t (c + 1) (16 + n) else (c, o) :: layoutEnts t c (o + n)

/-- Data blocks of a run. -/
def runBlocks (ents : List RunEnt) : Nat := match (layoutEnts ents 0 16).getLast? with
  | some (c, _) => c + 1
  | none => 0

/-- Index blocks of a run: 127 records each. -/
def runIndexBlocks (ents : List RunEnt) : Nat := (runBlocks ents + 126) / 127

/-- Codewords of a run: data blocks, extents, index blocks, footer. -/
def runCws (ents : List RunEnt) : Nat := runBlocks ents + (ents.map extentCws).sum + runIndexBlocks ents + 1

/-- First codeword of each entry's extent, counted in the run from `c` on. -/
def extentStarts : List RunEnt → Nat → List Nat
  | [], _ => []
  | e :: t, c => c :: extentStarts t (c + extentCws e)

/-- The segments that hold entry `k` of a run, its extent with it. -/
def State.entSegs (s : State) (r : Run) (k : Nat) : List Nat :=
  let per := max (s.segCws false - 2) 1
  let c := ((layoutEnts r.ents 0 16)[k]?).getD (0, 0)
  let x := ((extentStarts r.ents (runBlocks r.ents))[k]?).getD 0
  let n := ((r.ents[k]?).map extentCws).getD 0
  ((c.1 :: (List.range n).map fun i => x + i).map fun c => (r.segs[c / per]?).getD 0).eraseDups

/-- Has flash lost entry `k` of the run (R295)? -/
def State.entGone (s : State) (r : Run) (k : Nat) : Bool :=
  !s.st.lostGroups.isEmpty && (s.entSegs r k).any s.segGone

/-- Is a run's entry of its namespace's present life (R53, log entry 83)? -/
def State.ofLife (s : State) (r : Run) (e : RunEnt) : Bool := decide (mgetD s.st.born e.ns 0 ≤ r.no)

/-- The entries of a run that stand and can still be read. -/
def State.runEnts (s : State) (r : Run) : List RunEnt := (r.ents.zipIdx.filter fun e => s.ofLife r e.1 && !s.entGone r e.2).map (·.1)

/-- Has flash lost a version that only a run holds? -/
def State.verGone (s : State) (ns : Nat) (key : Bytes) (version : Nat) : Bool :=
  !s.st.lostGroups.isEmpty && s.st.runs.any fun r => r.ents.zipIdx.any fun e =>
    e.1.ns == ns && e.1.key == key && e.1.version == version && s.ofLife r e.1 && s.entGone r e.2

end Sys2Proof.Machine
end

