-- ==== Sys2Proof/Machine/Keyspace.lean ====
section
/-! DEFINITION. The keyspace (chapter 02) and the journal (R279 to R290): versions, horizons, snapshots, visibility,
quotas, rates, journal space, leases, the DRAM index, mirrors. -/
namespace Sys2Proof.Machine

/-! The pack link: sending (R197, R198). -/

def rPckStatus : Nat := 0x10800004
def State.ringUp (s : State) : Bool := s.flag rPckStatus 5
def State.memberPresent (s : State) (p : Nat) : Bool := bit (s.fld rPckStatus 23 16) p

/-- Step 6 of Table 4-22 is reached: the ring runs, trained where TRAIN_EN asks for it, so forwarding, version requests and Pack searches
have begun. -/
def State.packUp (s : State) : Bool := s.ringUp && (!s.flag 0x10800000 1 || s.flag rPckStatus 6)
/-- A member that operations are sent to. -/
def State.memberUp (s : State) (p : Nat) : Bool := s.packUp && s.memberPresent p

/-! The flits of a link frame (R195, R197, Table 4-20). -/

/-- The payload flits of some bytes. -/
def payloadFlits : Nat → Bytes → List Bytes
  | 0, _ => []
  | n + 1, b => ([0x02] ++ padTo 15 (b.take 15)) :: payloadFlits n (b.drop 15)

/-- The CRC over the content bytes of header and payload flits, all ones where the frame is marked bad (R198). -/
def flitsCrc (l : List Bytes) : Nat := crc32c (l.flatMap (·.drop 1))

def LFrame.flits (f : LFrame) : Bytes :=
  let head := [0x01] ++ leBytes 1 f.typ ++ leBytes 1 (b2n f.resp + 2 * b2n f.bcast) ++ leBytes 1 (f.dst % 8 + f.src % 8 * 16) ++
    leBytes 2 f.data.length ++ leBytes 4 f.tag ++ leBytes 4 f.arg ++ zeros 2
  let l := head :: payloadFlits ((f.data.length + 14) / 15) f.data
  let crc := flitsCrc l
  l.flatten ++ [0x03] ++ leBytes 4 (if f.crcBad then 0xFFFFFFFF - crc else crc) ++ zeros 11

/-- Flits of 16 bytes. -/
def flitsOf : Nat → Bytes → List Bytes
  | 0, _ => []
  | n + 1, b => if b.isEmpty then [] else b.take 16 :: flitsOf n (b.drop 16)

/-- The frame that received flits make up. Flits that are not a header, its payload and a trailer with the right CRC make a bad one. -/
def frameOf (b : Bytes) : LFrame :=
  let l := flitsOf (b.length / 16) b
  let head := l.headD []
  let len := leAt head 4 2
  let n := (len + 14) / 15
  let mid := (l.drop 1).take n
  let tail := (l[n + 1]?).getD []
  let shape := l.length == n + 2 && b.length == 16 * (n + 2) && byteAt head 0 == 0x01 && mid.all (fun x => byteAt x 0 == 0x02) && byteAt tail 0 == 0x03
  { typ := byteAt head 1, resp := bit (byteAt head 2) 0, bcast := bit (byteAt head 2) 1, dst := byteAt head 3 % 8, src := byteAt head 3 / 16 % 8,
    tag := leAt head 6 4, arg := leAt head 10 4, data := (mid.flatMap (·.drop 1)).take len,
    crcBad := !(shape && leAt tail 1 4 == flitsCrc (head :: mid)) }

def LinkIn.f (i : LinkIn) : LFrame := frameOf i.flits

/-- A frame leaves while the transmitters run. -/
def State.linkSend (s : State) (f : LFrame) : State :=
  if s.flag 0x10800000 0 then (s.setPack { s.pack with out := f :: s.pack.out }).bump 0x10800100 else s

/-- A request: it is kept until its one response arrives. -/
def State.linkReq (s : State) (typ dst arg : Nat) (data : Bytes) (owner : Option Nat) : State :=
  let p := s.pack
  let f : LFrame := { typ := typ, resp := false, bcast := false, dst := dst, src := s.packPos, tag := p.nextTag, arg := arg, data := data, crcBad := false }
  (s.setPack { p with reqs := p.reqs ++ [{ f := f, tries := 0, owner := owner }], nextTag := (p.nextTag + 1) % 2 ^ 32 }).linkSend f

def State.linkResp (s : State) (q : LFrame) (typ arg : Nat) (data : Bytes) : State :=
  let r : LFrame := { typ := typ, resp := true, bcast := false, dst := q.src, src := s.packPos, tag := q.tag, arg := arg, data := data, crcBad := false }
  let mine := s.pack.kept.filter fun (k : Nat × Nat × LFrame) => k.1 = q.src
  let rest := s.pack.kept.filter fun (k : Nat × Nat × LFrame) => k.1 != q.src
  (s.setPack { s.pack with kept := (q.src, q.tag, r) :: mine.take 1023 ++ rest }).linkSend r

/-- A broadcast of this member. -/
def State.linkCast (s : State) (typ arg : Nat) (data : Bytes) : State :=
  s.linkSend { typ := typ, resp := false, bcast := true, dst := 0, src := s.packPos, tag := 0, arg := arg, data := data, crcBad := false }

/-- This device is a Pack member whose counters are at position 0 (R88). -/
def State.underLead (s : State) : Bool := decide (2 ≤ packN s.cfg.active) && s.packPos != 0
/-- This device keeps the counters of a Pack. -/
def State.leadsPack (s : State) : Bool := decide (2 ≤ packN s.cfg.active) && s.packPos == 0

/-- SNAP_NOTE (R202): 0 open, 1 release. -/
def State.snapNote (s : State) (ns v arg : Nat) : State :=
  if s.leadsPack && s.ringUp then s.linkCast 0x09 arg (leBytes 2 ns ++ zeros 6 ++ leBytes 8 v) else s


/-! Status codes (Table 3-9). -/
def stOK : Nat := 0x00
def stNOTFOUND : Nat := 0x01
def stEXISTS : Nat := 0x02
def stVERSION : Nat := 0x03
def stTOOLARGE : Nat := 0x04
def stNOSPACE : Nat := 0x05
def stBUSY : Nat := 0x06
def stREDIRECT : Nat := 0x07
def stREADONLY : Nat := 0x08
def stDENIED : Nat := 0x09
def stMALFORMED : Nat := 0x0A
def stREKEYREQ : Nat := 0x0B
def stEXHAUSTED : Nat := 0x0C
def stTRICKFAULT : Nat := 0x0D
def stMUZZLED : Nat := 0x0E
def stSTALE : Nat := 0x0F
def stRETRY : Nat := 0x10
def stREVOKED : Nat := 0x11
def stINTERNAL : Nat := 0x1F

/-! Keys. -/

def State.findKey (s : State) (ns : Nat) (k : Bytes) : Option KeyRec := s.ks.keys.find? fun r => r.ns = ns && r.key = k

def blankKey (ns : Nat) (k : Bytes) : KeyRec := { ns := ns, key := k, vers := [], pend := none, nose := none, bypass := false }

/-- Replace a key's record, or add it. -/
def State.putKey (s : State) (r : KeyRec) : State :=
  let same := fun (x : KeyRec) => x.ns = r.ns && x.key = r.key
  if s.ks.keys.any same then s.setKs { s.ks with keys := s.ks.keys.map fun x => if same x then r else x }
  else s.setKs { s.ks with keys := s.ks.keys ++ [r] }

def liveVer (r : KeyRec) : Option Ver :=
  match r.vers with
  | v :: _ => if v.tomb then none else some v
  | [] => none

/-- The live value of a key. -/
def State.liveOf (s : State) (ns : Nat) (k : Bytes) : Option Ver := (s.findKey ns k).bind liveVer

/-- The version a key holds, a tombstone's included; 0 where it has none. -/
def heldVersion (r : KeyRec) : Nat := match r.vers with
  | v :: _ => v.version
  | [] => 0

/-- Does an operation on the key have to wait (R58)? -/
def State.isPending (s : State) (ns : Nat) (k : Bytes) : Bool := match s.findKey ns k with
  | some r => r.pend.isSome
  | none => false

/-! Namespaces: versions, leases, horizons (R53 to R56, R65, R290). -/

def NsState.fresh : NsState :=
  { counter := 0, unsettled := [], lease := 0, leaseNext := none, granted := [], applied := 0, skip := none,
    unsent := [], owed := [], seen := 0 }
def State.nsOf (s : State) (ns : Nat) : NsState := mgetD s.ks.ns ns NsState.fresh
def State.setNs (s : State) (ns : Nat) (n : NsState) : State := s.setKs { s.ks with ns := mset s.ks.ns ns n }

def lowest : List Nat → Option Nat
  | [] => none
  | x :: t => match lowest t with
    | none => some x
    | some y => some (min x y)

/-- The horizon (R65): below the lowest version taken, or granted to a member, and not settled. -/
def NsState.horizon (n : NsState) : Nat :=
  match lowest (n.unsettled ++ n.granted.map (·.2)) with
  | some v => v - 1
  | none => n.counter

/-- The last version of a namespace. -/
def lastVersion : Nat := 2 ^ 64 - 1

/-- May a version be taken now (R55, R290)? -/
def NsState.canTake (n : NsState) : Bool :=
  decide (n.counter < lastVersion) && (decide (n.counter + 1 < n.lease) || n.lease == lastVersion)

/-! The journal. -/

def rJrnHead : Nat := 0x10005000
def rJrnTail : Nat := 0x10005008
def rJrnSaved : Nat := 0x10005010
def rStState : Nat := 0x1000501C

def recLines (k v : Nat) : Nat := (36 + k + v + 63) / 64
def JRec.lines (r : JRec) : Nat := if r.typ = 4 then (36 + r.value.length + 63) / 64 else recLines r.key.length r.value.length

def State.storageRec (s : State) (o n : Nat) : Nat := leAt (s.cfg.active.get secStorage 0) o n
/-- Lines of the journal ring. -/
def State.ringLines (s : State) : Nat := s.storageRec 0 2 * 16384
def State.limitLines (s : State) : Nat := s.fld 0x10005018 9 0 * 16384

def sumLines (l : List JRec) : Nat := (l.map JRec.lines).sum
/-- Occupied lines: from HEAD to TAIL (R284). -/
def State.occupied (s : State) : Nat := sumLines (s.st.jrn.filter fun r => decide (s.c64 rJrnHead ≤ r.jsn))
/-- Unsaved lines (R283). -/
def isUnsaved (head saved : Nat) (r : JRec) : Bool := decide (head ≤ r.jsn) && decide (saved < r.jsn)
def State.unsaved (s : State) : Nat := sumLines (s.st.jrn.filter (isUnsaved (s.c64 rJrnHead) (s.c64 rJrnSaved)))

/-- PAD lines a record of `n` lines needs first, since no record wraps past the ring's end (R282). -/
def State.padLines (s : State) (n : Nat) : Nat :=
  if s.ringLines < s.st.nextLine % max s.ringLines 1 + n then s.ringLines - s.st.nextLine % max s.ringLines 1 else 0

/-- Lines reserved for writes of trick services that wait for a version granted over the link (R74, R88). -/
def State.heldLines (s : State) : Nat := (s.tricks.invokes.map fun e => if e.2.grant.isSome then e.2.lines else 0).sum

/-- A reservation of `n` lines meets the three limits of R284, beside those already made. -/
def State.reserveOk (s : State) (n : Nat) : Bool :=
  let n := n + s.heldLines
  let m := n + s.padLines n
  decide (s.occupied + m ≤ s.ringLines) && decide (s.unsaved + m ≤ s.limitLines) && decide (s.unsaved + m ≤ s.st.braceErased)

def padRec (lines : Nat) : JRec :=
  { jsn := 0, typ := 4, ns := 0, key := [], version := 0, value := zeros (64 * lines - 36), cls := 0, bypass := false,
    applied := false, line := 0, complete := true }

/-- The bytes of a record as they stand in the journal (R281, Table 7-1). -/
def JRec.bytes (r : JRec) : Bytes :=
  let head := leBytes 8 r.jsn ++ leBytes 8 r.version ++ leBytes 4 r.value.length ++ leBytes 2 (r.ns % 4096) ++ leBytes 2 r.key.length ++
    leBytes 1 r.typ ++ leBytes 1 (r.cls % 4 + 4 * b2n r.bypass + 8 * b2n r.applied) ++ zeros 2
  padTo (64 * r.lines) (head ++ leBytes 4 (crc32c head) ++ r.key ++ r.value ++ leBytes 4 (crc32c (r.key ++ r.value)))

/-- A record's lines are written through the journal window into both mirrors (R280, R342). -/
def State.jrnStore (s : State) (r : JRec) : State :=
  let a := 0x8000000000 + 64 * r.line
  if !s.dramWritable a (64 * r.lines) then s
  else
    let s := s.dramWr a r.bytes
    let keys := [s.jrnChA, s.jrnChB].flatMap fun c => (List.range r.lines).map fun i => (3, localKey c (64 * (r.line + i)) / 64)
    s.setMem { s.mem with poison := s.mem.poison.filter fun p => !keys.contains p }

/-- A journal line is uncorrectable in the mirror of channel `ch`. -/
def State.lineBad (s : State) (ch line : Nat) : Bool := s.mem.poison.contains (3, localKey ch (64 * line) / 64)

/-- The lines of a record that mirror A no longer holds, and whether mirror B does (R286). -/
def State.recDamage (s : State) (r : JRec) : List Bool :=
  (((List.range r.lines).map fun i => r.line + i).filter (s.lineBad s.jrnChA)).map fun l => !s.lineBad s.jrnChB l

/-- The lines that mirror A has lost of the record a version stands in: none once a run holds it. -/
def State.jrnDamage (s : State) (v : Ver) : List Bool :=
  if v.inRun then [] else match s.st.jrn.find? fun r => r.jsn = v.jsn with
    | some r => s.recDamage r
    | none => []

/-- What reading a version meets: nothing where the value cache has it, as the key's Nose entry says. A version that the journal or flash
has lost for good counts as lost in both mirrors (R286, R295). -/
def State.verDamage (s : State) (r : KeyRec) (v : Ver) : List Bool :=
  let cached := (r.vers.head?.map fun w => w.version == v.version).getD false && match r.nose.bind fun a => mget s.nose.ents a with
    | some e => bit e.ad 60
    | none => false
  if v.lost || (v.inRun && s.verGone r.ns r.key v.version) then [false] else if cached then [] else s.jrnDamage v

/-- What reading a key's newest version meets. -/
def State.valueDamage (s : State) (ns : Nat) (key : Bytes) : List Bool :=
  match s.findKey ns key with
  | some r => match r.vers with
    | v :: _ => s.verDamage r v
    | [] => []
  | none => []

/-- A reader of a record: each line taken from mirror B is counted; is a line lost in both (R286)? -/
def State.readJrn (s : State) (d : List Bool) : Bool × State :=
  (d.contains false, if d.contains true then s.bump 0x10005040 (d.filter id).length else s)

/-- Append one record at TAIL; the bytes of one that is complete at once are written. -/
def State.jrnPush (s : State) (r : JRec) : State :=
  let j := s.c64 rJrnTail
  let r := { r with jsn := j, line := s.st.nextLine }
  let s := (s.setSt { s.st with jrn := s.st.jrn ++ [r], nextLine := (s.st.nextLine + r.lines) % max s.ringLines 1, stopFresh := false }).setC64 rJrnTail (j + 1)
  if r.complete then s.jrnStore r else s

/-- Reserve and append a record, a PAD record first where it would wrap; its JSN. -/
def State.jrnAdd (s : State) (r : JRec) : Nat × State :=
  let p := s.padLines r.lines
  let s := if p = 0 then s else s.jrnPush (padRec p)
  (s.c64 rJrnTail, s.jrnPush r)

def mkRec (typ ns : Nat) (key : Bytes) (version : Nat) (value : Bytes) (cls : Nat) (bypass applied complete : Bool) : JRec :=
  { jsn := 0, typ := typ, ns := ns, key := key, version := version, value := value, cls := cls, bypass := bypass,
    applied := applied, line := 0, complete := complete }

/-- A record joins the hard log: class 1, LEASE and STOP records (R287). -/
def State.hardAdd (s : State) (r : JRec) : State :=
  s.setSt { s.st with hard := s.st.hard ++ [{ r := r, programmed := false }] }

/-- Every byte of a record is in both mirrors: it is complete, and a hard one joins the hard log. -/
def State.jrnComplete (s : State) (jsn : Nat) : State :=
  let s := s.setSt { s.st with jrn := s.st.jrn.map fun r => if r.jsn = jsn then { r with complete := true } else r }
  match s.st.jrn.find? fun r => r.jsn = jsn with
  | some r =>
    let s := s.jrnStore r
    if r.cls = 1 ∧ (r.typ = 1 ∨ r.typ = 2) then s.hardAdd r else s
  | none => s

/-- Turn a record into a PAD record of the same size (R282, R597). -/
def State.jrnPad (s : State) (jsn : Nat) : State :=
  let s := s.setSt { s.st with jrn := s.st.jrn.map fun r => if r.jsn = jsn then { padRec r.lines with jsn := r.jsn, line := r.line } else r }
  match s.st.jrn.find? fun r => r.jsn = jsn with
  | some r => s.jrnStore r
  | none => s

/-- R290: near its end the lease is raised by a LEASE record in the hard log. -/
def State.leaseDue (s : State) (ns : Nat) : State :=
  let n := s.nsOf ns
  if s.underLead = false ∧ n.leaseNext.isNone ∧ n.lease ≠ lastVersion ∧ n.lease ≤ n.counter + 2 ^ 23 then
    let e := min (n.lease + 2 ^ 24) lastVersion
    (s.setNs ns { n with leaseNext := some e }).hardAdd (mkRec 6 ns [] e [] 0 false false true)
  else s

/-- Every LEASE record that is programmed takes effect. -/
def State.leaseProgrammed (s : State) (ns e : Nat) : State :=
  let n := s.nsOf ns
  s.setNs ns { n with lease := max n.lease e, leaseNext := if n.leaseNext = some e then none else n.leaseNext }

/-- A version taken here is unsettled (R65), and its forward is owed in its turn (R83). -/
def NsState.take (n : NsState) (v : Nat) : NsState := { n with unsettled := n.unsettled ++ [v], unsent := n.unsent ++ [v] }

/-- A write takes the next version (R53). -/
def State.takeVersion (s : State) (ns : Nat) : Nat × State :=
  let n := s.nsOf ns
  let v := n.counter + 1
  (v, (s.setNs ns ({ n with counter := v }.take v)).leaseDue ns)

/-! Mirrors (R83, R84). -/

/-- A write or a burnt version is owed to a follower: kind 0 value, 1 tombstone, 2 burnt, 3 skip. -/
def addBacklog (m : Mirror) (v kind : Nat) (k val : Bytes) : Mirror := { m with backlog := m.backlog ++ [(v, kind, k, val)] }

def backlogBytes (m : Mirror) : Nat := (m.backlog.map fun b => 16 + b.2.2.1.length + b.2.2.2.length).sum

/-- A follower is detached until a commit attaches it again (R84). -/
def State.noteDetached (s : State) (m : Mirror) : State := s.setSt { s.st with detached := (m.ns, m.follower) :: s.st.detached }

/-- One follower of the namespace (R83, R84): the write joins its backlog and goes out, or would overflow it and
detaches the follower with MIRROR_DETACHED. -/
def State.mirrorOne (s : State) (v kind : Nat) (k val : Bytes) (m : Mirror) : State :=
  let same := fun (x : Mirror) => x.ns = m.ns && x.follower = m.follower
  let put := fun (y : Mirror) (s : State) => s.setKs { s.ks with mirrors := s.ks.mirrors.map fun x => if same x then y else x }
  let m2 := addBacklog m v kind k val
  if Config.mirrorBacklog < backlogBytes m2 then
    ((put { m with attached := false, backlog := [] } s).noteDetached m).svEvent 0x0403 8 (leBytes 2 m.ns ++ leBytes 2 m.follower ++ zeros 12)
  else
    let op : OpReq := { opcode := 0x31, flags := kind * 4, ns := m.ns, key := k, val := val, arg := v }
    let s := put m2 s
    s.setKs { s.ks with outReqs := (m.follower, op) :: s.ks.outReqs }

def State.mirrorAll (s : State) (ns v kind : Nat) (k val : Bytes) : State :=
  (s.ks.mirrors.filter fun m => m.ns = ns && m.attached).foldl (fun s m => s.mirrorOne v kind k val m) s

/-- Followers still attached to the namespace. -/
def State.attachedTo (s : State) (ns : Nat) : Bool := s.ks.mirrors.any fun m => m.ns = ns && m.attached

/-- A forward joins those owed, by rising version. -/
def insOwed (x : Nat × Nat × Bytes × Bytes) : List (Nat × Nat × Bytes × Bytes) → List (Nat × Nat × Bytes × Bytes)
  | [] => [x]
  | y :: t => if x.1 < y.1 then x :: y :: t else y :: insOwed x t

/-- The forwards whose turn has come go out: every lower version taken here has gone before them (R83). -/
def State.sendOwed (s : State) (ns : Nat) : State :=
  let n := s.nsOf ns
  let due := fun (w : Nat × Nat × Bytes × Bytes) => n.unsent.all fun v => decide (w.1 < v)
  let s := s.setNs ns { n with owed := n.owed.filter fun w => !due w }
  (n.owed.filter due).foldl (fun s w => s.mirrorAll ns w.1 w.2.1 w.2.2.1 w.2.2.2) s

/-- After an unclean start a skip notice with the resumed counter goes before the first forward (R83). -/
def State.sendSkip (s : State) (ns : Nat) : State :=
  let n := s.nsOf ns
  match n.skip with
  | some c => if s.attachedTo ns then (s.setNs ns { n with skip := none }).mirrorAll ns c 3 [] [] else s
  | none => s

/-- A write that is visible or superseded, or a burnt version, goes to the followers in version order (R83). -/
def State.forward (s : State) (ns v kind : Nat) (k val : Bytes) : State :=
  let n := s.nsOf ns
  ((s.setNs ns { n with unsent := n.unsent.erase v, owed := insOwed (v, kind, k, val) n.owed }).sendSkip ns).sendOwed ns

/-! Snapshots (R66 to R69, R313). -/

def snapNeeds (vs : List Nat) (old newer : Nat) : Bool := vs.any fun v => decide (old ≤ v) && decide (v < newer)

/-- The newest version, and older ones that some snapshot needs or that one opened at a horizon from `h` up could (R66, Table 2-4). -/
def pruneFrom (h : Nat) (vs : List Nat) (newer : Nat) : List Ver → List Ver
  | [] => []
  | v :: t => if h < newer ∨ snapNeeds vs v.version newer = true then v :: pruneFrom h vs v.version t else pruneFrom h vs newer t

def pruneVers (h : Nat) (vs : List Nat) : List Ver → List Ver
  | [] => []
  | v :: t => v :: pruneFrom h vs v.version t

def State.snapVs (s : State) (ns : Nat) : List Nat := (s.ks.snaps.filter fun x => x.ns = ns).map (·.v)

/-- The horizon of a namespace as this device knows it: a member that does not keep the counters knows what position 0 has told. -/
def State.knownHorizon (s : State) (ns : Nat) : Nat := if s.underLead then (s.nsOf ns).seen else (s.nsOf ns).horizon

def State.pruneKeys (s : State) (ns : Nat) : State :=
  let vs := s.snapVs ns
  let h := s.knownHorizon ns
  s.setKs { s.ks with keys := s.ks.keys.map fun r => if r.ns = ns then { r with vers := pruneVers h vs r.vers } else r }

/-- A version is settled: visible, superseded, burnt or failed (R65). The horizon may rise, and old versions go. -/
def State.settle (s : State) (ns v : Nat) : State :=
  let n := s.nsOf ns
  (s.setNs ns { n with unsettled := n.unsettled.erase v }).pruneKeys ns

/-- Position 0 has told a horizon (R202). -/
def State.hearHorizon (s : State) (ns v : Nat) : State :=
  let n := s.nsOf ns
  (s.setNs ns { n with seen := max n.seen v }).pruneKeys ns

/-- Release one snapshot; a cursor over it learns that it is gone (R67, R116). -/
def State.releaseSnap (s : State) (id : Nat) : State :=
  match s.ks.snaps.find? fun x => x.id = id with
  | none => s
  | some x =>
    let cs := s.ks.cursors.map fun c => if c.snap = some id then { c with snapGone := true } else c
    (s.setKs { s.ks with snaps := s.ks.snaps.filter (fun y => y.id != id), cursors := cs }).snapNote x.ns x.v 1 |>.pruneKeys x.ns

/-- Bytes of references in the snapshot reserve: 32 for each older version kept (R313). -/
def State.reserveUsed (s : State) : Nat := 32 * (s.ks.keys.map fun r => r.vers.length - 1).sum

/-- R69: the snapshot released next: lowest V, and of those the one that started first. -/
def nextRelease (l : List Snap) : Option Snap :=
  l.foldl (fun best x => match best with
    | none => some x
    | some b => if x.v < b.v ∨ (x.v = b.v ∧ x.at0 < b.at0) then some x else some b) none

def releaseWhileFull : Nat → State → State
  | 0, s => s
  | n + 1, s =>
    if s.reserveUsed ≤ s.storageRec 14 2 * 1048576 then s else
    match nextRelease s.ks.snaps with
    | none => s
    | some x =>
      let all := s.ks.snaps.filter fun y => y.ns = x.ns && y.v = x.v
      let s := all.foldl (fun s y => (s.releaseSnap y.id).bump 0x10005048) s
      releaseWhileFull n s

/-! Visibility (R57, R60). -/

def sizeClass (n : Nat) : Nat :=
  if n = 0 then 0 else if n ≤ 64 then 1 else if n ≤ 128 then 2 else if n ≤ 256 then 3 else if n ≤ 512 then 4
  else if n ≤ 4096 then 5 else if n ≤ 7936 then 6 else if n ≤ 65536 then 7 else if n ≤ 1048576 then 8 else 9

/-- Associated data of a write held in the journal (Table 4-3). -/
def journalAd (tomb : Bool) (line len version : Nat) : Nat :=
  (if tomb ∨ len = 0 then 0 else 1) * 2 ^ 61 + line % 2 ^ 32 * 1024 + sizeClass len * 64 + version % 64

/-- A key takes a new version and shows it from now on. -/
def State.showVersion (s : State) (ns : Nat) (k : Bytes) (v : Ver) : State :=
  let r := (s.findKey ns k).getD (blankKey ns k)
  let r := { r with vers := pruneVers (s.knownHorizon ns) (s.snapVs ns) (v :: r.vers), pend := none }
  releaseWhileFull s.ks.snaps.length (s.putKey r)

/-- The order word's Nose kind of a written key: 1 dirty, 3 tombstone, by Table 4-2; pending is 4. -/
def kindOf (tomb : Bool) : Nat := if tomb then 3 else 1

/-! The DRAM index (R308 to R310). -/

def State.probeSlots (s : State) (ns : Nat) (k : Bytes) : List Nat :=
  let h := khash32 ns k
  let n := s.st.nbuckets
  if n = 0 then [] else
  (List.range (s.storageRec 12 2)).flatMap fun i => (List.range 4).map fun j => (h % n + i) % n * 4 + j

def State.indexFind (s : State) (ns : Nat) (k : Bytes) : Option (Nat × IdxEnt) :=
  s.st.index.find? fun e => e.2.ns = ns && e.2.key = k

/-- A free entry of the key's probe window. -/
def State.indexFree (s : State) (ns : Nat) (k : Bytes) : Option Nat :=
  (s.probeSlots ns k).find? fun i => !mhas s.st.index i

def State.indexRoom (s : State) (ns : Nat) (k : Bytes) : Bool := (s.indexFind ns k).isSome || (s.indexFree ns k).isSome

/-- An index entry as its 128 bits stand in DRAM (Table 7-9). -/
def IdxEnt.word (e : IdxEnt) : Nat :=
  khash32 e.ns e.key / 65536 * 2 ^ 112 + e.ns % 4096 * 2 ^ 100 + (if e.tomb then 2 else 1) * 2 ^ 98 + b2n e.bypass * 2 ^ 97 +
    b2n e.journal * 2 ^ 96 + sizeClass e.len * 2 ^ 92 + e.loc % 2 ^ 44 * 2 ^ 48 + e.version % 2 ^ 48

/-- The 16 bytes of entry `i` are written: the index lies at the lowest interleaved addresses (R308, R358). -/
def State.indexStore (s : State) (i w : Nat) : State := 
  if 16 * i + 16 ≤ s.interCap then s.setMem { s.mem with dram := memWrite s.mem.dram (16 * i) (leBytes 16 w) } else s

/-- Entry `i` becomes `e`. -/
def State.setIdx (s : State) (i : Nat) (e : IdxEnt) : State := (s.setSt { s.st with index := mset s.st.index i e }).indexStore i e.word

/-- Entry `i` is vacated: its KIND becomes 3 (R310). -/
def State.vacate (s : State) (i : Nat) (e : IdxEnt) : State :=
  (s.setSt { s.st with index := mdel s.st.index i }).indexStore i (setBits e.word 98 2 3)

/-- Insert or update the key's entry; its number, none where the window is full. -/
def State.indexPut (s : State) (e : IdxEnt) : Option Nat × State :=
  match (s.indexFind e.ns e.key).map (·.1) |>.or (s.indexFree e.ns e.key) with
  | some i => (some i, s.setIdx i e)
  | none => (none, s.bump 0x10005038)

/-! Quotas and rates (R78 to R80). -/

def keyBytes (r : KeyRec) : Nat := match liveVer r with
  | some v => r.key.length + v.value.length
  | none => 0

/-- Key and value bytes of writes that hold a version or a reservation and are not visible yet: key, bytes. -/
def State.inFlight (s : State) (ns : Nat) : List (Bytes × Nat) :=
  s.ft.frames.filterMap fun e => match e.2.w with
    | some w => if w.ns = ns ∧ w.tomb = false ∧ (w.phase = .taken ∨ w.phase = .pending ∧ w.version ≠ 0 ∨ w.phase = .waitGrant) then
        some (w.key, w.key.length + w.value.length) else none
    | none => none

/-- What key `k` counts for once the writes in flight are done, at most. -/
def inFlightMax (l : List (Bytes × Nat)) (k : Bytes) : Nat := ((l.filter fun e => e.1 = k).map (·.2)).foldl max 0

/-- Stored bytes of each key of a namespace but `k`, the writes in flight counted (R78, log entry 84). -/
def State.otherBytes (s : State) (ns : Nat) (k : Bytes) : List Nat :=
  let fl := s.inFlight ns
  let own := s.ks.keys.filter fun r => r.ns = ns && r.key != k
  let new := ((fl.map (·.1)).filter fun q => q != k && !own.any fun r => r.key = q).eraseDups
  (own.map fun r => max (keyBytes r) (inFlightMax fl r.key)) ++ new.map (inFlightMax fl)

/-- Stored bytes of a tenant's namespaces but `ns`. -/
def State.tenantOther (s : State) (c : CfgSet) (t ns : Nat) : Nat :=
  let mine := ((s.ks.keys.map (·.ns)) ++ s.ft.frames.filterMap fun e => e.2.w.map (·.ns)).eraseDups
  ((mine.filter fun n => n != ns && decide (nsStateOf c n ≠ 0) && nsTenant c n == t).map fun n => (s.otherBytes n []).sum).sum

/-- Would a live value of `n` bytes under the key take a quota's count above it (R78)? -/
def State.overQuota (s : State) (c : CfgSet) (ns : Nat) (k : Bytes) (n : Nat) : Bool :=
  let old := max (((s.findKey ns k).map keyBytes).getD 0) (inFlightMax (s.inFlight ns) k)
  let new := max (k.length + n) (inFlightMax (s.inFlight ns) k)
  let others := s.otherBytes ns k
  let t := nsTenant c ns
  let kq := nsKeyQuota c ns
  let bq := nsByteQuota c ns
  let tq := tenantByteQuota c t
  (kq != 0 && old == 0 && decide (kq < (others.filter (· != 0)).length + 1)) || (bq != 0 && decide (old < new) && decide (bq < others.sum + new)) ||
    (tq != 0 && decide (old < new) && decide (tq < s.tenantOther c t ns + others.sum + new))

def opUnit : Int := 1500000
def byteUnit : Int := 1500

def opsCap (c : CfgSet) (t : Nat) : Int := tenantOpsBurst c t * opUnit
def bytesCap (c : CfgSet) (t : Nat) : Int := tenantByteBurst c t * 1024 * byteUnit

/-- A tenant's buckets. One that nothing has been charged to is full: the specification states no first level (DESIGN CHOICE, log
entry 80). -/
def State.bucket (s : State) (c : CfgSet) (t : Nat) : Bucket :=
  (mget s.ks.buckets t).getD { ops := opsCap c t, byts := bytesCap c t }

/-- R80: charges one operation of `n` bytes; a bucket without one whole token is empty. -/
def State.charge (s : State) (c : CfgSet) (t n : Nat) : Option State :=
  let b := s.bucket c t
  if (tenantOpsRate c t ≠ 0 ∧ b.ops < opUnit) ∨ (tenantByteRate c t ≠ 0 ∧ b.byts < byteUnit) then none
  else
    let b : Bucket := { ops := if tenantOpsRate c t = 0 then b.ops else b.ops - opUnit,
                        byts := if tenantByteRate c t = 0 then b.byts else b.byts - n * byteUnit }
    some (s.setKs { s.ks with buckets := mset s.ks.buckets t b })

/-- Response bytes of a read are charged when sent; the bucket may go negative (R80). -/
def State.chargeBytes (s : State) (c : CfgSet) (t n : Nat) : State :=
  if tenantByteRate c t = 0 ∧ tenantOpsRate c t = 0 then s else
  let b := s.bucket c t
  let b := if tenantByteRate c t = 0 then b else { b with byts := b.byts - n * byteUnit }
  s.setKs { s.ks with buckets := mset s.ks.buckets t b }

/-- One FAB cycle's refill of every bucket that has been charged. -/
def State.refill (s : State) : State :=
  let c := s.cfg.active
  let f := fun (e : Nat × Bucket) =>
    (e.1, ({ ops := min (opsCap c e.1) (e.2.ops + tenantOpsRate c e.1), byts := min (bytesCap c e.1) (e.2.byts + tenantByteRate c e.1) } : Bucket))
  s.setKs { s.ks with buckets := s.ks.buckets.map f }

end Sys2Proof.Machine
end

