-- ==== Sys2Proof/Machine/FrameOps.lean ====
section
/-! DEFINITION. A frame's operations: which one is next, the checks of step 8 of Table 3-5, its result, its response
space; and requests over the pack link (R197, R198). -/
namespace Sys2Proof.Machine

def State.frame (s : State) (id : Nat) : Option Frame := mget s.ft.frames id
def State.setFrame (s : State) (id : Nat) (f : Frame) : State := s.setFt { s.ft with frames := mset s.ft.frames id f }
def State.updFrame (s : State) (id : Nat) (g : Frame → Frame) : State := s.setFt { s.ft with frames := mupd s.ft.frames id g }
def State.sess (s : State) (id : Nat) : Option Session := mget s.ft.sessions id
def State.updSess (s : State) (id : Nat) (g : Session → Session) : State := s.setFt { s.ft with sessions := mupd s.ft.sessions id g }

def isOperator (x : Session) : Bool := bit x.rights 7

/-! The next operation. -/

/-- Opcodes of Table 3-4. -/
def knownOpcode (n : Nat) : Bool :=
  (decide (1 ≤ n) && decide (n ≤ 0x0C)) || n == 0x10 || n == 0x20 || n == 0x21 || (decide (0x30 ≤ n) && decide (n ≤ 0x34))

def resOf (op : OpReq) (status arg : Nat) (val : Bytes) (cls : Nat) : OpRes :=
  { opcode := op.opcode, flags := (if op.opcode = 0x31 then op.flags &&& 0x20 else op.flags &&& 0x2C) ||| cls, status := status, ns := op.ns,
    arg := arg, val := val }

/-- Operations whose opcode is not listed fail with MALFORMED as they are reached (R115). -/
def skipBad : Nat → Frame → Frame
  | 0, f => f
  | n + 1, f => match f.ops[f.res.length]? with
    | some op => if knownOpcode op.opcode then f else skipBad n { f with res := f.res ++ [resOf op stMALFORMED 0 [] 0] }
    | none => f

/-- The operation in turn has its result; the next one may start (R62). -/
def State.opDone (s : State) (id : Nat) (r : OpRes) : State :=
  s.updFrame id fun f => skipBad 33 { f with res := f.res ++ [r], w := none, waits := none, seg := none, place := none, far := none }

def Frame.op (f : Frame) : Option OpReq :=
  match f.seg with
  | some (o, v) => some { o with val := v }
  | none => f.ops[f.res.length]?

def isWriteOp (n : Nat) : Bool := n = 2 || n = 3 || n = 4 || n = 5 || n = 6

/-- The next operation of an executing frame, where its opcode is `n`; the first segment of a segmented value is
SEGMENT_FIRST's instead (R131). -/
def Frame.turn (f : Frame) (n : Nat) : Option OpReq :=
  if f.phase ≠ .executing ∨ f.waits.isSome then none else
  match f.op with
  | some o =>
    if o.opcode ≠ n then none
    else if f.seg.isNone && bit o.flags 4 && (n = 2 || n = 4 || n = 6 || n = 0x0B || n = 0x31) then none else some o
  | none => none

/-- The session a member's forwarded operation acts for: the tenant and rights of its context (Table 4-21). -/
def memberSession (tenant rights : Nat) : Session :=
  { tenant := tenant, rights := rights, cipher := 0, addr := [], port := 0, link := [], tags := [], h := 0, done := [], skipped := [], refused := [],
    tx := 0, slot := none, pinned := false, old := none, seg := none, busy := false, closing := false, gone := false, pack := true }

def State.frameSess (s : State) (f : Frame) : Option Session :=
  match f.origin with
  | .client => s.sess f.sess
  | .member _ _ tenant rights _ => some (memberSession tenant rights)

/-- The session number cursors and buckets know a frame by: members' stand above every session. -/
def Frame.owner (f : Frame) : Nat :=
  match f.origin with
  | .client => f.sess
  | .member pos _ _ _ _ => 65536 + pos

def Frame.isClient (f : Frame) : Bool := f.origin == .client

/-- No bucket is charged: operator sessions (R80), and operations a member has charged at its own admission. -/
def Session.free (x : Session) : Bool := isOperator x || x.pack

/-- Operations on keys work on the Nose, and wait while it performs none (R176). -/
def usesNose (n : Nat) : Bool := (decide (1 ≤ n) && decide (n ≤ 9)) || n == 0x31

/-- The frame, its session and the operation of opcode `n` in turn. -/
def State.turn (s : State) (id n : Nat) : Option (Frame × Session × OpReq) :=
  if usesNose n && !s.noseOpen then none else
  match s.frame id with
  | none => none
  | some f => match s.frameSess f, f.turn n with
    | some x, some o => some (f, x, o)
    | _, _ => none

/-! Response space (R94, R130). -/

/-- Tags a frame carries. -/
def rawTags (raw : Bytes) : Nat :=
  if beAt raw 12 2 = 0x88A8 ∧ beAt raw 16 2 = 0x8100 then 2 else if beAt raw 12 2 = 0x8100 then 1 else 0
/-- Tags a session's frames carry by port `p` (Table 9-5). -/
def sessTags (x : Session) (p : Nat) : Nat :=
  let m := byteAt x.link 0
  if m = 3 then (mgetD x.tags p []).length / 4 else min m 2

def rawIsV6 (raw : Bytes) : Bool := beAt raw (12 + 4 * rawTags raw) 2 == 0x86DD

def State.portRec (s : State) (p o n : Nat) : Nat := leAt (s.cfg.active.get secPort p) o n
def State.maxFrame (s : State) (p : Nat) : Nat := s.portRec p 4 2
def other (p : Nat) : Nat := if p = 0 then 1 else 0
/-- The session's destination address by a port. -/
def Session.dmac (x : Session) (p : Nat) : Bytes := slice x.link (if p = 0 then 8 else 14) 6
/-- May the session's frames leave by the other port than `p` (R397)? -/
def Session.steers (x : Session) (p : Nat) : Bool := bit (byteAt x.link 6) 1 && (x.dmac (other p)).any (· != 0)

/-- Bytes the operation results of a frame may take on a port. -/
def State.portSpace (s : State) (p : Nat) (v6 : Bool) (x : Session) : Nat :=
  s.maxFrame p - (14 + 4 * sessTags x p + (if v6 then 40 else 20) + 8 + 4 + 32 + (if x.cipher = 0 then 0 else 16))

/-- The largest payload of a link frame (Table 4-20). -/
def linkMax : Nat := 8704

/-- Bytes the operation results of a frame may take (R130): no response exceeds the maximum of the port it leaves by, the other one
where the session steers (R94). A member's result travels in one link frame. -/
def State.space (s : State) (f : Frame) (x : Session) : Nat :=
  if x.pack then linkMax else
  let own := s.portSpace f.port (rawIsV6 f.raw) x
  if x.steers f.port then min own (s.portSpace (other f.port) (rawIsV6 f.raw) x) else own

def resBytes (l : List OpRes) : Nat := (l.map fun r => 16 + r.val.length).sum

/-- What a result still to come may take whatever its value: its header, and a REDIRECT's 24 bytes or a TOO_LARGE's 4. -/
def OpReq.keeps (o : OpReq) : Nat := if o.key = [] then 20 else 40

/-- Value bytes left for the next result. Room is kept for each later one, so that no response exceeds its port's maximum (R94; DESIGN
CHOICE, log entry 88). -/
def State.valueRoom (s : State) (f : Frame) (x : Session) : Nat :=
  s.space f x - resBytes f.res - ((f.ops.drop (f.res.length + 1)).map OpReq.keeps).sum - 16

/-! The checks of step 8 (R45, R46, R48, R49, R71, R80, R82, R85, R87, R89). -/

inductive Chk
  | pass (s : State)
  | fail (status : Nat) (val : Bytes) (s : State)
  | proxy (dev : Nat) (s : State)
  | member (pos : Nat) (s : State)
  /-- A Pack search finds the member first (R184). -/
  | search (s : State)
deriving DecidableEq, Repr

/-- Rights bits: READ 0, WRITE 1, SCAN 2, TRICK 3. -/
def hasRight (x : Session) (i : Nat) : Bool := bit x.rights i

/-- May the session name the namespace (R45)? -/
def nsAllowed (c : CfgSet) (x : Session) (ns : Nat) : Bool :=
  nsStateOf c ns != 0 && (isOperator x || (nsTenant c ns == x.tenant && tenantState c x.tenant == 1))

/-- The directory, follower and Pack part of the checks. A proxied write to a foreign range whose READ_ONLY flag is set gets READ_ONLY
before REDIRECT: the specification gives both (DESIGN CHOICE, log entry 81). -/
def State.placeCheck (s : State) (c : CfgSet) (x : Session) (op : OpReq) (isWrite : Bool) : Chk :=
  let head := headOf op.key
  let e := dirEntry c op.ns head
  let redirect := fun (d : Nat) => Chk.fail stREDIRECT (redirectVal c d) s
  let foreign := match e with
    | some b => if s.isLocalDev c (dirOwner b) then none else some (dirOwner b)
    | none => none
  let pack := decide (2 ≤ packN c)
  let holder := packHolder c op.ns head
  let place :=
    if pack ∧ holder ≠ s.packPos then (if s.memberUp holder then Chk.member holder s else Chk.fail stRETRY [] s)
    else if pack && isWrite && s.packPos != 0 && !s.memberUp 0 then Chk.fail stRETRY [] s
    else Chk.pass s
  if nsStateOf c op.ns = 3 then
    if !isWrite && nsFlag c op.ns 1 then place
    else match foreign with
      | some d => redirect d
      | none => Chk.fail (if isWrite then stREADONLY else stDENIED) [] s
  else match foreign with
    | some d =>
      if isWrite && (e.map dirReadOnly).getD false then Chk.fail stREADONLY [] s
      else if isOperator x && bit op.flags 5 then redirect d
      else if nsFlag c op.ns 0 then (if 4096 ≤ s.ks.proxied.length then Chk.fail stBUSY [] s else Chk.proxy d s)
      else redirect d
    | none =>
      if isWrite && (e.map dirReadOnly).getD false then Chk.fail stREADONLY [] s
      else if isWrite ∧ (s.power.sit = true ∨ nsStateOf c op.ns = 2 ∨ (s.nsOf op.ns).counter = lastVersion) then Chk.fail stREADONLY [] s
      else place

/-- All checks of a keyed operation; `right`: the right it needs; `n`: bytes charged to the byte bucket. -/
def State.opChecks (s : State) (c : CfgSet) (x : Session) (op : OpReq) (right n : Nat) (isWrite : Bool) : Chk :=
  if !keyOk op.key || (isWrite && bits op.flags 0 2 = 3) then .fail stMALFORMED [] s
  else if !hasRight x right || !nsAllowed c x op.ns then .fail stDENIED [] s
  else if x.free then s.placeCheck c x op isWrite
  else match s.charge c x.tenant n with
    | none => .fail stBUSY [] s
    | some s => s.placeCheck c x op isWrite

/-- The 16-byte operation header and its bytes, network order (Table 3-2). -/
def opBytes (opcode flags status ns : Nat) (key val : Bytes) (arg : Nat) : Bytes :=
  beBytes 1 opcode ++ beBytes 1 flags ++ beBytes 1 status ++ beBytes 3 (ns * 4096 + key.length) ++ beBytes 2 val.length ++
    beBytes 8 arg ++ key ++ val
/-- Reserved bits leave as 0 (R17). -/
def OpReq.bytes (o : OpReq) : Bytes := opBytes o.opcode (o.flags &&& 0x3F) 0 o.ns o.key o.val o.arg

/-- While a boundary is being moved, a key between its two places is served where a Pack search finds it (R89, R184). -/
def State.findPlace (s : State) (f : Frame) (c : CfgSet) (op : OpReq) (r : Chk) : Chk :=
  let go := fun (t : State) =>
    if !s.moving c op.ns op.key then r
    else if !f.isClient then .pass t
    else match f.place with
      | some (ns, k, p) =>
        if ns ≠ op.ns ∨ k ≠ op.key then .search t
        else if p = s.packPos then .pass t
        else if s.memberUp p then .member p t else .fail stRETRY [] t
      | none => .search t
  match r with
  | .pass t => go t
  | .member _ t => go t
  | r => r

/-- The serving program's own Pack search for a key (R184): the operation waits for it; while the member takes no part in Pack searches
it fails with RETRY (R89, R183). -/
def State.packSearch (s : State) (id : Nat) (op : OpReq) : State :=
  if !s.flag rNoseStatus 2 then s.opDone id (resOf op stRETRY 0 [] 0)
  else
    let n := s.nose
    let q : PSearch := { thread := 0, rd := 0, num := n.nextNum % 8192, mask := pointMask, val := orderWord op.ns op.key * 16, again := false, frame := some id }
    (((s.setNose { n with psearch := n.psearch ++ [q], nextNum := n.nextNum + 1 }).psearchSend q)).updFrame id fun f => { f with waits := some 5 }

/-- Send the operation to its owner over the inter-device session (R82): PROXIED set; reserved bits leave as 0 (R17). -/
def State.sendProxy (s : State) (id d : Nat) (op : OpReq) : State :=
  let k := s.ks
  (s.setKs { k with proxied := k.proxied ++ [id], outReqs := (d, { op with flags := op.flags &&& 0x3F ||| 0x20 }) :: k.outReqs }).updFrame id
    fun f => { f with waits := some 1 }

/-- A FWD_REQ that carries one operation (Table 4-21). -/
def State.fwdReq (s : State) (id pos : Nat) (x : Session) (op : OpReq) (snapV : Nat) : State :=
  let inner := op.bytes
  let ctx := leBytes 2 x.tenant ++ leBytes 1 x.rights ++ leBytes 1 (bits op.flags 0 2) ++ zeros 4 ++ leBytes 8 snapV
  let hdr := opBytes 0x32 0 0 op.ns [] inner (selfId s.cfg.active)
  (s.linkReq 0x01 pos 0 (hdr.take 16 ++ ctx ++ inner) (some id)).updFrame id fun f => { f with waits := some 2 }

/-- Forward the operation to the member that holds its key (R87). A value that no link frame holds goes in parts, as a segmented
value of R131 whose FIRST_SEQ is the tag of the first request (DESIGN CHOICE, log entry 27). -/
def State.sendMember (s : State) (id pos : Nat) (x : Session) (op : OpReq) (snapV : Nat) : State :=
  if 32 + op.bytes.length ≤ linkMax then s.fwdReq id pos x op snapV
  else
    let d := op.val.take 7928
    let first := { op with flags := op.flags ||| 0x10, val := beBytes 4 op.val.length ++ zeros 4 ++ d }
    (s.fwdReq id pos x first snapV).updFrame id fun f => { f with far := some { tag := s.pack.nextTag, total := op.val.length, version := 0, data := d } }

end Sys2Proof.Machine
end

