-- ==== Sys2Proof/Machine/Writes.lean ====
section
/-! DEFINITION. Executing a write: PUT, DELETE, CAS, ADD, APPEND (R52 to R60, R71 to R79, R118 to R120),
and burnt versions. -/
namespace Sys2Proof.Machine

/-- What a write makes of the key's current state: a status and ARG, or the new tombstone mark and value. -/
inductive Made
  | refuse (status arg : Nat)
  | store (tomb : Bool) (value : Bytes)

/-- The result of each write opcode on the live value (R118 to R120). -/
def makeWrite (op : OpReq) (cur : Option Ver) : Made :=
  let curV := (cur.map (·.version)).getD 0
  if op.opcode = 3 then (if cur.isNone then .refuse stNOTFOUND 0 else .store true [])
  else if op.opcode = 4 then
    if op.arg = 0 then (if cur.isSome then .refuse stEXISTS curV else .store false op.val)
    else if cur.isSome ∧ curV = op.arg then .store false op.val else .refuse stVERSION curV
  else if op.opcode = 5 then match cur with
    | none => .store false (beBytes 8 (op.arg % 2 ^ 64))
    | some v => if v.value.length ≠ 8 then .refuse stMALFORMED 0 else .store false (beBytes 8 ((beNat v.value + op.arg) % 2 ^ 64))
  else if op.opcode = 6 then
    let v := (cur.map (·.value)).getD [] ++ op.val
    if 16777216 < v.length then .refuse stTOOLARGE 0 else .store false v
  else .store false op.val

/-- The value of an ADD's result (Table 3-4). -/
def writeResultVal (op : OpReq) (value : Bytes) : Bytes := if op.opcode = 5 then value else []

/-! The key in the Nose and the index. -/

def State.orderOf (ns : Nat) (k : Bytes) : Nat := orderWord ns k

/-- Would the key have to live in the index only (R171)? -/
def State.wouldBypass (s : State) (ns : Nat) (k : Bytes) : Bool :=
  match s.findKey ns k with
  | some r => r.bypass || (r.nose.isNone && (let st := s.insertStatus (orderWord ns k) 4; st == 2 || st == 3))
  | none => let st := s.insertStatus (orderWord ns k) 4; st == 2 || st == 3

/-- The key becomes pending under frame `id` (R58, R59); its entry before, and the state after. -/
def State.pendKey (s : State) (ns : Nat) (k : Bytes) (id : Nat) : Option NEnt × State :=
  let s := s.noseQuiet.progSearch 1
  let r := (s.findKey ns k).getD (blankKey ns k)
  let r := { r with pend := some id }
  if r.bypass then (none, s.putKey r) else
  match r.nose with
  | some a => (mget s.nose.ents a, (s.kindWrite a 4).putKey r)
  | none =>
    let (st, a, s) := s.insertWhole { order := orderWord ns k, kind := 4, ad := 0 }
    if st = 0 then (none, s.putKey { r with nose := some a }) else (none, s.putKey { r with bypass := st = 2 || st = 3 })

/-- The key leaves pending in its previous state (R58): its entry is restored, or removed where it had none; a key that became
Nose-bypass for this write alone is so no more (R171). -/
def State.unpendKey (s : State) (ns : Nat) (k : Bytes) (prior : Option NEnt) : State :=
  let s := s.noseQuiet
  match s.findKey ns k with
  | none => s
  | some r => match r.nose with
    | none => s.putKey { r with pend := none, bypass := r.bypass && (s.indexFind ns k).any fun e => e.2.bypass }
    | some a => match prior with
      | some e => (s.nosePut a e).putKey { r with pend := none }
      | none => ((s.setNose { s.nose with ents := mdel s.nose.ents a }).progUpdate 1).putKey { r with pend := none, nose := none }

/-- A write becomes visible (R57): its Nose entry leaves pending, or its index entry is published, and its version shows. An entry that stood
before the write has its associated data written over, which takes a slot. -/
def State.showWrite (s : State) (ns : Nat) (k : Bytes) (tomb : Bool) (value : Bytes) (version jsn : Nat) : State :=
  let s := s.noseQuiet
  let line := ((s.st.jrn.find? fun r => r.jsn = jsn).map (·.line)).getD 0
  let v : Ver := { version := version, tomb := tomb, value := value, jsn := jsn, inRun := false, lost := false }
  let s := match s.findKey ns k with
    | some r => match r.nose with
      | some a =>
        let had := ((mget s.nose.ents a).map fun (e : NEnt) => e.ad != 0).getD false
        (if had then s.progUpdate 1 else s).nosePut a { order := orderWord ns k, kind := kindOf tomb, ad := journalAd tomb line value.length version }
      | none => if r.bypass then
          (s.indexPut { ns := ns, key := k, version := version, tomb := tomb, bypass := true, journal := true, loc := line, len := value.length }).2
        else s
    | none => s
  s.showVersion ns k v

/-- A taken version is burnt (R54): a BURNT record, settled, and followers told (R83). -/
def State.burn (s : State) (ns version : Nat) : State :=
  (((s.jrnAdd (mkRec 3 ns [] version [] 0 false false true)).2).settle ns version).forward ns version 2 [] []

/-- A member granted the version tells position 0 that it is settled (R202): state 0 visible, 1 superseded, 2 burnt, 3 failed. -/
def State.oweSettle (s : State) (ns version st : Nat) : State :=
  if 2 ≤ packN s.cfg.active ∧ s.packPos ≠ 0 then
    s.linkReq 0x05 0 1 (leBytes 8 version ++ leBytes 2 ns ++ leBytes 1 st ++ zeros 5) none
  else s

/-! The steps of a frame's write. -/

def Write.op (w : Write) : Nat := recLines w.key.length w.value.length

/-- Refuse or finish the write with a status. -/
def State.writeEnd (s : State) (id : Nat) (op : OpReq) (status arg : Nat) : State := s.opDone id (resOf op status arg [] 0)

/-- Is the key pending under this frame? -/
def State.heldBy (s : State) (ns : Nat) (k : Bytes) (id : Nat) : Bool := match s.findKey ns k with
  | some r => r.pend == some id
  | none => false

/-- The record of a write: its place in the ring and its JSN are reserved (R282). BYPASS is what the key is once its entry is settled, as
it is where it pends already; a PUT's turns out at the Nose. -/
def State.writeRec (s : State) (id : Nat) (w : Write) (version : Nat) : Nat × State :=
  let bypass := if s.heldBy w.ns w.key id then ((s.findKey w.ns w.key).map (·.bypass)).getD false else s.wouldBypass w.ns w.key
  if w.jsn = 0 then s.jrnAdd (mkRec (if w.tomb then 2 else 1) w.ns w.key version w.value w.cls bypass false false)
  else (w.jsn, s.setSt { s.st with jrn := s.st.jrn.map fun r => if r.jsn = w.jsn then { r with version := version, bypass := bypass } else r })

/-- The write has its version, in a record reserved now or while it waited for a grant; the phase moves on. -/
def State.writeTook (s : State) (id : Nat) (op : OpReq) (w : Write) (version : Nat) : State :=
  let (j, s) := s.writeRec id w version
  s.updFrame id fun f => { f with w := some { w with version := version, jsn := j, phase := if op.opcode = 2 then .taken else .pending } }

/-- NO_SPACE (R78, R79): quotas, and the grooming reserve for every write but a DELETE. -/
def State.noSpace (s : State) (c : CfgSet) (op : OpReq) (tomb : Bool) (n : Nat) : Bool :=
  !tomb && (s.flag rStState 4 || s.overQuota c op.ns op.key n)

/-- No write takes a version (R55, R77): Sit, a read-only namespace, a commit counter at its last version. -/
def State.readOnly (s : State) (c : CfgSet) (ns : Nat) : Bool :=
  s.power.sit || nsStateOf c ns == 2 || (s.nsOf ns).counter == lastVersion

/-- A write that takes no version ends: its key leaves pending as it was, and a record reserved for it becomes a PAD record (R282). -/
def State.writeDrop (s : State) (id : Nat) (op : OpReq) (w : Write) (status : Nat) : State :=
  let s := if w.jsn = 0 then s else s.jrnPad w.jsn
  (if s.heldBy w.ns w.key id then s.unpendKey w.ns w.key w.prior else s).writeEnd id op status 0

/-- The version of a write whose space is free (R74, R282, R290, R88): position 0's over the link, else the next one. -/
def State.writeVersion (s : State) (id : Nat) (op : OpReq) (w : Write) : State :=
  if !s.reserveOk w.op then s.updFrame id fun f => { f with w := some { w with phase := .waitJournal } }
  else if s.underLead then
    let (j, s) := s.writeRec id w 0
    (s.linkReq 0x03 0 (w.ns + 0x10000) [] (some id)).updFrame id fun f => { f with w := some { w with phase := .waitGrant, jsn := j } }
  else if !(s.nsOf w.ns).canTake then s.updFrame id fun f => { f with w := some { w with phase := .waitJournal } }
  else
    let (v, s) := s.takeVersion w.ns
    s.writeTook id op w v

/-- What a write meets before its version, when it starts and at every try while it waits: Sit and a last version (R55, R77), quotas and
the grooming reserve (R78, R79), index space (R310), journal space. -/
def State.writeReserve (s : State) (id : Nat) (c : CfgSet) (op : OpReq) (w : Write) : State :=
  let s := s.leaseDue w.ns
  if s.readOnly c w.ns then s.writeDrop id op w stREADONLY
  else if s.noSpace c op w.tomb w.value.length then s.writeDrop id op w stNOSPACE
  else if s.wouldBypass w.ns w.key && !s.indexRoom w.ns w.key then (s.bump 0x10005038).writeDrop id op w stNOSPACE
  else s.writeVersion id op w

/-- A PUT's own first step: size and quota, then its reservation and version (R59). -/
def State.putStart (s : State) (id : Nat) (c : CfgSet) (op : OpReq) : State :=
  if 16777216 < op.val.length then s.writeEnd id op stTOOLARGE 0
  else
    let w : Write := { phase := .waitJournal, ns := op.ns, key := op.key, tomb := false, value := op.val, version := 0, jsn := 0,
                       cls := bits op.flags 0 2, prior := none }
    s.writeReserve id c op w

/-- A write that reads the key first (R59): pending, read, then its version. It waits while the key is pending; a CAS has its journal
space reserved before it reads, and one that fails leaves a PAD record there (R282). -/
def State.modifyStart (s : State) (id : Nat) (c : CfgSet) (op : OpReq) : State :=
  let w : Write := { phase := .waitKey, ns := op.ns, key := op.key, tomb := false, value := op.val, version := 0, jsn := 0,
                     cls := bits op.flags 0 2, prior := none }
  if s.isPending op.ns op.key then s.updFrame id fun f => { f with w := some w }
  else if op.opcode = 4 ∧ s.reserveOk (recLines op.key.length op.val.length) = false then
    s.updFrame id fun f => { f with w := some { w with phase := .waitJournal } }
  else
    let (prior, s) := s.pendKey op.ns op.key id
    let (lost, s) := s.readJrn (if op.opcode = 3 then [] else s.valueDamage op.ns op.key)
    if lost then s.writeDrop id op { w with prior := prior } stINTERNAL
    else match makeWrite op (s.liveOf op.ns op.key) with
    | .refuse st arg =>
      let s := if op.opcode = 4 then (s.jrnAdd (padRec (recLines op.key.length op.val.length))).2 else s
      (s.unpendKey op.ns op.key prior).writeEnd id op st arg
    | .store tomb value =>
      if 16777216 < value.length then (s.unpendKey op.ns op.key prior).writeEnd id op stTOOLARGE 0
      else s.writeReserve id c op { w with tomb := tomb, value := value, prior := prior }

/-- The operation's own field checks before the common ones: ADD takes no value, DELETE none (Table 3-4, R119). -/
def writeFieldsOk (op : OpReq) : Bool :=
  (op.opcode != 5 && op.opcode != 3) || op.val.isEmpty

/-- The first visit of a write: step 8 of Table 3-5. A completed segmented value has its rights and rate behind it (R135). -/
def State.writeChecks (s : State) (c : CfgSet) (f : Frame) (x : Session) (op : OpReq) : Chk :=
  if !writeFieldsOk op then .fail stMALFORMED [] s
  else if f.seg.isSome then
    if !nsAllowed c x op.ns then .fail stDENIED [] s else s.placeCheck c x op true
  else if 7936 < op.val.length then .fail stMALFORMED [] s
  else s.opChecks c x op 1 (op.key.length + op.val.length) true

/-- The start of a write, or its next try while it waits. -/
def State.writeStart (s : State) (id : Nat) (f : Frame) (x : Session) (op : OpReq) : State :=
  let c := s.setOf f.epoch
  match f.w with
  | none => match s.findPlace f c op (s.writeChecks c f x op) with
    | .fail st val s => s.opDone id (resOf op st 0 val 0)
    | .proxy d s => s.sendProxy id d op
    | .member p s => s.sendMember id p x op 0
    | .search _ => s.packSearch id op
    | .pass s => if op.opcode = 2 then s.putStart id c op else s.modifyStart id c op
  | some w => match w.phase with
    | .waitJournal => if op.opcode = 2 ∨ s.heldBy w.ns w.key id = true then s.writeReserve id c op w else s.modifyStart id c op
    | .waitKey => s.modifyStart id c op
    | _ => s

/-- A PUT reaches the Nose (R59, R60): it waits while the key is pending, is superseded by a newer version, or makes
the key pending; its record's BYPASS is what the INSERT made of the key (R171). -/
def State.putNose (s : State) (id : Nat) (w : Write) : State :=
  if w.phase ≠ .taken ∨ s.isPending w.ns w.key = true then s
  else if w.version < ((s.findKey w.ns w.key).map heldVersion).getD 0 then
    (s.settle w.ns w.version).updFrame id fun f => { f with w := some { w with phase := .superseded } }
  else
    let (prior, s) := s.pendKey w.ns w.key id
    let by_ := ((s.findKey w.ns w.key).map (·.bypass)).getD false
    let s := s.setSt { s.st with jrn := s.st.jrn.map fun r => if r.jsn = w.jsn then { r with bypass := by_ } else r }
    s.updFrame id fun f => { f with w := some { w with phase := .pending, prior := prior } }

def State.mirrorsReached (s : State) (ns v : Nat) : Bool :=
  s.ks.mirrors.all fun m => m.ns != ns || !m.attached || decide (v ≤ m.acked)

/-- The operation's result, and what its durability still waits for (R71, R73, R83). -/
def State.writeResult (s : State) (id : Nat) (op : OpReq) (w : Write) : State :=
  let cls := if w.cls = 2 ∧ s.attachedTo w.ns = false then 0 else w.cls
  let d : WDone := { idx := 0, ns := w.ns, version := w.version, jsn := w.jsn, cls := cls, reached := cls = 0 }
  let s := s.updFrame id fun f => { f with writes := f.writes ++ [{ d with idx := f.res.length }] }
  s.opDone id (resOf op stOK w.version (writeResultVal op w.value) cls)

/-- The soft point (R72, R280): the record is held in both mirrors and the write is visible, or was superseded. -/
def State.writeSoft (s : State) (id : Nat) (op : OpReq) (w : Write) : State :=
  match w.phase with
  | .pending =>
    let s := s.jrnComplete w.jsn
    let s := s.showWrite w.ns w.key w.tomb w.value w.version w.jsn
    let s := ((s.settle w.ns w.version).oweSettle w.ns w.version 0).forward w.ns w.version (b2n w.tomb) w.key w.value
    s.writeResult id op w
  | .superseded =>
    let s := s.jrnComplete w.jsn
    ((s.oweSettle w.ns w.version 1).forward w.ns w.version (b2n w.tomb) w.key w.value).writeResult id op w
  | _ => s

/-- A write stops (R54): the key returns to its previous state, a version already taken is burnt. -/
def State.writeFail (s : State) (id : Nat) (op : OpReq) (w : Write) (status : Nat) : State :=
  let s := if s.heldBy w.ns w.key id then s.unpendKey w.ns w.key w.prior else s
  let s := if w.jsn = 0 then s else s.jrnPad w.jsn
  let s := if w.version = 0 then s else (s.burn w.ns w.version).oweSettle w.ns w.version 2
  s.writeEnd id op status 0

/-- One step of the write in turn of opcode `n`; none while the machine stands still (Table 7-10, steps 1 and 2). -/
def writeOp (n id : Nat) (st : WriteStep) (s : State) : State :=
  if s.halted then s else match s.turn id n with
  | none => s
  | some (f, x, op) => match st with
    | .start => s.writeStart id f x op
    | .nose => match f.w with
      | some w => s.putNose id w
      | none => s
    | .soft => match f.w with
      | some w => s.writeSoft id op w
      | none => s
    | .fail => match f.w with
      | some w => s.writeFail id op w stINTERNAL
      | none => s.writeEnd id op stINTERNAL 0

def execPut (id : Nat) (st : WriteStep) (s : State) : Out := s.onSv (writeOp 2 id st)
def execDelete (id : Nat) (st : WriteStep) (s : State) : Out := s.onSv (writeOp 3 id st)
def execCas (id : Nat) (st : WriteStep) (s : State) : Out := s.onSv (writeOp 4 id st)
def execFetchAdd (id : Nat) (st : WriteStep) (s : State) : Out := s.onSv (writeOp 5 id st)
def execAppend (id : Nat) (st : WriteStep) (s : State) : Out := s.onSv (writeOp 6 id st)

/-- JOURNAL_WAIT_TIMEOUT (R74): 1 ms of waiting for space or a lease ends the write with BUSY, no version taken; a trick's write
service learns it. -/
def execJournalWaitTimeout (id : Nat) (s : State) : Out :=
  s.onSv fun s => match s.frame id with
    | none => s
    | some f => match f.w, f.op with
      | some w, some op => if w.phase = .waitJournal then s.writeDrop id op w stBUSY else s
      | _, _ =>
        let l := s.tricks.invokes.map fun (e : Nat × Invoke) => if e.2.frame = id ∧ e.2.wait = 1 then (e.1, { e.2 with wait := 2 }) else e
        s.setTricks { s.tricks with invokes := l }

end Sys2Proof.Machine
end

