-- ==== Sys2Proof/Machine/Reads.lean ====
section
/-! DEFINITION. Reads and scans (R58, R66 to R70, R117, R121 to R125, R128, R130, R137), and the operations that need no
key: BARRIER, PING, SEG, DIR_UPDATE, CFG_READ. -/
namespace Sys2Proof.Machine

/-- An operation that needs no key and no right: rate only. -/
def State.admitOp (s : State) (c : CfgSet) (x : Session) (n : Nat) : Option State :=
  if x.free then some s else s.charge c x.tenant n

/-- A read result that does not fit beside others: the version and the value's length (R116, R130). -/
def tooLarge (op : OpReq) (version len : Nat) : OpRes := resOf op stTOOLARGE version (beBytes 4 len) 0

/-- A GET's value in the result space (R130, R137): whole; alone in a client's frame, in segmented form; for another member, in parts
(log entry 27); beside other operations, TOO_LARGE. -/
def State.answerGet (s : State) (id : Nat) (f : Frame) (x : Session) (op : OpReq) (version : Nat) (value : Bytes) : State :=
  let room := s.valueRoom f x
  if value.length ≤ room then s.opDone id (resOf op stOK version value 0)
  else
    let r := resOf op stOK version (beBytes 4 value.length ++ zeros 4 ++ value.take (room - 8)) 0
    let more := { r with flags := r.flags ||| 0x10 }
    match f.origin with
    | .member pos tag _ _ _ =>
      (s.opDone id more).setPack { s.pack with parts := (pos, tag, value) :: s.pack.parts.take 1023 }
    | .client =>
      if f.ops.length = 1 then (s.opDone id more).updFrame id fun f => { f with cont := some (value, version, room - 8) }
      else s.opDone id (tooLarge op version value.length)

/-- The value of a GET, or of a HEAD its version and length (R117). `bad`: its data is poisoned (R43), as it is where both mirrors lost a line
of it (R286). -/
def State.readResult (s : State) (n id : Nat) (f : Frame) (x : Session) (op : OpReq) (bad : Bool) : State :=
  let r := s.readJrn (s.valueDamage op.ns op.key)
  let s := r.2
  if bad || r.1 then s.opDone id (resOf op stINTERNAL 0 [] 0)
  else match s.liveOf op.ns op.key with
    | none => s.opDone id (resOf op stNOTFOUND 0 [] 0)
    | some v => if n = 1 then s.answerGet id f x op v.version v.value else s.opDone id (resOf op stOK v.version (beBytes 4 v.value.length) 0)

/-- GET and HEAD: the checks, the wait on a pending key (R58), and the answer. -/
def readOp (n id : Nat) (bad : Bool) (s : State) : State :=
  match s.turn id n with
  | none => s
  | some (f, x, op) =>
    if !op.val.isEmpty then s.opDone id (resOf op stMALFORMED 0 [] 0)
    else match s.findPlace f (s.setOf f.epoch) op (s.opChecks (s.setOf f.epoch) x op 0 op.key.length false) with
      | .fail st val s => s.opDone id (resOf op st 0 val 0)
      | .proxy d s => s.sendProxy id d op
      | .member p s => s.sendMember id p x op 0
      | .search _ => s.packSearch id op
      | .pass t => if s.isPending op.ns op.key then s else t.readResult n id f x op bad

def execGet (id : Nat) (bad : Bool) (s : State) : Out := s.onSv (readOp 1 id bad)
def execHead (id : Nat) (bad : Bool) (s : State) : Out := s.onSv (readOp 7 id bad)

/-! Scans. -/

def insertKey (r : KeyRec × Ver) : List (KeyRec × Ver) → List (KeyRec × Ver)
  | [] => [r]
  | x :: t => if keyLt r.1.key x.1.key then r :: x :: t else x :: insertKey r t

/-- What a key shows: its state now, or under a snapshot its highest version at or below V (R66, R70). -/
def viewOf (v : Option Nat) (r : KeyRec) : Option Ver :=
  match v with
  | none => liveVer r
  | some v => match r.vers.find? fun x => x.version ≤ v with
    | some x => if x.tomb then none else some x
    | none => none

/-- The keys a cursor still has to return, in Fetch key order (R51, R121). -/
def State.scanKeys (s : State) (k : Cursor) (v : Option Nat) : List (KeyRec × Ver) :=
  let sel := s.ks.keys.filterMap fun r =>
    if r.ns = k.ns && isBeginOf k.pfx r.key && !keyLt r.key k.start && (match k.last with
        | some l => keyLt l r.key
        | none => true) then (viewOf v r).map fun x => (r, x) else none
  sel.foldr insertKey []

structure PageAcc where
  count : Nat
  body : Bytes
  last : Option Bytes
  stopped : Bool

/-- R123: entries in key order until MAX_KEYS, the end, or the space runs out. Where the entry that brings COUNT to MAX_KEYS is also the
last one, the page ends with END: the specification does not say which of the two points comes first (DESIGN CHOICE, log entry 81). -/
def fillPage (keysOnly : Bool) (maxKeys room : Nat) : List (KeyRec × Ver) → PageAcc → PageAcc
  | [], a => a
  | (r, v) :: t, a =>
    let used := a.body.length
    let bare := 12 + r.key.length
    let full := bare + v.value.length
    if maxKeys ≤ a.count then { a with stopped := true }
    else
      let omitted := keysOnly || (decide (room < used + full) && a.count = 0)
      let len := if omitted then bare else full
      if room < used + len then { a with stopped := true }
      else
        let e := beBytes 8 v.version ++ beBytes 2 r.key.length ++ beBytes 2 (if omitted then 0xFFFF else v.value.length) ++ r.key ++
          (if omitted then [] else v.value)
        fillPage keysOnly maxKeys room t { count := a.count + 1, body := a.body ++ e, last := some r.key, stopped := false }

/-- Heads a prefix admits: the lowest and the highest (R124). -/
def lowHead (p : Bytes) : Nat := beNat (padTo 16 (p.take 16))
def topHead (p : Bytes) : Nat := beNat ((p ++ List.replicate 16 0xFF).take 16)

def State.isForeign (s : State) (c : CfgSet) (e : Bytes) : Bool := !s.isLocalDev c (dirOwner e)

/-- The next member of the Pack that holds heads the prefix admits (R86, R88), for a scan at member `p`. -/
def State.scanNextMember (c : CfgSet) (k : Cursor) (p : Nat) : Option Nat :=
  if p + 1 < packN c ∧ packBound c (p + 1) ≤ k.ns * 2 ^ 128 + topHead k.pfx then some (p + 1) else none

/-- The range of another device that lies ahead of the cursor within the heads its prefix admits (R124); a follower's namespace is read
whole here (R85). -/
def State.scanAhead (s : State) (c : CfgSet) (k : Cursor) : Option Nat :=
  let from_ := headOf (k.last.getD (if k.start.isEmpty then k.pfx else k.start))
  if nsStateOf c k.ns = 3 then none else
  (dirNext c k.ns from_ fun e => s.isForeign c e && decide (lowHead k.pfx ≤ dirHead e)).bind fun e =>
    if dirHead e ≤ topHead k.pfx then some (dirHead e) else none

/-- The keys of the next page: those of ranges owned here, up to the range ahead (R124). -/
def State.pageKeys (s : State) (c : CfgSet) (k : Cursor) : List (KeyRec × Ver) :=
  let keys := s.scanKeys k (if k.snap.isSome then some k.v else none)
  let own := if nsStateOf c k.ns = 3 then keys else keys.filter fun r => s.ownedHere c k.ns (headOf r.1.key)
  match s.scanAhead c k with
  | some h => own.filter fun r => headOf r.1.key < h
  | none => own

/-- One page of a cursor (R122 to R124): its bytes, and the cursor as it stands after, none where it closed. While a range of another
device lies ahead 16 bytes are kept for NEXT_HEAD; a page without room for them shows no entry and does not end. -/
def State.scanPage (s : State) (c : CfgSet) (k : Cursor) (maxKeys room : Nat) : Bytes × Option Cursor :=
  let ahead := s.scanAhead c k
  let a0 : PageAcc := { count := 0, body := [], last := none, stopped := true }
  let a := if ahead.isSome && decide (room < 24) then a0
    else fillPage k.keysOnly maxKeys (room - 8 - (if ahead.isSome then 16 else 0)) (s.pageKeys c k) { a0 with stopped := false }
  let flags := if a.stopped then 0 else if ahead.isSome then 3 else 1
  let tail := match ahead with
    | some h => if a.stopped then [] else beBytes 16 h
    | none => []
  (beBytes 4 k.id ++ beBytes 2 a.count ++ beBytes 1 flags ++ zeros 1 ++ a.body ++ tail,
    if a.stopped then some { k with last := a.last.or k.last } else none)

/-- What reading a page's values meets (R286). -/
def State.pageRead (s : State) (c : CfgSet) (k : Cursor) (page : Bytes) : Bool × State :=
  s.readJrn (if k.keysOnly then [] else ((s.pageKeys c k).take (beAt page 4 2)).flatMap fun e => s.verDamage e.1 e.2)

/-- Does a scan without a snapshot meet a pending key ahead of it (R58)? -/
def State.scanPends (s : State) (k : Cursor) : Bool :=
  k.snap.isNone && s.ks.keys.any fun r => r.ns = k.ns && r.pend.isSome && isBeginOf k.pfx r.key && !keyLt r.key k.start &&
    (match k.last with
      | some l => keyLt l r.key
      | none => true)

/-- Close a cursor, its snapshot with it. A snapshot that stands under another position's counters is released by that position, and one
that a member's request names by the device that opened it (R202). -/
def State.closeCursor (s : State) (id : Nat) : State :=
  match s.ks.cursors.find? fun c => c.id = id with
  | none => s
  | some c =>
    let s := s.setKs { s.ks with cursors := s.ks.cursors.filter fun (y : Cursor) => y.id != id }
    match c.snap with
    | some n => if s.underLead || decide (65536 ≤ c.sess) then s else s.releaseSnap n
    | none => s

def State.newSnap (s : State) (ns v refs : Nat) : State :=
  s.setKs { s.ks with snaps := s.ks.snaps ++ [{ id := s.ks.nextSnap, ns := ns, v := v, at0 := s.now, refs := refs }], nextSnap := s.ks.nextSnap + 1 }

/-- A new snapshot at V of a namespace, where its counters are kept; it is announced (R202). -/
def State.openSnap (s : State) (ns v : Nat) : Nat × State := (s.ks.nextSnap, (s.newSnap ns v 0).snapNote ns v 0)

/-- The snapshot at V a scan reads. `here`: it is this device's own, and opened now. Otherwise position 0 has opened it; where its note
has not been heard and V is not below the known horizon, every version it needs is still kept. None: it has been released. -/
def State.useSnap (s : State) (ns v : Nat) (here : Bool) : Option (Nat × State) :=
  if here then some (s.openSnap ns v)
  else match s.ks.snaps.find? fun y => y.ns = ns && y.v = v with
    | some y => some (y.id, s)
    | none => if s.underLead && decide (s.knownHorizon ns ≤ v) then some (s.ks.nextSnap, s.newSnap ns v 0) else none

/-- A client's page of this member whose keys are exhausted goes on at the next member (R88): its cursor and the page. -/
def scanOnward (c : CfgSet) (pos : Nat) (k : Cursor) (page : Bytes) : Option (Bytes × Cursor) :=
  if byteAt page 6 ≠ 1 then none else
  (State.scanNextMember c k pos).map fun p => (patch page 6 [0], { k with far := some (p, none) })

/-- The SCAN or SCAN_NEXT that asks another member for the cursor's next page; a SCAN that goes on starts at the last key returned, which
the page then shows once more. -/
def Cursor.ask (k : Cursor) (op : OpReq) (rid : Option Nat) (snapFlag : Bool) : OpReq :=
  match rid with
  | some r => { op with opcode := 9, key := [], val := [], arg := r * 2 ^ 32 + op.arg % 65536 }
  | none => { op with opcode := 8, key := k.pfx, val := k.last.getD k.start, arg := min 1024 (op.arg % 65536 + b2n k.last.isSome),
                      flags := (op.flags &&& 0xFB) + 4 * b2n snapFlag }

/-- The first page of a scan whose snapshot, if any, is open; where member `far` holds its first key, that member is asked for it
(R87). -/
def State.scanFirst (s : State) (id : Nat) (f : Frame) (x : Session) (op : OpReq) (snap : Option Nat) (v : Nat) (far : Option Nat) (bad : Bool) : State :=
  let c := s.setOf f.epoch
  let (w, s) := s.draw
  let cid := w.toNat % 2 ^ 32
  let k : Cursor :=
    { id := cid, sess := f.owner, ns := op.ns, pfx := op.key, start := op.val, last := none, keysOnly := bit op.flags 3,
      snap := snap, v := if snap.isSome then v else 0, snapGone := false, far := none }
  match far with
  | some p =>
    let ask := k.ask op none snap.isSome
    let s := s.setKs { s.ks with cursors := s.ks.cursors ++ [{ k with far := some (p, none) }] }
    (s.sendMember id p x ask k.v).updFrame id fun f => { f with scan := some cid }
  | none =>
    let (page, k2) := s.scanPage c k (op.arg % 65536) (s.valueRoom f x)
    let (page, k2) := match k2, (if f.isClient then scanOnward c s.packPos k page else none) with
      | none, some (p2, k3) => (p2, some k3)
      | k2, _ => (page, k2)
    let (lost, s) := s.pageRead c k page
    let s := s.setKs { s.ks with cursors := s.ks.cursors ++ [k2.getD k] }
    if bad || lost then (s.closeCursor cid).opDone id (resOf op stINTERNAL 0 [] 0)
    else (if k2.isSome then s else s.closeCursor cid).opDone id (resOf op stOK k.v page 0)

/-- The scan opens: limits of R68, the snapshot at horizon `h` (R66), the first page. The limit of snapshots is counted where they are
opened (R202). -/
def State.scanOpen (s : State) (id : Nat) (f : Frame) (x : Session) (op : OpReq) (h : Nat) (far : Option Nat) (bad : Bool) : State :=
  let wantSnap := bit op.flags 2
  let here := f.isClient && !s.underLead
  if wantSnap ∧ nsFlag (s.setOf f.epoch) op.ns 3 = false then s.opDone id (resOf op stDENIED 0 [] 0)
  else if s.valueRoom f x < 8 then s.opDone id (resOf op stTOOLARGE 0 [] 0)
  else if 4096 ≤ s.ks.cursors.length ∨ (wantSnap = true ∧ here = true ∧ 1024 ≤ s.ks.snaps.length) then s.opDone id (resOf op stBUSY 0 [] 0)
  else if !wantSnap then s.scanFirst id f x op none 0 far bad
  else match s.useSnap op.ns h here with
    | some (n, s) => s.scanFirst id f x op (some n) h far bad
    | none => s.opDone id (resOf op stVERSION h [] 0)

/-- Where a scan starts (R124): a range of another device gives REDIRECT whatever DIR_PROXY says. A member scans its own part for the
member that asks it. -/
def State.scanPlace (s : State) (c : CfgSet) (x : Session) (op : OpReq) : Chk :=
  if x.pack then .pass s else
  match dirEntry c op.ns (headOf op.key) with
  | some e => if nsStateOf c op.ns ≠ 3 ∧ s.isForeign c e = true then .fail stREDIRECT (redirectVal c (dirOwner e)) s else s.placeCheck c x op false
  | none => s.placeCheck c x op false

/-- Checks of a SCAN: fields, right, namespace, rate, and where its start lies (R121, R124). -/
def State.scanChecks (s : State) (c : CfgSet) (x : Session) (op : OpReq) : Chk :=
  let n := op.arg % 65536
  let startKey := if op.val.isEmpty then op.key else op.val
  if 512 < op.key.length ∨ 512 < op.val.length ∨ n = 0 ∨ 1024 < n then .fail stMALFORMED [] s
  else if !hasRight x 2 || !nsAllowed c x op.ns then .fail stDENIED [] s
  else match s.admitOp c x (op.key.length + op.val.length) with
    | none => .fail stBUSY [] s
    | some s => s.scanPlace c x { op with key := startKey }

/-- A snapshot scan of a member other than position 0 asks it for V (R202); one that a member forwarded carries its own. -/
def State.scanStart (s : State) (id : Nat) (f : Frame) (x : Session) (op : OpReq) (far : Option Nat) (bad : Bool) : State :=
  match f.origin with
  | .member _ _ _ _ v => s.scanOpen id f x op v far bad
  | .client =>
    if bit op.flags 2 && s.underLead then
      (s.linkReq 0x07 0 (op.ns + 0x10000) [] (some id)).updFrame id fun f => { f with waits := some 3 }
    else s.scanOpen id f x op (s.nsOf op.ns).horizon far bad

/-- SCAN (R121, R124). `bad`: its data is poisoned (R43). -/
def scanOp (id : Nat) (bad : Bool) (s : State) : State :=
  match s.turn id 8 with
  | none => s
  | some (f, x, op) => match s.scanChecks (s.setOf f.epoch) x op with
    | .fail st val s => s.opDone id (resOf op st 0 val 0)
    | .proxy _ s => s
    | .search s => s
    | .member p s => s.scanStart id f x op (if f.isClient then some p else none) bad
    | .pass t =>
      let k : Cursor :=
        { id := 0, sess := f.owner, ns := op.ns, pfx := op.key, start := op.val, last := none, keysOnly := false,
          snap := if bit op.flags 2 then some 0 else none, v := 0, snapGone := false, far := none }
      if s.scanPends k then s else t.scanStart id f x op none bad

def execScan (id : Nat) (bad : Bool) (s : State) : Out := s.onSv (scanOp id bad)

/-- What a scan of a follower's namespace without FOLLOWER_READS gets: REDIRECT to the owner of the key it stands at, or DENIED (R85). -/
def State.followerRefusal (s : State) (c : CfgSet) (x : Session) (op : OpReq) : Option (Nat × Bytes) :=
  if nsStateOf c op.ns = 3 ∧ nsFlag c op.ns 1 = false then match s.placeCheck c x op false with
    | .fail st val _ => some (st, val)
    | _ => none
  else none

/-- SCAN_NEXT (R67, R121): the session's own open cursor of that namespace; otherwise VERSION_MISMATCH, with V where the
cursor's snapshot was released while it was open. An NSID that is not the cursor's gets MALFORMED: R121 states no status for it (DESIGN
CHOICE, log entry 81). A follower's namespace is scanned only with FOLLOWER_READS (R85). -/
def scanNextOp (id : Nat) (bad : Bool) (s : State) : State :=
  match s.turn id 9 with
  | none => s
  | some (f, x, op) =>
    let c := s.setOf f.epoch
    let n := op.arg % 65536
    let cid := op.arg / 2 ^ 32
    if !op.key.isEmpty || !op.val.isEmpty || n = 0 || decide (1024 < n) then s.opDone id (resOf op stMALFORMED 0 [] 0)
    else if !hasRight x 2 || !nsAllowed c x op.ns then s.opDone id (resOf op stDENIED 0 [] 0)
    else match s.admitOp c x 0 with
      | none => s.opDone id (resOf op stBUSY 0 [] 0)
      | some t => match t.ks.cursors.find? fun k => k.id = cid && k.sess = f.owner with
        | none => t.opDone id (resOf op stVERSION 0 [] 0)
        | some k =>
          if k.ns ≠ op.ns then t.opDone id (resOf op stMALFORMED 0 [] 0)
          else if k.snapGone then t.opDone id (resOf op stVERSION k.v [] 0)
          else if t.valueRoom f x < 8 then t.opDone id (resOf op stTOOLARGE 0 [] 0)
          else match t.followerRefusal c x { op with key := k.last.getD (if k.start.isEmpty then k.pfx else k.start) } with
          | some (st, val) => t.opDone id (resOf op st 0 val 0)
          | none => match k.far with
          | some (p, rid) =>
            if !t.memberUp p then t.opDone id (resOf op stRETRY 0 [] 0)
            else (t.sendMember id p x (k.ask op rid k.snap.isSome) k.v).updFrame id fun f => { f with scan := some cid }
          | none =>
            if s.scanPends k then s else
            let k := { k with keysOnly := bit op.flags 3 }
            let (page, k2) := t.scanPage c k n (t.valueRoom f x)
            let (page, k2) := match k2, (if f.isClient then scanOnward c t.packPos k page else none) with
              | none, some (p2, k3) => (p2, some k3)
              | k2, _ => (page, k2)
            let (lost, t) := t.pageRead c k page
            if bad || lost then t.opDone id (resOf op stINTERNAL 0 [] 0) else
            let t := match k2 with
              | some k2 => t.setKs { t.ks with cursors := t.ks.cursors.map fun (y : Cursor) => if y.id = cid then k2 else y }
              | none => t.closeCursor cid
            t.opDone id (resOf op stOK k.v page 0)

def execScanNext (id : Nat) (bad : Bool) (s : State) : Out := s.onSv (scanNextOp id bad)

/-- SNAPSHOT_EXPIRY (R67): 10 s after its start a snapshot is released. -/
def execSnapshotExpiry (n : Nat) (s : State) : Out := s.onSv fun s => s.releaseSnap n
/-- CURSOR_IDLE_EXPIRY (R68): 10 s without a SCAN_NEXT close a cursor. -/
def execCursorIdleExpiry (n : Nat) (s : State) : Out := s.onSv fun s => s.closeCursor n

/-! BARRIER and PING. -/

/-- Opcodes that may write: the five writes, TRICK, SEG and MIRROR_FWD. -/
def mayWrite (n : Nat) : Bool := isWriteOp n || n == 0x0B || n == 0x10 || n == 0x31

/-- A frame has no write under way, waiting for its durability point, or still to come. -/
def Frame.writesDone (g : Frame) : Bool :=
  g.w.isNone && g.writes.all (·.reached) && (g.ops.drop g.res.length).all fun o => !mayWrite o.opcode

/-- Every earlier write of the session has reached its requested durability point or failed (R125). -/
def State.barrierMet (s : State) (id : Nat) (f : Frame) : Bool :=
  f.writes.all (·.reached) && s.ft.frames.all fun (i, g) => i = id || g.sess != f.sess || decide (f.seq ≤ g.seq) || g.writesDone

def barrierOp (id : Nat) (s : State) : State :=
  match s.turn id 0x0A with
  | none => s
  | some (f, x, op) =>
    if op.key ≠ [] ∨ op.val ≠ [] then s.opDone id (resOf op stMALFORMED 0 [] 0)
    else match s.admitOp (s.setOf f.epoch) x 0 with
      | none => s.opDone id (resOf op stBUSY 0 [] 0)
      | some t => if s.barrierMet id f then t.opDone id (resOf op stOK 0 [] 0) else s

def execBarrier (id : Nat) (s : State) : Out := s.onSv (barrierOp id)

/-- PING (R128): echoes its value; ARG is the PTP wall time in ns. -/
def pingOp (id : Nat) (s : State) : State :=
  match s.turn id 0x0C with
  | none => s
  | some (f, x, op) =>
    if op.ns ≠ 0 ∨ op.key ≠ [] ∨ 7936 < op.val.length then s.opDone id (resOf op stMALFORMED 0 [] 0)
    else match s.admitOp (s.setOf f.epoch) x op.val.length with
      | none => s.opDone id (resOf op stBUSY 0 [] 0)
      | some s =>
        if s.valueRoom f x < op.val.length then s.opDone id (tooLarge op 0 op.val.length)
        else s.opDone id (resOf op stOK s.phcNs op.val 0)

def execPing (id : Nat) (s : State) : Out := s.onSv (pingOp id)

/-! Segmented values (R131 to R136). -/

def segUnits (g : Seg) : Nat := (g.total + 4095) / 4096 * 4096

/-- 4-KiB units the open transfers reserve: those of sessions, and those of members (log entry 27). -/
def State.reassemblyUsed (s : State) : Nat :=
  (s.ft.sessions.map fun x => (x.2.seg.map segUnits).getD 0).sum + (s.pack.segs.map fun e => segUnits e.2.2).sum

/-- FIRST_SEQ of a transfer that a frame opens: its SEQ, or the tag of a member's request. -/
def Frame.firstSeq (f : Frame) : Nat := match f.origin with
  | .client => f.seq
  | .member _ tag _ _ _ => tag

/-- The open transfer a frame may continue: its session's, or its member's of that FIRST_SEQ. -/
def State.segOf (s : State) (f : Frame) (x : Session) (first : Nat) : Option Seg := match f.origin with
  | .client => x.seg
  | .member pos _ _ _ _ => (s.pack.segs.find? fun e => e.1 = pos && e.2.1 = first).map (·.2.2)

def State.putSeg (s : State) (f : Frame) (first : Nat) (g : Option Seg) : State := match f.origin with
  | .client => s.updSess f.sess fun x => { x with seg := g }
  | .member pos _ _ _ _ =>
    let rest := s.pack.segs.filter fun e => !(e.1 == pos && e.2.1 == first)
    s.setPack { s.pack with segs := rest ++ (g.map fun y => (pos, first, y)).toList }

def segReply (op : OpReq) (first got : Nat) : OpRes :=
  { resOf op stOK (first * 2 ^ 32 + got) [] 0 with opcode := 0x10 }

/-- The checks of the first segment of a forwarded write (R83, R85, R139). -/
def State.segMirrorChecks (s : State) (c : CfgSet) (x : Session) (op : OpReq) : Chk :=
  if !isOperator x || nsStateOf c op.ns ≠ 3 then .fail stDENIED [] s
  else if bits op.flags 2 2 ≠ 0 ∨ keyOk op.key = false then .fail stMALFORMED [] s
  else if s.power.sit then .fail stREADONLY [] s
  else if s.flag rStState 4 then .fail stNOSPACE [] s
  else .pass s

/-- The checks of the first segment, made with TOTAL_LEN (R133). -/
def State.segChecks (s : State) (c : CfgSet) (x : Session) (op : OpReq) (total : Nat) : Chk :=
  let keyless := op.opcode = 0x0B && op.key.isEmpty
  let right := if op.opcode = 0x0B then 3 else 1
  if op.opcode = 0x31 then s.segMirrorChecks c x op
  else if (!keyless && !keyOk op.key) || bits op.flags 0 2 = 3 then .fail stMALFORMED [] s
  else if !hasRight x right || !nsAllowed c x op.ns then .fail stDENIED [] s
  else match s.admitOp c x (op.key.length + total) with
    | none => .fail stBUSY [] s
    | some s => if keyless then .pass s else s.placeCheck c x op (op.opcode != 0x0B)

/-- The quotas of the first segment (R133): an APPEND's value grows by TOTAL_LEN. -/
def State.segNoSpace (s : State) (c : CfgSet) (op : OpReq) (total : Nat) : Bool :=
  let old := if op.opcode = 6 then ((s.liveOf op.ns op.key).map (·.value.length)).getD 0 else 0
  isWriteOp op.opcode && s.noSpace c op false (old + total)

/-- A first segment that has passed its checks: its space is reserved, or it completes the value at once (R133, R135, R136). -/
def State.segOpen (s : State) (id : Nat) (f : Frame) (x : Session) (op : OpReq) (total : Nat) (data : Bytes) : State :=
  let first := f.firstSeq
  let op2 := { op with flags := op.flags &&& 0xEF, val := [] }
  let g : Seg := { first := first, op := op2, total := total, data := data }
  if (s.segOf f x first).isSome ∨ s.proto 12 4 * 1048576 < s.reassemblyUsed + segUnits g then s.opDone id (resOf op stBUSY 0 [] 0)
  else if data.length = total then s.updFrame id fun f => { f with seg := some (op2, data) }
  else (s.putSeg f first (some g)).opDone id (segReply op first data.length)

def segFirstOp (id : Nat) (s : State) : State :=
  match s.frame id with
  | none => s
  | some f => match s.frameSess f, f.op with
    | some x, some op =>
      if f.phase ≠ .executing ∨ f.waits.isSome ∨ f.seg.isSome ∨ f.w.isSome ∨ bit op.flags 4 = false ∨
        !(op.opcode = 2 || op.opcode = 4 || op.opcode = 6 || op.opcode = 0x0B || op.opcode = 0x31) then s
      else
        let c := s.setOf f.epoch
        let total := beAt op.val 0 4
        let data := op.val.drop 8
        if op.opcode = 0x31 ∧ isOperator x = false then s.opDone id (resOf op stDENIED 0 [] 0)
        else if op.val.length < 8 ∨ 7936 < op.val.length ∨ total = 0 then s.opDone id (resOf op stMALFORMED 0 [] 0)
        else if 16777216 < total then s.opDone id (resOf op stTOOLARGE 0 [] 0)
        else if total < data.length then s.opDone id (resOf op stMALFORMED 0 [] 0)
        else match s.segChecks c x op total with
          | .fail st val s => s.opDone id (resOf op st 0 val 0)
          | .pass s => if s.segNoSpace c op total then s.opDone id (resOf op stNOSPACE 0 [] 0) else s.segOpen id f x op total data
          | .proxy _ s => s.segOpen id f x op total data
          | .member _ s => s.segOpen id f x op total data
          | .search s => s.segOpen id f x op total data
    | _, _ => s

def execSegmentFirst (id : Nat) (s : State) : Out := s.onSv (segFirstOp id)

/-- An abort releases the reservation and is counted (R134). -/
def State.segAbort (s : State) (sess : Nat) : State :=
  match s.sess sess with
  | some x => if x.seg.isSome then (s.updSess sess fun x => { x with seg := none }).bump 0x10002040 else s
  | none => s

/-- A part of a value held for a member (log entry 27): the member names it by the tag of its GET and an offset. -/
def State.partRead (s : State) (id pos : Nat) (f : Frame) (x : Session) (op : OpReq) : State :=
  let first := op.arg / 2 ^ 32
  let off := op.arg % 2 ^ 32
  match s.pack.parts.find? fun e => e.1 = pos && e.2.1 = first with
  | none => s.opDone id (resOf op stMALFORMED 0 [] 0)
  | some (_, _, value) =>
    let n := min (s.valueRoom f x) (value.length - off)
    let more := decide (off + n < value.length)
    let s := if more then s else s.setPack { s.pack with parts := s.pack.parts.filter fun e => !(e.1 == pos && e.2.1 == first) }
    let r := resOf op stOK op.arg (slice value off n) 0
    s.opDone id { r with flags := r.flags ||| (if more then 0x10 else 0) }

/-- A SEG of an open transfer (R134, R135). One that meets the four conditions of R134 with more than 7,936 value bytes, which R131
forbids, fails and aborts the transfer as a breach of the four does (DESIGN CHOICE, log entry 81). -/
def State.segNext (s : State) (id : Nat) (f : Frame) (x : Session) (op : OpReq) : State :=
  let first := op.arg / 2 ^ 32
  let off := op.arg % 2 ^ 32
  match s.segOf f x first with
  | none => s.opDone id (resOf op stMALFORMED 0 [] 0)
  | some g =>
    if first ≠ g.first then s.opDone id (resOf op stMALFORMED 0 [] 0)
    else if off ≠ g.data.length ∨ op.ns ≠ 0 ∨ op.key ≠ [] ∨ 7936 < op.val.length ∨ g.total < off + op.val.length then
      ((s.putSeg f first none).bump 0x10002040).opDone id (resOf op stMALFORMED 0 [] 0)
    else
      let data := g.data ++ op.val
      if data.length = g.total then (s.putSeg f first none).updFrame id fun f => { f with seg := some (g.op, data) }
      else (s.putSeg f first (some { g with data := data })).opDone id (segReply op g.first data.length)

def segOp (id : Nat) (s : State) : State :=
  match s.turn id 0x10 with
  | none => s
  | some (f, x, op) =>
    match s.admitOp (s.setOf f.epoch) x 0 with
    | none => s.opDone id (resOf op stBUSY 0 [] 0)
    | some s => match f.origin with
      | .member pos _ _ _ _ => if op.val = [] then s.partRead id pos f x op else s.segNext id f x op
      | .client => s.segNext id f x op

def execSeg (id : Nat) (s : State) : Out := s.onSv (segOp id)

/-- SEG_TIMEOUT_EXPIRY (R134). -/
def execSegTimeoutExpiry (sess : Fin 65536) (s : State) : Out := s.onSv fun s => s.segAbort sess.val

/-! Operator-only operations (R139, Table 3-8). -/

def rCfgShadowGen : Nat := 0x10000028

/-- A shadow write: the generation rises by one (R494). -/
def State.shadowWrite (s : State) (c : CfgSet) : State :=
  (s.setCfg { s.cfg with shadow := c }).wr rCfgShadowGen ((s.rd rCfgShadowGen + 1) % 2 ^ 32)

def chunks : Nat → Nat → Bytes → List Bytes
  | 0, _, _ => []
  | k + 1, n, b => if b.isEmpty then [] else b.take n :: chunks k n (b.drop n)

/-- Entries placed in a directory; none where it would pass 65,536 (R81). -/
def placeAll (dir : List Bytes) (es : List Bytes) : Option (List Bytes) :=
  let d := es.foldl dirPlace dir
  if 65536 < d.length then none else some d

def dirUpdateOp (id : Nat) (s : State) : State :=
  match s.turn id 0x30 with
  | none => s
  | some (_, x, op) =>
    if !isOperator x then s.opDone id (resOf op stDENIED 0 [] 0)
    else if op.val.length % 32 ≠ 0 ∨ op.val = [] ∨ 7936 < op.val.length ∨ op.key ≠ [] then s.opDone id (resOf op stMALFORMED 0 [] 0)
    else if s.cfg.waiting.isSome then s
    else match placeAll s.cfg.shadow.dir (chunks 248 32 op.val) with
      | none => s.opDone id (resOf op stNOSPACE 0 [] 0)
      | some d =>
        let c := { s.cfg.shadow with dir := d }
        let c := c.put secGlobal 0 (patch (c.get secGlobal 0) 0 (leBytes 4 op.arg))
        (s.shadowWrite c).opDone id (resOf op stOK 0 [] 0)

def execDirUpdate (id : Nat) (s : State) : Out := s.onSv (dirUpdateOp id)

/-- The image form of a set (R498): a 128-byte header with the digest over bytes 64 to LENGTH - 1, then the sections. -/
def secRecords (c : CfgSet) (sec : Nat) : Nat × Bytes :=
  if sec = secDir then (c.dir.length, c.dir.flatMap fun e => cleanRec sec (e.take 24))
  else
    let n := if sec = secDevice then 20 else recSize sec
    (recCount sec, (List.range (recCount sec)).flatMap fun i => cleanRec sec ((c.get sec i).take n))

/-- The Keeper record with its unnamed bytes zero (Table 12-14). -/
def cleanKeeperRec (b : Bytes) : Bytes := (b.take 23) ++ [0] ++ slice b 24 8 ++ zeros 32

def setImage (c : CfgSet) (serial : Nat) (keeperRec : Bytes) : Bytes :=
  let body := (List.range 14).flatMap fun sec =>
    let (n, b) := secRecords c sec
    leBytes 1 sec ++ zeros 3 ++ leBytes 4 n ++ b
  let rest := cleanKeeperRec (padTo 64 keeperRec) ++ body
  leBytes 4 0xCF6A9640 ++ leBytes 4 c.epoch ++ leBytes 4 (64 + rest.length) ++ leBytes 4 serial ++ padTo 48 (Config.sha384 rest) ++ rest

/-- SERIAL of the current half: the valid one with the higher serial (R499). -/
def Cfg.serial (c : Cfg) : Nat :=
  max (if c.half0.valid then c.half0.serial else 0) (if c.half1.valid then c.half1.serial else 0)

/-- CFG_READ (R498): bytes of the active set's image, bytes 64 to 127 as zero. -/
def cfgReadOp (id : Nat) (s : State) : State :=
  match s.turn id 0x34 with
  | none => s
  | some (f, x, op) =>
    if !isOperator x then s.opDone id (resOf op stDENIED 0 [] 0)
    else if op.val ≠ [] ∨ op.key ≠ [] then s.opDone id (resOf op stMALFORMED 0 [] 0)
    else
      let img := patch (setImage s.cfg.active s.cfg.serial []) 64 (zeros 64)
      let b := (img.drop op.arg).take (min 7936 (s.valueRoom f x))
      s.opDone id (resOf op stOK 0 b 0)

def execCfgRead (id : Nat) (s : State) : Out := s.onSv (cfgReadOp id)

/-! Mirroring: the follower's side (R83, R85) and the primary's (R83). -/

/-- A forwarded write applied with the version the primary assigned, at soft durability. -/
def State.applyAt (s : State) (ns : Nat) (k : Bytes) (tomb : Bool) (value : Bytes) (v : Nat) : State :=
  let bypass := s.wouldBypass ns k
  let (j, s) := s.jrnAdd (mkRec (if tomb then 2 else 1) ns k v value 0 bypass true true)
  let (_, s) := s.pendKey ns k 0
  s.showWrite ns k tomb value v j

def State.followTo (s : State) (ns v : Nat) : State :=
  let n := s.nsOf ns
  s.setNs ns { n with counter := max n.counter v, applied := max n.applied v }

/-- A MIRROR_FWD's fields: what each kind carries (Table 3-8), no more than 7,936 value bytes in one operation (R131). -/
def mirrorFieldsOk (kind : Nat) (whole : Bool) (op : OpReq) : Bool :=
  !((2 ≤ kind && op.key != []) || (1 ≤ kind && op.val != []) || (decide (kind < 2) && !keyOk op.key) || (!whole && decide (7936 < op.val.length)))

/-- The result of a MIRROR_FWD: ARG names the highest version applied without a gap. -/
def State.mirrorDone (s : State) (id : Nat) (op : OpReq) : State := s.opDone id (resOf op stOK (s.nsOf op.ns).applied [] 0)

/-- A forwarded write takes effect here: a value or tombstone, once its journal space is free. -/
def State.mirrorApply (s : State) (id kind : Nat) (op : OpReq) : State :=
  if s.flag rStState 4 && kind = 0 then s.opDone id (resOf op stNOSPACE 0 [] 0)
  else if s.reserveOk (recLines op.key.length op.val.length) = false then s
  else ((s.applyAt op.ns op.key (kind == 1) op.val op.arg).followTo op.ns op.arg).mirrorDone id op

/-- A MIRROR_FWD where the namespace's counters are kept: versions in order, each at the member that holds its key (log entry 86). A
version above the next one waits for the one before it. -/
def State.mirrorInOrder (s : State) (id kind : Nat) (f : Frame) (x : Session) (op : OpReq) : State :=
  let c := s.setOf f.epoch
  let ap := (s.nsOf op.ns).applied
  let holder := packHolder c op.ns (headOf op.key)
  if op.arg ≤ ap then s.mirrorDone id op
  else if kind = 3 then (s.followTo op.ns op.arg).mirrorDone id op
  else if op.arg ≠ ap + 1 then s
  else if kind = 2 then (((s.jrnAdd (mkRec 3 op.ns [] op.arg [] 0 false true true)).2).followTo op.ns op.arg).mirrorDone id op
  else if packN c < 2 ∨ holder = s.packPos then s.mirrorApply id kind op
  else if s.memberUp holder then s.sendMember id holder x op 0
  else s.opDone id (resOf op stRETRY 0 [] 0)

/-- A MIRROR_FWD of `kind` (R83, R85): applied in version order; its ARG answers with the highest version applied without a gap. In a
Pack it goes by way of position 0, which sends it on to the member that holds its key (log entry 86). -/
def mirrorFwdOp (kind id : Nat) (s : State) : State :=
  match s.turn id 0x31 with
  | none => s
  | some (f, x, op) =>
    if bits op.flags 2 2 ≠ kind then s
    else if !isOperator x || nsStateOf (s.setOf f.epoch) op.ns ≠ 3 then s.opDone id (resOf op stDENIED 0 [] 0)
    else if !mirrorFieldsOk kind f.seg.isSome op then s.opDone id (resOf op stMALFORMED 0 [] 0)
    else if s.power.sit then s.opDone id (resOf op stREADONLY 0 [] 0)
    else if !s.underLead then s.mirrorInOrder id kind f x op
    else if !f.isClient then s.mirrorApply id kind op
    else if s.memberUp 0 then s.sendMember id 0 x op 0
    else s.opDone id (resOf op stRETRY 0 [] 0)

def execMirrorFwdValue (id : Nat) (s : State) : Out := s.onSv (mirrorFwdOp 0 id)
def execMirrorFwdTombstone (id : Nat) (s : State) : Out := s.onSv (mirrorFwdOp 1 id)
def execMirrorFwdBurnt (id : Nat) (s : State) : Out := s.onSv (mirrorFwdOp 2 id)
def execMirrorFwdSkip (id : Nat) (s : State) : Out := s.onSv (mirrorFwdOp 3 id)

def State.reachWrites (s : State) (p : WDone → Bool) : State :=
  let upd := fun (f : Frame) => { f with writes := f.writes.map fun d => if p d then { d with reached := true } else d }
  s.setFt { s.ft with frames := s.ft.frames.map fun e => (e.1, upd e.2) }

/-- MIRROR_ACK (R83): a follower names the highest version it has applied without a gap. -/
def execMirrorAck (ns : BitVec 12) (follower : BitVec 14) (v : DWord) (s : State) : Out :=
  s.onSv fun s =>
    let upd := fun (m : Mirror) => if m.ns = ns.toNat ∧ m.follower = follower.toNat then
        { m with acked := max m.acked v.toNat, backlog := m.backlog.filter fun b => v.toNat < b.1 } else m
    let s := s.setKs { s.ks with mirrors := s.ks.mirrors.map upd }
    s.reachWrites fun d => d.cls = 2 && d.ns = ns.toNat && s.mirrorsReached d.ns d.version

/-- MIRROR_TIMEOUT_EXPIRY (R83): the write is acknowledged with achieved class soft. -/
def execMirrorTimeoutExpiry (id idx : Nat) (s : State) : Out :=
  s.onSv fun s => match s.frame id with
    | none => s
    | some f =>
      if f.writes.any fun d => d.idx = idx && d.cls = 2 && !d.reached then
        let ws := f.writes.map fun d => if d.idx = idx ∧ d.cls = 2 ∧ d.reached = false then { d with cls := 0, reached := true } else d
        let rs := f.res.zipIdx.map fun (r, i) => if i = idx then { r with flags := r.flags &&& 0xFC } else r
        s.setFrame id { f with writes := ws, res := rs }
      else s

/-- A result that came from elsewhere, in the client's frame: what does not fit is TOO_LARGE, or a lone GET's segmented form (R130,
R137). -/
def State.relayResult (s : State) (id : Nat) (f : Frame) (x : Session) (op : OpReq) (r : OpRes) : State :=
  if op.opcode = 1 ∧ r.status = stOK then s.answerGet id f x op r.arg r.val
  else if s.valueRoom f x < r.val.length then s.opDone id (tooLarge op r.arg r.val.length)
  else s.opDone id r

/-- PROXY_RESPONSE (R82): the owner's response is relayed in the client's session. -/
def execProxyResponse (id : Nat) (status : Byte) (cls : BitVec 2) (arg : DWord) (val : Bytes) (s : State) : Out :=
  s.onSv fun s => match s.frame id with
    | none => s
    | some f =>
      if f.waits ≠ some 1 then s else
      let s := s.setKs { s.ks with proxied := s.ks.proxied.erase id }
      match f.op, s.frameSess f with
      | some op, some x => s.relayResult id f x op (resOf op status.toNat arg.toNat val cls.toNat)
      | _, _ => s

/-- A PACK_FWD that arrives on a network port fails with MALFORMED (R140), on a tenant session too, where R139 says DENIED: the
specification gives both (DESIGN CHOICE, log entry 81). -/
def packFwdOp (id : Nat) (s : State) : State :=
  match s.turn id 0x32 with
  | none => s
  | some (f, _, op) => if f.isClient then s.opDone id (resOf op stMALFORMED 0 [] 0) else s

def execPackFwd (id : Nat) (s : State) : Out := s.onSv (packFwdOp id)

end Sys2Proof.Machine
end

