-- ==== Sys2Proof/Machine/Cipher.lean ====
section
/-! DEFINITION. The key store (R424 to R434), session contexts (R430, R431), closing a session (R113, R114), and the
cipher lanes' jobs (R421 to R423, R435 to R441). -/
namespace Sys2Proof.Machine

def rCphCtl : Nat := 0x10700000
def rCphStatus : Nat := 0x10700004
def rCphPool : Nat := 0x10700018
def rRngStatus : Nat := 0x10700030

/-! Slots. -/

def State.slot (s : State) (n : Nat) : Slot := (mget s.cph.slots n).getD Slot.empty
def State.setSlot (s : State) (n : Nat) (x : Slot) : State := s.setCph { s.cph with slots := mset s.cph.slots n x }
def State.collar (s : State) (c : Nat) : Collar := (mget s.cph.collars c).getD Collar.empty
def State.setCollar (s : State) (c : Nat) (x : Collar) : State := s.setCph { s.cph with collars := mset s.cph.collars c x }

/-- Key bytes of a slot TYPE (Table 10-5). -/
def keyLen (typ : Nat) : Nat := if typ = 1 ∨ typ = 6 then 16 else 32

/-- KEYGRANT's owner of a slot: 0x3FF for none (Table 12-10). -/
def State.ownerOf (s : State) (n : Nat) : Nat := bits (leAt (s.cfg.active.get secKeygrant n) 0 2) 0 10

/-- R428: the active storage record names the slot, or the slot before it with XTS-256. -/
def State.lockedSlot (s : State) (n : Nat) : Bool :=
  let x := s.storageRec 23 1
  let k := s.storageRec 24 2
  x != 0 && (n == k || (x == 2 && n == k + 1))

/-- Is slot `n` in the context pool (R430)? -/
def State.inPool (s : State) (n : Nat) : Bool :=
  let f := s.fld rCphPool 11 0
  decide (f ≤ n) && decide (n < f + s.fld rCphPool 28 16)

/-- CPH_SLOT_INFO [12:8] of a slot. -/
def State.slotFlags (s : State) (n : Nat) : Nat :=
  let x := s.slot n
  b2n x.shadow.isSome + 2 * b2n x.next.isSome + 4 * b2n (s.lockedSlot n) + 8 * b2n x.erasing + 16 * b2n x.pinned

/-- Zeroise a slot, its last generation kept (R427). -/
def Slot.zeroise (x : Slot) : Slot := { Slot.empty with gen := x.gen }

/-- R426: SHADOW goes once no job holds it and no grace time runs. -/
def Slot.releaseShadow (x : Slot) : Slot :=
  if x.inflightSh = 0 ∧ x.grace = false then { x with shadow := none, sealsSh := 0 } else x

/-! Context records (R430). -/

def State.ctxAddr (s : State) (sid : Nat) : Nat := s.c64 0x10700010 + 128 * sid

/-- The 80 bytes of a session's record: CUR, its salt, GEN, NEXT, its salt, flags ([0] NEXT valid). -/
def ctxPlain (cur : KMat) (gen : Nat) (next : Option KMat) : Bytes :=
  let n := next.getD { key := [], salt := [] }
  padTo 32 cur.key ++ padTo 4 cur.salt ++ leBytes 4 gen ++ padTo 32 n.key ++ padTo 4 n.salt ++ leBytes 4 (b2n next.isSome)

/-- Wrap a session's material out to its record. -/
def State.saveCtx (s : State) (sid : Nat) (cur : KMat) (gen : Nat) (next : Option KMat) : State :=
  let b := padTo 88 (Config.kwWrap s.cph.kek (ctxPlain cur gen next)) ++ zeros 40
  s.dramWr (s.ctxAddr sid) b

/-- Unwrap a session's record; the key is cut to the session's cipher. -/
def State.loadCtx (s : State) (sid cipher : Nat) : Option (KMat × Nat × Option KMat) :=
  let n := if cipher = 1 then 16 else 32
  match Config.kwUnwrap s.cph.kek (s.dramRd (s.ctxAddr sid) 88) with
  | none => none
  | some b =>
    let next : KMat := { key := (slice b 40 32).take n, salt := slice b 72 4 }
    some ({ key := (b.take 32).take n, salt := slice b 32 4 }, leAt b 36 4, if bit (byteAt b 76) 0 then some next else none)

/-- A session's material in force and its generation, wherever it lies. -/
def State.sessKey (s : State) (sid : Nat) (x : Session) : Option (KMat × Nat) :=
  match x.slot with
  | some n => (s.slot n).cur.map fun k => (k, (s.slot n).gen)
  | none => (s.loadCtx sid x.cipher).map fun (k, g, _) => (k, g)

/-! Closing a session. -/

/-- The session leaves the table: its transfer, cursors, snapshots, replay records and pool slot with it (R113), and an
update claim it holds (R534). -/
def State.dropSession (s : State) (sid : Nat) : State :=
  match s.sess sid with
  | none => s
  | some x =>
    let s := s.segAbort sid
    let s := match s.upd.claim with
      | some c => if c.holder = 2 ∧ c.session = sid then s.setUpd { s.upd with claim := none } else s
      | none => s
    let s := (s.ks.cursors.filter fun (k : Cursor) => k.sess = sid).foldl (fun s k => s.closeCursor k.id) s
    let s := s.setFt { s.ft with sessions := mdel s.ft.sessions sid, replays := s.ft.replays.filter fun (r : Replay) => r.sess != sid }
    match x.slot with
    | some n =>
      let k := s.slot n
      if x.pinned then s.setSlot n { k with sess := none }
      else if k.inflight = 0 ∧ k.inflightSh = 0 then s.setSlot n k.zeroise
      else s.setSlot n { k with sess := none, erasing := true }
    | none => s

def State.framesOf (s : State) (sid : Nat) : List (Nat × Frame) := s.ft.frames.filter fun e => e.2.sess = sid

/-- A closing session goes once no frame of it remains. -/
def State.reap (s : State) (sid : Nat) : State :=
  match s.sess sid with
  | some x => if x.closing ∧ (s.framesOf sid).isEmpty = true then s.dropSession sid else s
  | none => s

/-- Remove a frame from the device; a closing session may go with its last one. -/
def State.removeFrame (s : State) (id : Nat) : State :=
  match s.frame id with
  | none => s
  | some f =>
    let s := s.setDisp { s.disp with waiting := s.disp.waiting.filter fun (d : DMsg) => d.frame != some id }
    (s.setFt { s.ft with frames := mdel s.ft.frames id }).reap f.sess

/-- Has the frame begun to execute? -/
def Frame.begun (f : Frame) : Bool := match f.phase with
  | .executing => true
  | _ => false

/-- Close at once (R114): nothing more is sent; frames not yet executing go, executing ones end without a response. -/
def State.closeNow (s : State) (sid : Nat) : State :=
  match s.sess sid with
  | none => s
  | some _ =>
    let s := s.updSess sid fun x => { x with closing := true, gone := true }
    let s := ((s.framesOf sid).filter fun e => !e.2.begun).foldl (fun s e => s.removeFrame e.1) s
    s.reap sid

/-- Close after the earlier frames' responses (R113). -/
def State.closeAfter (s : State) (sid : Nat) : State := (s.updSess sid fun x => { x with closing := true }).reap sid

/-! Restores (R431). -/

/-- A pool slot for a restore: a free one, else the least recently used with no job in flight and no SHADOW. -/
def State.pickSlot (s : State) : Option Nat :=
  let f := s.fld rCphPool 11 0
  let pool := (List.range (s.fld rCphPool 28 16)).map (f + ·)
  let busy := fun (n : Nat) => s.cph.restores.any fun r => r.2 = n
  match pool.find? fun n => (s.slot n).typ = 0 && !busy n with
  | some n => some n
  | none =>
    let ok := pool.filter fun n => !busy n && (s.slot n).inflight = 0 && (s.slot n).shadow.isNone && !(s.slot n).erasing && !s.lockedSlot n
    ok.foldl (fun best n => match best with
      | none => some n
      | some b => if (s.slot n).used < (s.slot b).used then some n else some b) none

/-- Wrap out what a pool slot holds and empty it. -/
def State.evict (s : State) (n : Nat) : State :=
  let x := s.slot n
  match x.cur, x.sess with
  | some k, some sid =>
    let s := s.saveCtx sid k x.gen x.next
    ((s.updSess sid fun y => { y with slot := none }).setSlot n x.zeroise).bump 0x10700130
  | _, _ => if x.typ = 0 then s else s.setSlot n x.zeroise

/-- Sessions with a frame in the restore queue and no restore yet start one, at most 8 at once. -/
def startRestores : List RestWait → State → State
  | [], s => s
  | w :: t, s =>
    if 8 ≤ s.cph.restores.length ∨ (s.cph.restores.any fun r => r.1 = w.sess) = true ∨ s.flag rCphCtl 3 = false then startRestores t s
    else match s.pickSlot with
      | none => s
      | some n =>
        let s := s.evict n
        startRestores t (s.setCph { s.cph with restores := s.cph.restores ++ [(w.sess, n)] })

def State.restoreNext (s : State) : State := startRestores s.cph.queue s

/-- After a slot's counts change: SHADOW released, an ERASING slot zeroised with its session (R114, R425, R426). -/
def State.settleSlot (s : State) (n : Nat) : State :=
  let x := (s.slot n).releaseShadow
  if x.erasing ∧ x.inflight = 0 ∧ x.inflightSh = 0 then
    let s := s.setSlot n x.zeroise
    let s := match x.sess with
      | some sid => (s.updSess sid fun y => { y with slot := none }).closeNow sid
      | none => s
    s.restoreNext
  else (s.setSlot n x).restoreNext

/-! Key-store operations (Table 10-6). -/

/-- KEY_RESULT statuses (Table 12-7). -/
def ksOK : Nat := 0
def ksBUSY : Nat := 1
def ksLOCKED : Nat := 2
def ksTYPE : Nat := 3
def ksUNWRAP : Nat := 4
def ksGEN : Nat := 5
def ksRANGE : Nat := 6
def ksLIMIT : Nat := 7
def ksEXISTS : Nat := 8
def ksABSENT : Nat := 9
def ksNOTENANT : Nat := 10

def keyResult (status n gen inf infSh typ flags owner : Nat) : Bytes :=
  leBytes 1 status ++ [0] ++ leBytes 2 n ++ leBytes 4 gen ++ leBytes 4 inf ++ leBytes 4 infSh ++ leBytes 1 typ ++ leBytes 1 flags ++ leBytes 2 owner

/-- The answer that describes a slot. -/
def State.slotReply (s : State) (tag status n : Nat) : State :=
  let x := s.slot n
  s.toKeeper 0x19 true tag (keyResult status n x.gen x.inflight x.inflightSh x.typ (s.slotFlags n) (s.ownerOf n))

/-- The answer that describes a collar page. -/
def State.collarReply (s : State) (tag status c : Nat) : State :=
  let x := (s.collar c).page
  s.toKeeper 0x19 true tag (keyResult status c x.gen x.inflight x.inflightSh x.typ
    (b2n x.shadow.isSome + 8 * b2n x.erasing) (s.collar c).tenant)

/-- The answer that names a session: its slot, its context record, or no material (a plaintext session's GEN is free). -/
def State.sessReply (s : State) (tag status sid : Nat) : State :=
  match s.sess sid with
  | none => s.toKeeper 0x19 true tag (keyResult status sid 0 0 0 0 0 0x3FF)
  | some x =>
    if x.cipher = 0 then
      let (g, s) := s.draw
      s.toKeeper 0x19 true tag (keyResult status sid (g.toNat % 4294967296) 0 0 0 0 0x3FF)
    else match x.slot with
      | some n =>
        let y := s.slot n
        s.toKeeper 0x19 true tag (keyResult status sid y.gen y.inflight y.inflightSh y.typ (s.slotFlags n) (s.ownerOf n))
      | none => s.toKeeper 0x19 true tag (keyResult status sid (((s.sessKey sid x).map (·.2)).getD 0) 0 0 x.cipher 0 0x3FF)

/-- Material of TYPE `typ` as it arrives: plain, or wrapped under a KEK slot. -/
def State.material (s : State) (typ : Nat) (wrapped : Bool) (kek : Nat) (b : Bytes) : Option Bytes :=
  if wrapped then
    let k := s.slot kek
    match k.cur with
    | some m => if (k.typ = 6 ∨ k.typ = 7) ∧ k.erasing = false then
        (Config.kwUnwrap m.key (b.take (keyLen typ + 8))).map (padTo (keyLen typ)) else none
    | none => none
  else some (b.take (keyLen typ))

/-- New material in a slot or page: first fill, or CUR to SHADOW (R425). -/
def Slot.fill (x : Slot) (typ : Nat) (m : KMat) : Slot :=
  if x.typ = 0 then { Slot.empty with typ := typ, gen := x.gen + 1, cur := some m }
  else
    ({ x with shadow := x.cur.map fun k => (k, x.gen), cur := some m, gen := x.gen + 1, grace := false, inflightSh := x.inflight,
              inflight := 0, sealsSh := x.seals, seals := 0 }).releaseShadow

/-- KEY_WRITE's checks, in an order the log names. -/
def State.keyWriteCheck (s : State) (n typ form kek : Nat) (b : Bytes) : Nat × Bytes :=
  let x := s.slot n
  if s.lockedSlot n then (ksLOCKED, [])
  else if 1 < form ∨ typ = 0 ∨ 9 ≤ typ ∨ s.inPool n = true then (ksRANGE, [])
  else if (x.typ ≠ 0 ∧ x.typ ≠ typ) ∨ (typ = 4 ∧ n % 2 = 1) then (ksTYPE, [])
  else if x.shadow.isSome ∨ x.erasing = true then (ksBUSY, [])
  else if x.gen = 0xFFFFFFFF then (ksGEN, [])
  else if typ = 8 then (ksOK, b)
  else match s.material typ (form == 1) kek b with
    | none => (ksUNWRAP, [])
    | some k => (ksOK, k)

/-- KEY_WRITE (R425 to R428). -/
def keyWrite (s : State) : State :=
  match s.takeS 0x12 with
  | none => s
  | some (m, s) =>
    let n := bits (leAt m.data 0 2) 0 12
    let typ := byteAt m.data 2
    let (st, k) := s.keyWriteCheck n typ (byteAt m.data 3) (bits (leAt m.data 4 2) 0 12) (m.data.drop 16)
    let x := s.slot n
    let s :=
      if st ≠ ksOK then s
      else if typ = 8 then s.setSlot n { x with typ := 8, collar := byteAt k 0 % 16, gen := x.gen + 1 }
      else s.setSlot n (x.fill typ { key := k, salt := slice m.data 8 4 })
    s.slotReply m.tag st n

/-- KEY_STAGE: NEXT of a session (R111, R425). -/
def keyStage (s : State) : State :=
  match s.takeS 0x13 with
  | none => s
  | some (m, s) =>
    let sid := leAt m.data 0 2
    let typ := byteAt m.data 2
    let form := byteAt m.data 3
    match s.sess sid with
    | none => s.sessReply m.tag ksABSENT sid
    | some x =>
      if x.closing then s.sessReply m.tag ksABSENT sid
      else if 1 < form then s.sessReply m.tag ksRANGE sid
      else if x.cipher = 0 ∨ typ ≠ x.cipher then s.sessReply m.tag ksTYPE sid
      else match s.material typ (form == 1) (bits (leAt m.data 4 2) 0 12) (m.data.drop 16) with
        | none => s.sessReply m.tag ksUNWRAP sid
        | some k =>
          let nx : KMat := { key := k, salt := slice m.data 8 4 }
          match x.slot with
          | some n => (s.setSlot n { s.slot n with next := some nx }).sessReply m.tag ksOK sid
          | none => match s.loadCtx sid x.cipher with
            | some (c, g, _) => (s.saveCtx sid c g (some nx)).sessReply m.tag ksOK sid
            | none => s.sessReply m.tag ksUNWRAP sid

/-- KEY_ERASE: ERASING, and the zeroise once nothing is in flight (R114, R425). -/
def keyErase (s : State) : State :=
  match s.takeS 0x14 with
  | none => s
  | some (m, s) =>
    let n := bits (leAt m.data 0 2) 0 12
    if s.lockedSlot n then s.slotReply m.tag ksLOCKED n
    else
      let s := if (s.slot n).typ = 0 then s else (s.setSlot n { s.slot n with erasing := true }).settleSlot n
      s.slotReply m.tag ksOK n

/-- Is the job bound to slot or page `n` (a page as 4,096 + collar), through a TYPE 8 slot `n`, or, with XTS-256, to the pair whose second slot
is `n` (R428)? -/
def State.boundTo (s : State) (n : Nat) (j : CJob) : Bool := match j.bound with
  | some b =>
    let h := b / 2 ^ 32
    h == n || (decide (n < 4096) && (((s.slot n).typ == 8 && bits (leAt j.desc 2 2) 0 12 == n) ||
      ((s.slot n).typ == 5 && h + 1 == n && (s.slot h).typ == 4)))
  | none => false

/-- Every job bound to the slot or page ends with KEY_REVOKED at its next block, a suspended one
at once (R425, R438). -/
def revokeJobs (n : Nat) : List CJob → State → State
  | [], s => s
  | j :: t, s =>
    let hit := s.boundTo n j
    if hit && j.state == .suspended then
      let s := s.setCph { s.cph with jobs := s.cph.jobs.filter fun (x : CJob) => x.id != j.id }
      revokeJobs n t (((s.jobDone j.thread j.ticket 2 0).bump 0x10700100).bump 0x10700118)
    else if hit then
      let mark := fun (x : CJob) => if x.id = j.id then { x with gone := true } else x
      revokeJobs n t (s.setCph { s.cph with jobs := s.cph.jobs.map mark })
    else revokeJobs n t s

/-- What a session's erase leaves of its frames in the ports: those that have not begun to leave are discarded, one already leaving ends with an
inverted FCS (R114, R433). -/
def Port.cut (x : Port) (sid : Nat) : Port :=
  { x with txq := x.txq.filter fun (f : TxFrame) => f.sess != some sid,
           sending := x.sending.map fun (f : TxFrame) => if f.sess = some sid then { f with bad := true } else f }

def State.cutFrames (s : State) (sid : Nat) : State :=
  let s := s.setPort 0 ((s.port 0).cut sid)
  s.setPort 1 ((s.port 1).cut sid)

/-- KEY_ERASE_NOW of slot `n`: every copy goes, and a session that used it closes at once (R114, R433). -/
def State.eraseNow (s : State) (n : Nat) : State :=
  let x := s.slot n
  let s := revokeJobs n s.cph.jobs s
  let s := s.setSlot n x.zeroise
  let s := match x.sess with
    | some sid => ((s.updSess sid fun y => { y with slot := none }).cutFrames sid).closeNow sid
    | none => s
  s.restoreNext

def keyQuery (s : State) : State :=
  match s.takeS 0x16 with
  | none => s
  | some (m, s) => s.slotReply m.tag ksOK (bits (leAt m.data 0 2) 0 12)

/-- COLLAR_WRITE (R434): GCM material only. -/
def collarWrite (s : State) : State :=
  match s.takeS 0x17 with
  | none => s
  | some (m, s) =>
    let c := leAt m.data 0 2 % 16
    let typ := byteAt m.data 2
    let form := byteAt m.data 3
    let x := (s.collar c).page
    if 1 < form ∨ typ = 0 ∨ 9 ≤ typ then s.collarReply m.tag ksRANGE c
    else if (typ ≠ 1 ∧ typ ≠ 2) ∨ (x.typ ≠ 0 ∧ x.typ ≠ typ) then s.collarReply m.tag ksTYPE c
    else if x.shadow.isSome then s.collarReply m.tag ksBUSY c
    else if x.gen = 0xFFFFFFFF then s.collarReply m.tag ksGEN c
    else match s.material typ (form == 1) (bits (leAt m.data 4 2) 0 12) (m.data.drop 16) with
      | none => s.collarReply m.tag ksUNWRAP c
      | some k =>
        let page := x.fill typ { key := k, salt := slice m.data 8 4 }
        (s.setCollar c { tenant := bits (leAt m.data 6 2) 0 10, page := page }).collarReply m.tag ksOK c

def collarEraseNow (s : State) : State :=
  match s.takeS 0x18 with
  | none => s
  | some (m, s) =>
    let c := byteAt m.data 0 % 16
    let x := s.collar c
    let s := revokeJobs (4096 + c) s.cph.jobs s
    (s.setCollar c { x with page := x.page.zeroise }).collarReply m.tag ksOK c

/-- DRBG_RESEED (R440, R441): a reseed is due. `ok`: a good conditioned output was obtained; `rct`, `apt`: outputs discarded
because that test failed. The first one makes the DRBG ready. -/
def drbgReseed (ok : Bool) (rct apt : Nat) (s : State) : State :=
  let due := !s.flag rRngStatus 0 || decide (1048576 ≤ s.cph.drbgReqs) || decide (s.cph.drbgAt + 1500000000 ≤ s.now)
  if !s.flag rCphCtl 2 || s.flag rRngStatus 1 || !due then s
  else
    let s := s.bump 0x10700148 (rct + apt)
    let s := (s.setFlag rRngStatus 2 (rct != 0)).setFlag rRngStatus 3 (apt != 0)
    if ok then (s.setFlag rRngStatus 0 true).setCph { s.cph with drbgReqs := 0, drbgAt := s.now }
    else
      let s := ((s.setFlag rRngStatus 1 true).setFlag rCphStatus 16 true).svEvent 0x0600 0x16 (zeros 16)
      if s.power.base = .boot ∨ s.power.base = .heel then
        s.setBrace { s.brace with codes := if s.brace.codes.contains 4 then s.brace.codes else s.brace.codes ++ [4] }
      else s

/-! Cipher jobs. -/

def CJob.op (j : CJob) : Nat := byteAt j.desc 0
def CJob.urgent (j : CJob) : Bool := bit (byteAt j.desc 1) 0
def CJob.keysel (j : CJob) : Nat := bits (leAt j.desc 2 2) 0 12
def CJob.src (j : CJob) : Nat := leAt j.desc 8 8
def CJob.dst (j : CJob) : Nat := leAt j.desc 16 8
def CJob.len (j : CJob) : Nat := leAt j.desc 24 4
def CJob.aad (j : CJob) : Nat := if j.op = 1 ∨ j.op = 2 then leAt j.desc 28 2 else 0
def CJob.lane (j : CJob) : Nat := j.svc.getD (j.thread / 32)

/-- CJOB by a thread (R228, R421): the descriptor is read at issue and the job queued at the team's lane. -/
def execCjob (t : Fin 256) (rd rs1 : Fin 32) (s : State) : Out :=
  startJob t rd rs1 0x39 64 (fun _ => false) (fun s i b =>
    let j : CJob :=
      { id := s.cph.nextJob, thread := t, ticket := i, desc := b, state := .queued, bound := none, gone := false, svc := none }
    s.setCph { s.cph with jobs := s.cph.jobs ++ [j], nextJob := s.cph.nextJob + 1 }) s

/-- CJOB whose descriptor names OP `n`, or a reserved OP, whose job ends with FAULT (Table 10-4). With another operation's OP
the command is that operation's and this one has no effect. -/
def cjobOf (n : Nat) (t : Fin 256) (rd rs1 : Fin 32) (s : State) : Out :=
  match execCjob t rd rs1 s with
  | .next s2 =>
    if s2.cph.nextJob = s.cph.nextJob then .next s2
    else match s2.cph.jobs.getLast? with
      | some j => if j.op = n ∨ j.op = 0 ∨ 10 ≤ j.op then .next s2 else .next s
      | none => .next s2
  | o => o

def execGcmEnc (t : Fin 256) (rd rs1 : Fin 32) (s : State) : Out := cjobOf 1 t rd rs1 s
def execGcmDec (t : Fin 256) (rd rs1 : Fin 32) (s : State) : Out := cjobOf 2 t rd rs1 s
def execXtsEnc (t : Fin 256) (rd rs1 : Fin 32) (s : State) : Out := cjobOf 3 t rd rs1 s
def execXtsDec (t : Fin 256) (rd rs1 : Fin 32) (s : State) : Out := cjobOf 4 t rd rs1 s
def execKwWrap (t : Fin 256) (rd rs1 : Fin 32) (s : State) : Out := cjobOf 5 t rd rs1 s
def execKwUnwrap (t : Fin 256) (rd rs1 : Fin 32) (s : State) : Out := cjobOf 6 t rd rs1 s
def execSha384 (t : Fin 256) (rd rs1 : Fin 32) (s : State) : Out := cjobOf 7 t rd rs1 s
def execSeal (t : Fin 256) (rd rs1 : Fin 32) (s : State) : Out := cjobOf 8 t rd rs1 s
def execUnseal (t : Fin 256) (rd rs1 : Fin 32) (s : State) : Out := cjobOf 9 t rd rs1 s

/-- Bytes read at SRC and written at DST (Table 10-4). -/
def CJob.nIn (j : CJob) : Nat := j.aad + j.len + (if j.op = 2 then 16 else 0)
def CJob.nOut (j : CJob) : Nat :=
  if j.op = 1 then j.len + 16 else if j.op = 5 then j.len + 8 else if j.op = 6 then j.len - 8 else if j.op = 7 then 48
  else if j.op = 8 then j.len + 28 else if j.op = 9 then j.len - 28 else j.len

/-- LENGTH as Table 10-4 and R417 allow it. -/
def CJob.lenOk (j : CJob) : Bool :=
  let n := j.len
  if j.op = 1 ∨ j.op = 2 then decide (j.aad ≤ 1024) && decide (n ≤ 16777244)
  else if j.op = 3 ∨ j.op = 4 then n % 4608 == 0
  else if j.op = 5 then decide (16 ≤ n) && decide (n ≤ 4096) && n % 8 == 0
  else if j.op = 6 then decide (24 ≤ n) && decide (n ≤ 4104) && n % 8 == 0
  else if j.op = 8 then decide (n ≤ 16777216)
  else if j.op = 9 then decide (28 ≤ n) && decide (n ≤ 16777244)
  else j.op == 7

/-- R421: spaces, alignment, range, NOKEY. -/
def State.cjobValid (s : State) (j : CJob) : Bool :=
  let ss := j.src / 2 ^ 60; let ds := j.dst / 2 ^ 60
  let sa := j.src % 2 ^ 40; let da := j.dst % 2 ^ 40
  let nokey := bit (leAt j.desc 2 2) 15
  let srcOk := decide (ss ≤ 4) && (ss == 0 || ss == 4 || sa % 64 == 0) && s.spaceOk ss sa j.nIn false
  let dstOk := decide (ds ≤ 3) && (ds == 0 || da % 64 == 0) && s.spaceOk ds da j.nOut true
  if j.svc.isSome then j.lenOk else j.lenOk && (nokey == (j.op == 7)) && srcOk && dstOk

/-- The slot TYPE an operation takes. -/
def typeFits (op typ : Nat) : Bool :=
  if op = 3 ∨ op = 4 then typ = 3 || typ = 4 else if op = 5 ∨ op = 6 then typ = 6 || typ = 7 else typ = 1 || typ = 2

/-- A job ends with a completion RESULT of REASON and bytes (R423). -/
def State.cjobEnd (s : State) (j : CJob) (status reason n : Nat) : State :=
  let s := s.setCph { s.cph with jobs := s.cph.jobs.filter fun (x : CJob) => x.id != j.id }
  let s := (s.bump 0x10700100).bump 0x10700108 n
  let s := if status = 2 then s.bump 0x10700118 else if status = 4 ∧ reason = 1 then s.bump 0x10700110 else s
  s.jobDone j.thread j.ticket status (reason * 2 ^ 28 + n)

/-- The slot or page a job's key lies in: its number as `revokeJobs` counts, and it. -/
def State.keyHome (s : State) (j : CJob) : Nat × Slot :=
  let x := s.slot j.keysel
  if x.typ = 8 then (4096 + x.collar, (s.collar x.collar).page) else (j.keysel, x)

def State.setHome (s : State) (h : Nat) (x : Slot) : State :=
  if h < 4096 then s.setSlot h x else s.setCollar (h - 4096) { s.collar (h - 4096) with page := x }

/-- Which generation a job binds to (R424): none where the slot has no such material. -/
def bindGen (x : Slot) (want : Nat) : Option Nat :=
  if x.erasing || x.cur.isNone then none
  else if want = 0 ∨ want = x.gen then some x.gen
  else match x.shadow with
    | some (_, g) => if g = want then some g else none
    | none => none

/-- Count a bound job in or out of its generation. -/
def Slot.count (x : Slot) (gen : Nat) (up : Bool) : Slot :=
  let f := fun (n : Nat) => if up then n + 1 else n - 1
  if gen = x.gen then { x with inflight := f x.inflight } else { x with inflightSh := f x.inflightSh }

/-- SEALs counted for a generation (R436), and one more. A count of 2^32 + 1 says that the Trail knows of the first one refused. -/
def Slot.sealCount (x : Slot) (gen : Nat) : Nat := if gen = x.gen then x.seals else x.sealsSh
def Slot.oneSeal (x : Slot) (gen : Nat) : Slot := if gen = x.gen then { x with seals := x.seals + 1 } else { x with sealsSh := x.sealsSh + 1 }

/-- R436: a SEAL is refused once its generation has had 2^32 of them. -/
def State.sealCheck (s : State) (h gen : Nat) (x : Slot) : Option State :=
  if x.sealCount gen < 2 ^ 32 then some (s.setHome h (x.oneSeal gen)) else none

/-- A lane binds a queued job and starts it, or ends it at once. -/
def State.cjobBind (s : State) (j : CJob) : State :=
  if !s.flag rCphCtl 0 || s.flag rCphStatus (8 + j.lane) || !s.cjobValid j then s.cjobEnd j 3 0 0
  else if j.op = 7 then
    s.setCph { s.cph with jobs := s.cph.jobs.map fun (x : CJob) => if x.id = j.id then { x with state := .running } else x }
  else
    let raw := s.slot j.keysel
    let col := raw.typ = 8
    let (h, x) := s.keyHome j
    let tenant := bits (leAt j.desc 30 2) 0 10
    if col ∧ (raw.collar / 2 ≠ j.lane ∨ tenant ≠ (s.collar raw.collar).tenant) then s.cjobEnd j 3 0 0
    else if raw.typ = 0 ∨ raw.erasing = true then s.cjobEnd j 2 0 0
    else match bindGen x (leAt j.desc 4 4) with
      | none => s.cjobEnd j 2 0 0
      | some g =>
        if !typeFits j.op x.typ then s.cjobEnd j 3 0 0
        else if x.typ = 4 ∧ ((s.slot (h + 1)).typ ≠ 5 ∨ (s.slot (h + 1)).cur = none) then s.cjobEnd j 2 0 0
        else if j.op = 8 && s.flag rRngStatus 1 then s.cjobEnd j 3 0 0
        else
          let go := fun (s : State) =>
            let y := (s.keyHome j).2
            let s := s.setHome h { (y.count g true) with used := s.now }
            let s := if col then s.bump 0x10700140 else s
            s.setCph { s.cph with jobs := s.cph.jobs.map fun (z : CJob) => if z.id = j.id then { z with state := .running, bound := some (h * 2 ^ 32 + g) } else z }
          if j.op = 8 then match s.sealCheck h g x with
            | some s => go s
            | none =>
              let s := (s.cjobEnd j 4 2 0).bump 0x10700150
              if 2 ^ 32 < x.sealCount g then s
              else (s.setHome h (x.oneSeal g)).svEvent 0x0601 0x16 (leBytes 2 j.keysel ++ zeros 2 ++ leBytes 4 g ++ zeros 8)
          else go s

/-- Is the job bound to a collar page? -/
def CJob.collared (j : CJob) : Bool := match j.bound with
  | some b => decide (4096 ≤ b / 2 ^ 32)
  | none => false

/-- CIPHER_JOB_START (R424, R437, R438): lane `m` takes its next job: an urgent one first, suspending an ordinary one that
runs; then the suspended one; then the oldest. -/
def cipherJobStart (m : Nat) (s : State) : State :=
  let mine := s.cph.jobs.filter fun j => j.lane = m
  let urgent := mine.find? fun j => j.state == .queued && j.urgent
  let susp := mine.find? fun j => j.state == .suspended
  let setState := fun (id : Nat) (c : CState) (s : State) =>
    s.setCph { s.cph with jobs := s.cph.jobs.map fun (x : CJob) => if x.id = id then { x with state := c } else x }
  match mine.find? fun j => j.state == .running with
  | some r => match urgent with
    | some u =>
      if r.urgent || r.collared || susp.isSome then s
      else ((setState r.id .suspended s).bump 0x10700120).cjobBind u
    | none => s
  | none => match urgent, susp with
    | some u, _ => s.cjobBind u
    | none, some r => setState r.id .running s
    | none, none => match mine.find? fun j => j.state == .queued with
      | some j => s.cjobBind j
      | none => s

/-- The bound material: CUR or SHADOW of its home. -/
def boundKey (x : Slot) (g : Nat) : Bytes :=
  if g = x.gen then (x.cur.map (·.key)).getD [] else match x.shadow with
    | some (k, _) => k.key
    | none => []

/-- XTS over the data units of a job, the tweak's low 64 bits rising by 1 for each (Table 10-4). -/
def xtsUnits (enc : Bool) (key tweak : Bytes) : Nat → Nat → Bytes → Bytes
  | 0, _, _ => []
  | n + 1, i, b =>
    let t := leBytes 8 ((leNat (tweak.take 8) + i) % 2 ^ 64) ++ tweak.drop 8
    let u := b.take 4608
    padTo 4608 (if enc then Config.xtsEnc key t u else Config.xtsDec key t u) ++ xtsUnits enc key tweak n (i + 1) (b.drop 4608)

/-- AAD of SEAL and UNSEAL (R422). -/
def State.sealAad (s : State) (j : CJob) : Bytes := leBytes 2 (s.ownerOf j.keysel) ++ leBytes 2 j.keysel

/-- What a job writes, none where its tag or integrity check fails. -/
def State.cjobOut (s : State) (j : CJob) (key iv inp : Bytes) : Option Bytes :=
  let gcmIv := slice j.desc 32 12
  let aad := inp.take j.aad
  let body := inp.drop j.aad
  if j.op = 1 then some (padTo j.nOut (Config.gcmEnc key gcmIv aad body))
  else if j.op = 2 then (Config.gcmDec key gcmIv aad body).map (padTo j.nOut)
  else if j.op = 3 then some (xtsUnits true key (slice j.desc 32 16) (j.len / 4608) 0 inp)
  else if j.op = 4 then some (xtsUnits false key (slice j.desc 32 16) (j.len / 4608) 0 inp)
  else if j.op = 5 then some (padTo j.nOut (Config.kwWrap key inp))
  else if j.op = 6 then (Config.kwUnwrap key inp).map (padTo j.nOut)
  else if j.op = 7 then some (padTo 48 (Config.sha384 inp))
  else if j.op = 8 then some (iv ++ padTo (j.len + 16) (Config.gcmEnc key iv (s.sealAad j) inp))
  else (Config.gcmDec key (inp.take 12) (s.sealAad j) (inp.drop 12)).map (padTo j.nOut)

/-- Output of a job that did not end OK: a free number of free bytes from DST on (R423). -/
def State.strayOut (s : State) (j : CJob) : Nat × State :=
  let (w, s) := s.draw
  let n := w.toNat % (j.nOut + 1)
  if j.svc.isSome then (n, s) else
  let (b, s) := s.drawBytes n
  (n, spaceWrite s (engineOf j.thread) (j.dst / 2 ^ 60) (j.dst % 2 ^ 40) b)

/-- The job's generation counts one less; SHADOW and ERASING follow (R424, R425). -/
def State.unbind (s : State) (j : CJob) : State :=
  match j.bound with
  | none => s
  | some b =>
    let h := b / 2 ^ 32
    let g := b % 2 ^ 32
    if h < 4096 then (s.setSlot h ((s.slot h).count g false)).settleSlot h
    else
      let c := s.collar (h - 4096)
      (s.setCollar (h - 4096) { c with page := (c.page.count g false).releaseShadow }).bump 0x10700140

/-- CIPHER_JOB_END (R423): the running job `id` ends. `ce`, `ue`: source lines the lane finds correctable and uncorrectable (R25, R42);
`old`: what the read-modify-write of a DRAM line written in part finds (R335). -/
def cipherJobEnd (id : Nat) (ce ue : List Nat) (old : Ecc) (s : State) : State :=
  match s.cph.jobs.find? fun j => j.id = id && j.state == .running with
  | none => s
  | some j =>
    let e := engineOf j.thread
    let ss := j.src / 2 ^ 60; let sa := j.src % 2 ^ 40
    let ds := j.dst / 2 ^ 60; let da := j.dst % 2 ^ 40
    let reads := !j.gone && j.svc.isNone
    if ((ss == 3 || ds == 3) && !s.dramReady) || (j.svc.isNone && ds == 3 && !s.dramTakes da j.nOut) then s
    else
    let s := if reads then s.decodeLines (teamStop j.lane) e (s.linesOf ss sa j.nIn) ce ue else s
    let bad := poisonLines s e ss sa j.nIn
    if j.gone then
      let (n, s) := s.strayOut j
      let s := s.cjobEnd j 2 0 n
      if j.collared then s.bump 0x10700140 else s
    else if !bad.isEmpty then
      let (n, s) := s.strayOut j
      let s := if bad.any fun i => !(reads && ue.contains i) then s.linePoisoned (teamStop j.lane) sa else s
      (s.cjobEnd j 1 0 n).unbind j
    else
      let inp := if j.svc.isSome then s.dread j.thread j.src j.nIn else spaceRead s e ss sa j.nIn
      let b := j.bound.getD 0
      let h := b / 2 ^ 32
      let x := if h < 4096 then s.slot h else (s.collar (h - 4096)).page
      let key := boundKey x (b % 2 ^ 32) ++ (if x.typ = 4 then (((s.slot (h + 1)).cur.map (·.key)).getD []) else [])
      let (iv, s) := if j.op = 8 then s.drawBytes 12 else ([], s)
      let s := if j.op = 8 then s.setCph { s.cph with drbgReqs := s.cph.drbgReqs + 1 } else s
      match s.cjobOut j key iv inp with
      | some out =>
        let s := if j.svc.isSome then s.dwrite j.thread j.dst out else
          (spaceWrite (if ds = 3 then s.rmwEnds da out.length old else s) e ds da out).carryPoison e ds da out.length 0 []
        (s.cjobEnd j 0 0 out.length).unbind j
      | none =>
        let (n, s) := s.strayOut j
        (s.cjobEnd j 4 1 n).unbind j

/-- CPH_LANE_STATUS as it stands. -/
def State.laneStatus (s : State) : Nat :=
  let lanes := fun (p : CJob → Bool) => ((List.range 8).map fun m => if s.cph.jobs.any (fun j => j.lane = m && p j) then 2 ^ m else 0).sum
  let pages := ((List.range 16).map fun c => if (s.collar c).page.cur.isSome then 2 ^ c else 0).sum
  lanes (fun j => j.state == .running) + 256 * lanes (fun j => j.state == .suspended) + 65536 * pages

/-- CPH_SLOT_INFO of the selected slot. -/
def State.slotInfo (s : State) : Nat :=
  let n := s.fld 0x10700020 11 0
  let x := s.slot n
  x.typ + 16 * x.collar + 256 * s.slotFlags n + 65536 * min x.inflight 0xFFFF

def execKeyWrite (s : State) : Out := s.onSv keyWrite
def execKeyStage (s : State) : Out := s.onSv keyStage
def execKeyErase (s : State) : Out := s.onSv keyErase
def execKeyQuery (s : State) : Out := s.onSv keyQuery
def execCollarWrite (s : State) : Out := s.onSv collarWrite
def execCollarEraseNow (s : State) : Out := s.onSv collarEraseNow
def execDrbgReseed (ok : Bool) (rct apt : Nat) (s : State) : Out := s.onSv (drbgReseed ok rct apt)
def execCipherJobStart (m : Fin 8) (s : State) : Out := s.onSv (cipherJobStart m.val)

end Sys2Proof.Machine
end

