-- ==== Sys2Proof/Machine/Packets.lean ====
section
/-! DEFINITION. Frames as bytes: Ethernet, VLAN tags, IPv4, IPv6, UDP, checksums (R91 to R93), Fetch headers and
encryption (R95, R108, R109), ARP and neighbour discovery (R376, R390), PAUSE and PFC (R398 to R400). -/
namespace Sys2Proof.Machine

/-- Sum of 16-bit network-order words, an odd last byte padded with zero. -/
def sum16 : Bytes → Nat
  | [] => 0
  | [a] => a.toNat * 256
  | a :: b :: t => a.toNat * 256 + b.toNat + sum16 t

def fold16 (n : Nat) : Nat :=
  let a := n % 65536 + n / 65536
  let b := a % 65536 + a / 65536
  b % 65536 + b / 65536
/-- The Internet checksum over the bytes, as it stands in the header. -/
def inetSum (b : Bytes) : Nat := 65535 - fold16 (sum16 b)

/-- A received frame parsed (R91): tags, EtherType, IP and UDP. `data`: UDP payload. -/
structure Parsed where
  v6 : Bool
  srcIp : Bytes
  dstIp : Bytes
  srcPort : Nat
  dstPort : Nat
  dscp : Nat
  payload : Bytes
deriving DecidableEq, Repr

/-- An IPv4 address as a mapped IPv6 address. -/
def mapped (a : Bytes) : Bytes := zeros 10 ++ [0xFF, 0xFF] ++ a

/-- Offset of the EtherType behind the tags. -/
def etherOff (raw : Bytes) : Nat := 12 + 4 * rawTags raw

/-- R91 and R92 on a frame with its FCS: encapsulation, checksums and lengths. -/
def parseUdp (raw : Bytes) : Option Parsed :=
  let o := etherOff raw + 2
  let len := raw.length - 4
  let padOk := fun (end_ : Nat) => end_ = len || (decide (end_ < len) && decide (raw.length ≤ 64 + 4 * rawTags raw))
  if beAt raw (etherOff raw) 2 = 0x0800 then
    let ip := raw.drop o
    let tot := beAt ip 2 2
    let u := ip.drop 20
    let ul := beAt u 4 2
    let pseudo := slice ip 12 8 ++ [0, 17] ++ beBytes 2 ul
    if byteAt ip 0 ≠ 0x45 ∨ beAt ip 6 2 % 0x4000 ≠ 0 ∨ byteAt ip 9 ≠ 17 ∨ fold16 (sum16 (ip.take 20)) ≠ 65535 then none
    else if tot ≠ 20 + ul ∨ ul < 8 ∨ padOk (o + tot) = false then none
    else if beAt u 6 2 ≠ 0 ∧ fold16 (sum16 (pseudo ++ u.take ul)) ≠ 65535 then none
    else some { v6 := false, srcIp := mapped (slice ip 12 4), dstIp := mapped (slice ip 16 4), srcPort := beAt u 0 2, dstPort := beAt u 2 2,
                dscp := byteAt ip 1 / 4, payload := (u.drop 8).take (ul - 8) }
  else if beAt raw (etherOff raw) 2 = 0x86DD then
    let ip := raw.drop o
    let pl := beAt ip 4 2
    let u := ip.drop 40
    let ul := beAt u 4 2
    let pseudo := slice ip 8 32 ++ beBytes 4 ul ++ [0, 0, 0, 17]
    if byteAt ip 0 / 16 ≠ 6 ∨ byteAt ip 6 ≠ 17 then none
    else if pl ≠ ul ∨ ul < 8 ∨ padOk (o + 40 + pl) = false then none
    else if beAt u 6 2 = 0 ∨ fold16 (sum16 (pseudo ++ u.take ul)) ≠ 65535 then none
    else some { v6 := true, srcIp := slice ip 8 16, dstIp := slice ip 24 16, srcPort := beAt u 0 2, dstPort := beAt u 2 2,
                dscp := (byteAt ip 0 % 16 * 16 + byteAt ip 1 / 16) / 4, payload := (u.drop 8).take (ul - 8) }
  else none

/-- The tags of a session's frames by port `p` (Table 9-5); under echo, those of the last request accepted there. -/
def sessTagBytes (x : Session) (p : Nat) : Bytes :=
  let m := byteAt x.link 0
  if m = 1 then beBytes 2 0x8100 ++ beBytes 2 (leAt x.link 2 2)
  else if m = 2 then beBytes 2 0x88A8 ++ beBytes 2 (leAt x.link 2 2) ++ beBytes 2 0x8100 ++ beBytes 2 (leAt x.link 4 2)
  else if m = 3 then mgetD x.tags p [] else []

/-- A checksum of 0 is sent as all ones. -/
def sentSum (b : Bytes) : Nat := let c := inetSum b; if c = 0 then 65535 else c

/-- An Ethernet frame without FCS that carries a UDP payload (R93): addresses as 16-byte forms. -/
def buildUdp (dmac smac tags : Bytes) (v6 : Bool) (src dst : Bytes) (sport dport dscp : Nat) (payload : Bytes) : Bytes :=
  let ul := 8 + payload.length
  let u0 := beBytes 2 sport ++ beBytes 2 dport ++ beBytes 2 ul
  if v6 then
    let pseudo := src ++ dst ++ beBytes 4 ul ++ [0, 0, 0, 17]
    let c := sentSum (pseudo ++ u0 ++ [0, 0] ++ payload)
    dmac ++ smac ++ tags ++ beBytes 2 0x86DD ++ beBytes 4 (0x60000000 + dscp * 2 ^ 22) ++ beBytes 2 ul ++ [17, 64] ++ src ++ dst ++ u0 ++
      beBytes 2 c ++ payload
  else
    let s4 := src.drop 12; let d4 := dst.drop 12
    let h := fun (c : Nat) => [0x45, BitVec.ofNat 8 (dscp * 4)] ++ beBytes 2 (20 + ul) ++ [0, 0, 0x40, 0, 64, 17] ++ beBytes 2 c ++ s4 ++ d4
    let pseudo := s4 ++ d4 ++ [0, 17] ++ beBytes 2 ul
    let c := sentSum (pseudo ++ u0 ++ [0, 0] ++ payload)
    dmac ++ smac ++ tags ++ beBytes 2 0x0800 ++ h (inetSum (h 0)) ++ u0 ++ beBytes 2 c ++ payload

/-- A port's MAC address, filter entry and configured addresses, as its registers hold them. -/
def State.portMac (s : State) (p : Nat) : Bytes :=
  beBytes 6 (s.rd (macBase p + 0x40) + bits (s.rd (macBase p + 0x44)) 0 16 * 2 ^ 32)
def State.portIpv4 (s : State) (p : Nat) : List Bytes :=
  ((List.range 4).map fun i => s.rd (macBase p + 0xC0 + 4 * i)).filter (· ≠ 0) |>.map (beBytes 4)
def State.portIpv6 (s : State) (p : Nat) : List Bytes :=
  ((List.range 4).map fun i => (List.range 4).flatMap fun w => beBytes 4 (s.rd (macBase p + 0xD0 + 0x10 * i + 4 * w))).filter fun a => a.any (· != 0)
def State.isPortAddr (s : State) (p : Nat) (a : Bytes) : Bool :=
  ((s.portIpv4 p).map mapped).contains a || (s.portIpv6 p).contains a

/-! Fetch headers (Table 3-1). -/

def fetchHeader (flags count status sess len seq counter tag : Nat) : Bytes :=
  [0x01] ++ beBytes 1 flags ++ beBytes 1 count ++ beBytes 1 status ++ beBytes 2 sess ++ beBytes 2 len ++ beBytes 4 seq ++ zeros 4 ++
    beBytes 8 counter ++ beBytes 8 tag

/-- The nonce of a request: salt and SEQ; of a response: salt and COUNTER with bit 63 set (R108). -/
def reqNonce (salt : Bytes) (seq : Nat) : Bytes := salt ++ beBytes 8 seq
def respNonce (salt : Bytes) (counter : Nat) : Bytes := salt ++ beBytes 8 (2 ^ 63 + counter % 2 ^ 63)

def OpRes.bytes (r : OpRes) : Bytes := opBytes r.opcode r.flags r.status r.ns [] r.val r.arg

/-- A response's UDP payload: header, results, tag on encrypted sessions (R109). -/
def sealFetch (cipher : Nat) (key salt : Bytes) (flags count status sess seq counter tag : Nat) (body : Bytes) : Bytes :=
  let flags := flags + (if cipher = 0 then 0 else 2) + 1
  let hdr := fetchHeader flags count status sess (32 + body.length + (if cipher = 0 then 0 else 16)) seq counter tag
  if cipher = 0 then hdr ++ body else hdr ++ padTo (body.length + 16) (Config.gcmEnc key (respNonce salt counter) hdr body)

/-- Operations parsed from a frame's plaintext: exactly `n` of them that fill it (R99). -/
def parseOps : Nat → Nat → Bytes → Option (List OpReq)
  | 0, _, _ => none
  | k + 1, n, b =>
    if n = 0 then (if b.isEmpty then some [] else none)
    else if b.length < 16 then none
    else
      let nk := beAt b 3 3
      let kl := nk % 1024
      let vl := beAt b 6 2
      if b.length < 16 + kl + vl then none
      else
        let op : OpReq := { opcode := byteAt b 0, flags := byteAt b 1, ns := nk / 4096, key := slice b 16 kl, val := slice b (16 + kl) vl, arg := beAt b 8 8 }
        (parseOps k (n - 1) (b.drop (16 + kl + vl))).map fun l => op :: l

/-! ARP, neighbour discovery, MAC control frames. -/

def padEth (b : Bytes) : Bytes := b ++ zeros (60 - b.length)

/-- An ARP packet of Ethernet and IPv4. -/
def arpFrame (dmac smac : Bytes) (op : Nat) (sha spa tha tpa : Bytes) : Bytes :=
  padEth (dmac ++ smac ++ beBytes 2 0x0806 ++ beBytes 2 1 ++ beBytes 2 0x0800 ++ [6, 4] ++ beBytes 2 op ++ sha ++ spa ++ tha ++ tpa)

def allOnes6 : Bytes := List.replicate 6 0xFF
/-- A gratuitous ARP for an address (R376). -/
def gratArp (mac ip : Bytes) : Bytes := arpFrame allOnes6 mac 1 mac ip (zeros 6) ip

/-- All-nodes multicast, ff02::1. -/
def allNodes : Bytes := [0xFF, 2] ++ zeros 13 ++ [1]

/-- A neighbour advertisement with the Override flag; `sol`: Solicited. -/
def neighAdv (dmac mac src dst : Bytes) (sol : Bool) : Bytes :=
  let body0 := beBytes 4 (0x20000000 + (if sol then 0x40000000 else 0)) ++ src ++ [2, 1] ++ mac
  let len := 4 + body0.length
  let pseudo := src ++ dst ++ beBytes 4 len ++ [0, 0, 0, 58]
  let c := inetSum (pseudo ++ [136, 0, 0, 0] ++ body0)
  dmac ++ mac ++ beBytes 2 0x86DD ++ beBytes 4 0x60000000 ++ beBytes 2 len ++ [58, 255] ++ src ++ dst ++ [136, 0] ++ beBytes 2 c ++ body0

def ctlMac : Bytes := [0x01, 0x80, 0xC2, 0, 0, 1]
/-- A PAUSE frame (priority 8) or a PFC frame for one priority. -/
def pauseFrame (mac : Bytes) (prio quanta : Nat) : Bytes :=
  if prio = 8 then padEth (ctlMac ++ mac ++ beBytes 2 0x8808 ++ beBytes 2 1 ++ beBytes 2 quanta)
  else padEth (ctlMac ++ mac ++ beBytes 2 0x8808 ++ beBytes 2 0x0101 ++ beBytes 2 (2 ^ prio) ++
    (List.range 8).flatMap fun i => beBytes 2 (if i = prio then quanta else 0))

end Sys2Proof.Machine
end

