-- ==== Sys2Proof/Machine/Net.lean ====
section
/-! DEFINITION. The network ports (chapter 09): links, modules, receive decisions and cells, transmit queues, flow
control, time gates, the PHC, Doze, and the management port's receive ring. -/
namespace Sys2Proof.Machine

def fSPEED : Nat → State → Nat := fun p s => s.fld (macBase p) 5 3
/-- STATE of MACn_STATUS: 0 down, 1 negotiating, 2 up, 3 steering. -/
def State.portState (s : State) (p : Nat) : Nat := s.fld (macBase p + 4) 7 6
def State.linkUp (s : State) (p : Nat) : Bool := s.flag (macBase p + 4) 0
/-- Event source of a port: its stop + 0x10 (Table 13-3). -/
def portSource (p : Nat) : Nat := 0x11 + p

/-- Line speed in Mb/s of a Table 9-1 code. -/
def speedMbps (c : Nat) : Nat := if c = 0 then 400000 else if c = 1 then 200000 else if c = 2 then 100000 else if c = 3 then 50000 else 25000

/-- R372: FEC legal at a speed. -/
def fecOk (speed fec : Nat) : Bool := if speed = 4 then fec = 1 || fec = 2 else fec = 0

/-! Transmit queues. -/

/-- An emit job's ticket ends (R228). -/
def State.emitEnd (s : State) (job : Option Nat) (status : Nat) : State :=
  match job with
  | none => s
  | some id => match s.jobs.emits.find? fun j => j.id = id with
    | none => s
    | some j => (s.setJobs { s.jobs with emits := s.jobs.emits.filter fun (x : EmitJob) => x.id != id }).jobDone j.thread j.ticket status (j.counter % 2 ^ 32)

def State.txPush (s : State) (p : Nat) (f : TxFrame) : State :=
  s.setPort p { s.port p with txq := (s.port p).txq ++ [f] }

/-- Bytes of the transmit buffer in use, Retriever's own reserve apart (R395). -/
def Port.txBytes (x : Port) (quick : Bool) : Nat := ((x.txq.filter fun f => f.quick == quick).map fun f => f.bytes.length).sum

/-- Room in the 1 MiB transmit buffer (R395). -/
def Port.txRoom (x : Port) (n : Nat) : Bool := decide (x.txBytes false + n ≤ 1048576 - 65536)
def Port.quickRoom (x : Port) (n : Nat) : Bool := decide (x.txBytes true + n ≤ 65536)

/-- A discarded frame (R397): counted, its FEMIT job ends with ABORTED. -/
def State.txDiscard (s : State) (p : Nat) (job : Option Nat) : State := (s.bump (macBase p + 0x880)).emitEnd job 4

/-- May a frame go out by port `p`? -/
def State.portTakes (s : State) (p : Nat) : Bool := s.linkUp p && s.portState p == 2

/-- A session's frame named for port `p` (R93, R394, R397): by that port, by the other one when the session steers, or
discarded. `dmac`: where the frame goes by port `p`. -/
def State.txSession (s : State) (p : Nat) (x : Session) (build : Nat → Bytes → Bytes → Bytes) (dmac : Bytes) (f : TxFrame) : State :=
  let q := other p
  if s.portTakes p then s.txPush p { f with bytes := build p dmac (s.portMac p) }
  else if x.steers p && s.portTakes q then (s.txPush q { f with bytes := build q (x.dmac q) (s.portMac q) }).bump (macBase q + 0x888)
  else s.txDiscard p f.emit

/-- Frames in a port's buffer are discarded when its link goes down (R397). -/
def discardAll (p : Nat) : List TxFrame → State → State
  | [], s => s
  | f :: t, s => discardAll p t (s.txDiscard p f.emit)

def State.dropQueue (s : State) (p : Nat) : State :=
  let q := (s.port p).txq
  discardAll p q (s.setPort p { s.port p with txq := [] })

/-! Flow control (R398 to R401). -/

def State.flowMode (s : State) (p : Nat) : Nat := s.fld (macBase p + 0x10) 1 0
def State.pfcEn (s : State) (p prio : Nat) : Bool := bit (s.fld (macBase p + 0x10) 15 8) prio

def RxFrame.count (r : RxFrame) : Nat := r.cells.length + r.spill.length
def Port.held (x : Port) (prio : Nat) : Nat :=
  ((x.rx.filter fun r => prio = 8 || r.prio = prio).map RxFrame.count).sum

def maskOf (l : List Nat) : Nat := (List.range 8).foldl (fun a i => a + (if l.contains i || l.contains 8 then 2 ^ i else 0)) 0

/-- MACn_PAUSED as it stands. -/
def State.macPaused (s : State) (p : Nat) : Nat :=
  let x := s.port p
  maskOf (x.paused.map (·.1)) + maskOf x.hold * 256 + maskOf x.xoff * 65536

def Port.onDie (x : Port) : Nat := 28672 - (x.rx.map fun r => r.cells.length).sum
def Port.spilled (x : Port) : Nat := (x.rx.map fun r => r.spill.length).sum
/-- MACn_RX_CELLS as it stands. -/
def State.macCells (s : State) (p : Nat) : Nat := (s.port p).onDie + (s.port p).spilled / 16 * 65536

/-- XOFF or XON for one class of cells after a change (R399). -/
def State.flowOne (s : State) (p prio : Nat) : State :=
  let x := s.port p
  let n := x.held prio
  let thr := s.rd (macBase p + 0x14)
  if !x.xoff.contains prio && decide (bits thr 0 16 ≤ n) then
    s.setPort p { x with xoff := x.xoff ++ [prio], ctl := x.ctl ++ [(prio, 0xFFFF)] }
  else if x.xoff.contains prio && decide (n ≤ bits thr 16 16) then
    s.setPort p { x with xoff := x.xoff.filter (· != prio), ctl := x.ctl ++ [(prio, 0)] }
  else s

def State.flowCheck (s : State) (p : Nat) : State :=
  if s.flowMode p = 1 then s.flowOne p 8
  else if s.flowMode p = 2 then ((List.range 8).filter (s.pfcEn p)).foldl (fun s i => s.flowOne p i) s
  else s

/-- PFC_REFRESH (R399): half the quanta has elapsed while the count stays above XON. -/
def pfcRefresh (p prio : Nat) (s : State) : State :=
  let x := s.port p
  if x.xoff.contains prio ∧ bits (s.rd (macBase p + 0x14)) 16 16 < x.held prio then
    s.setPort p { x with ctl := x.ctl ++ [(prio, 0xFFFF)] }
  else s

/-- A received PAUSE or PFC names queues and quanta; quanta 0 ends the pause; hold-off ignores it (R400, R401). -/
def Port.pause (x : Port) (prio quanta : Nat) : Port :=
  if x.hold.contains prio then x
  else if quanta = 0 then { x with paused := mdel x.paused prio } else { x with paused := mset x.paused prio quanta }

def State.takePause (s : State) (p : Nat) (body : Bytes) : State :=
  let s := s.bump (macBase p + 0x840)
  let op := beAt body 0 2
  if op = 1 ∧ s.flowMode p = 1 then s.setPort p ((s.port p).pause 8 (beAt body 2 2))
  else if op = 0x0101 ∧ s.flowMode p = 2 then
    let en := beAt body 2 2
    let ps := (List.range 8).filter fun i => bit en i && s.pfcEn p i
    s.setPort p (ps.foldl (fun x i => x.pause i (beAt body (4 + 2 * i) 2)) (s.port p))
  else s

/-- PAUSE_EXPIRY (R400): the quanta have run out. -/
def pauseExpiry (p prio : Nat) (s : State) : State := s.setPort p { s.port p with paused := mdel (s.port p).paused prio }

/-- PAUSE_WATCHDOG (R401): the priority has been paused longer than MACn_WDOG_LIMIT. -/
def pauseWatchdog (p prio : Nat) (s : State) : State :=
  let x := s.port p
  if mhas x.paused prio then
    ((s.setPort p { x with paused := mdel x.paused prio, hold := x.hold ++ [prio] }).bump (macBase p + 0x898)).svEvent 0x0501 (portSource p)
      (leBytes 1 p ++ leBytes 1 prio ++ zeros 14)
  else s

def watchdogHoldEnd (p prio : Nat) (s : State) : State :=
  s.setPort p { s.port p with hold := (s.port p).hold.filter (· != prio) }

/-! The receive path (R377, R380 to R390). -/

/-- Cells a frame of `n` stored bytes takes (R381). -/
def cellsFor (n : Nat) : Nat := 1 + (n - 128 + 255) / 256

def freeCells (used : List Nat) : Nat → Nat → List Nat
  | _, 0 => []
  | c, n + 1 => if used.contains c then freeCells used (c + 1) n else c :: freeCells used (c + 1) n

/-- On-die and spilled cells for a frame (R384): none where one cannot be taken, or `room` is false and one would spill (R385). -/
def State.takeCells (s : State) (p n : Nat) (room : Bool) : Option (List Nat × List Nat) :=
  let x := s.port p
  let free := x.onDie
  let later := n - 1
  let spillRoom := s.fld (macBase p + 0x30) 10 0 * 4096 - x.spilled
  let onFirst := min later (free - 1 - 1024)
  let sp := min (later - onFirst) spillRoom
  let rest := later - onFirst - sp
  if free = 0 ∨ free < 1 + onFirst + rest ∨ (0 < sp ∧ room = false) then none
  else
    let used := x.rx.flatMap (·.cells)
    some ((freeCells used 0 (28672 + 1)).take (1 + onFirst + rest), freeCells (x.rx.flatMap (·.spill)) 0 sp)

/-- Byte marks of the first `n` bytes of a line. -/
def firstBytes (n : Nat) : Bytes := leBytes 8 (2 ^ min n 64 - 1)

/-- The frame's bytes from `d` on go to spilled cells in order, line by line, through real-time port `p` (R384, R346). `on`: later cells on die
before the first spilled one. -/
def State.spillWrites (s : State) (p : Nat) (d : Bytes) (on : Nat) (cells : List Nat) : State :=
  let base := s.c64 (macBase p + 0x28)
  cells.zipIdx.foldl (fun (s : State) (c : Nat × Nat) => (List.range 4).foldl (fun (s : State) i =>
    let b := slice d (128 + 256 * (on + c.2) + 64 * i) 64
    if b.isEmpty then s else dramRequest (base + 256 * c.1 + 64 * i) true b (firstBytes b.length) .good (some p) s) s) s

/-- FEC codewords counted (R373); none where FEC is off (R372). -/
def State.fecCount (s : State) (p : Nat) (r : RxIn) : State :=
  let b := macBase p
  if s.fld b 7 6 = 2 then s
  else (((s.bump (b + 0x8B8) r.cw).bump (b + 0x8C0) r.corr).bump (b + 0x8C8) r.uncorr).bump (b + 0x8D0) r.sym

/-- The frame is errored (R373, R377). -/
def State.frameGood (s : State) (p : Nat) (r : RxIn) : Bool := r.good && !(s.fld (macBase p) 7 6 != 2 && decide (0 < r.uncorr) && r.hit)

/-- The timestamp of a frame received now, in units of 2^−32 ns: the PHC less MACn_TS_RX_OFS (R406). -/
def State.rxStamp (s : State) (p : Nat) : Nat := (s.phc + 2 ^ 96 - s.rd (macBase p + 0x600) % 2 ^ 24 * 2 ^ 24) % 2 ^ 96

/-- Its 10 bytes: whole nanoseconds and the fraction in 2^−16 ns. -/
def State.rxStampBytes (s : State) (p : Nat) : Bytes := leBytes 8 (s.rxStamp p / 2 ^ 32) ++ leBytes 2 (s.rxStamp p % 2 ^ 32 / 65536)

/-- The diagnostic tap (R388): reason bit, the frame's first 128 bytes to the Keeper, one token each. -/
def State.tap (s : State) (p reason : Nat) (raw : Bytes) : State :=
  let x := s.port p
  if !bit (s.fld (macBase p + 0x34) 4 0) reason then s
  else
    let payload := leBytes 1 p ++ leBytes 1 reason ++ leBytes 2 raw.length ++ zeros 4 ++ leBytes 8 (s.rxStamp p / 2 ^ 32) ++ padTo 128 (raw.take 128)
    let parts := partsOf 0x45 false 0 0x60 payload
    let room := match parts with
      | q :: _ => roomFor s.fence.toK (capK q) parts.length && s.fence.hold.isNone
      | [] => false
    if x.tapTokens < 1500000000 ∨ room = false then s.bump (macBase p + 0x8A8)
    else ((s.setPort p { x with tapTokens := x.tapTokens - 1500000000 }).pushK parts).bump (macBase p + 0x8A0)

/-- The destination filter (R389). -/
def State.passesFilter (s : State) (p : Nat) (raw : Bytes) : Bool :=
  let da := beAt raw 0 6
  let entry := fun (i : Nat) =>
    let hi := s.rd (macBase p + 0x44 + 8 * i)
    bit hi 31 && da == s.rd (macBase p + 0x40 + 8 * i) + bits hi 0 16 * 2 ^ 32
  (List.range 16).any entry || (da == 2 ^ 48 - 1 && beAt raw 12 2 == 0x0806) || s.flag (macBase p) 15 ||
    (da == 0x0180C2000001 && beAt raw 12 2 == 0x8808 && (beAt raw 14 2 == 1 || beAt raw 14 2 == 0x0101))

/-- ARP or an ICMPv6 neighbour solicitation (row 6 of Table 9-3). -/
def isArpNd (raw : Bytes) : Bool :=
  beAt raw (etherOff raw) 2 == 0x0806 ||
    (beAt raw (etherOff raw) 2 == 0x86DD && byteAt raw (etherOff raw + 8) == 58 && byteAt raw (etherOff raw + 42) == 135)

/-- The MAC's own answer (R390), or a drop offered to the tap. -/
def State.arpNd (s : State) (p : Nat) (raw : Bytes) : State :=
  let o := etherOff raw + 2
  let mac := s.portMac p
  let smac := slice raw 6 6
  let send := fun (b : Bytes) => s.txPush p { bytes := b, prio := 7, emit := none, stamp := none, bad := false, quick := false, sess := none }
  let no := s.tap p 4 raw
  if !s.flag (macBase p) 14 then no
  else if beAt raw (etherOff raw) 2 = 0x0806 then
    let tpa := slice raw (o + 24) 4
    if beAt raw (o + 6) 2 = 1 ∧ (s.portIpv4 p).contains tpa then send (arpFrame smac mac 2 mac tpa (slice raw (o + 8) 6) (slice raw (o + 14) 4)) else no
  else
    let target := slice raw (o + 48) 16
    let src := slice raw (o + 8) 16
    let pl := beAt raw (o + 4) 2
    let pseudo := src ++ slice raw (o + 24) 16 ++ beBytes 4 pl ++ [0, 0, 0, 58]
    let okSum := fold16 (sum16 (pseudo ++ slice raw (o + 40) pl)) = 65535
    if byteAt raw (o + 7) = 255 ∧ okSum ∧ (s.portIpv6 p).contains target then
      let unspec := src.all (· == 0)
      send (neighAdv (if unspec then [0x33, 0x33, 0, 0, 0, 1] else smac) mac target (if unspec then allNodes else src) (!unspec))
    else no

/-- A PTP frame (R407). -/
def State.isPtp (s : State) (p : Nat) (raw : Bytes) : Bool :=
  beAt raw (etherOff raw) 2 == 0x88F7 || (match parseUdp raw with
    | some u => (u.dstPort == 319 || u.dstPort == 320) && s.isPortAddr p u.dstIp
    | none => false)

/-- The modes that drop Fetch frames before step 1 of Table 3-5 (R445). -/
def State.dropsFetch (s : State) : Bool := s.power.drain || s.power.base == .boot || s.power.base == .heel


/-- The frame check of R561, counted by the test unit where a generator frame arrives in Test. -/
def isGenFrame (raw : Bytes) : Bool := beAt raw 12 2 == 0x88B5

/-- MAC_RX_FRAME (R380): a frame of `raw` bytes, destination address through FCS, as it was on the wire, and what the
port meets with it. `gen`: what the test unit does with a generator frame. -/
def macRxFrame (p : Nat) (raw : Bytes) (w : RxIn) (gen : Nat → Bytes → State → State) (s : State) : State :=
  let b := macBase p
  if !s.linkUp p || s.halted then s else
  let good := s.frameGood p w
  let s := s.fecCount p w
  let s := s.setPort p { s.port p with rxLoad := (s.port p).rxLoad + raw.length + 20 }
  let maxf := s.fld (b + 8) 13 0
  if maxf < raw.length then (s.bump (b + 0x820)).tap p 0 (raw.take maxf)
  else
    let tags := rawTags raw
    let data := raw.take 12 ++ raw.drop (12 + 4 * tags)
    let onDie := (s.port p).onDie
    match s.takeCells p (cellsFor data.length) w.room with
    | none => (s.bump (b + 0x830)).bump (b + 0x838) raw.length
    | some (cells, spill) =>
      if raw.length < 64 then (s.bump (b + 0x818)).tap p 1 raw
      else if !good then (s.bump (b + 0x810)).tap p 1 raw
      else
        let s := (s.bump (b + 0x800)).bump (b + 0x808) raw.length
        if !s.passesFilter p raw then (s.bump (b + 0x828)).tap p 2 raw
        else if beAt raw 12 2 = 0x8808 then s.takePause p (raw.drop 14)
        else if isArpNd raw then (s.bump (b + 0x848)).arpNd p raw
        else if s.flag b 13 && s.isPtp p raw then
          let payload := leBytes 1 p ++ zeros 1 ++ leBytes 2 (raw.length - 4) ++ zeros 4 ++ s.rxStampBytes p ++
            zeros 6 ++ raw.take (raw.length - 4)
          (s.bump (b + 0x850)).toKeeper 0x43 false 0 payload
        else if s.power.base == .test then if isGenFrame raw then gen p raw s else s.bump 0x10900040
        else if s.dropsFetch then s.bump 0x10000100
        else
          let prio := if tags = 0 then s.fld (b + 0x10) 6 4 else byteAt raw 14 / 32
          let desc := s.rxStampBytes p ++ leBytes 2 raw.length ++ leBytes 2 data.length ++
            leBytes 1 (tags + (if spill = [] then 0 else 8) + prio * 16) ++ zeros 1 ++
            leBytes 4 (if tags = 0 then 0 else beAt raw 12 4) ++ leBytes 4 (if tags = 2 then beAt raw 16 4 else 0) ++ zeros 40
          let r : RxFrame :=
            { cells := cells, spill := spill, prio := prio, raw := raw, data := data, desc := desc, intake := zeros 64, fresh := true,
              at_ := 2 * s.now }
          let held := cells.flatMap fun c => (List.range 4).map fun i => (4, (p * 0x800000 + 256 * c) / 64 + i)
          let s := s.setMem { s.mem with poison := s.mem.poison.filter fun k => !held.contains k }
          let s := s.setPort p { s.port p with rx := (s.port p).rx ++ [r] }
          (if spill = [] then s else (s.bump (b + 0x858)).spillWrites p data (min (cellsFor data.length - 1) (onDie - 1 - 1024)) spill).flowCheck p

/-- The PKT address of a held frame's first byte, without the port bit. -/
def RxFrame.addr (r : RxFrame) : Nat := r.cells.headD 0 * 256 + 128

/-- RX_FREE (R386): the cells of the frame named return; any other address is ignored. -/
def rxFree (p addr : Nat) (s : State) : State :=
  let x := s.port p
  match x.rx.find? fun r => r.addr = addr with
  | none => s
  | some r => (s.setPort p { x with rx := x.rx.erase r }).flowCheck p

/-! Time gates (R402 to R404). Times in ns. -/

def State.gateWord (s : State) (p i : Nat) : Nat := s.rd (macBase p + 0x500 + 4 * i)
def State.gateLens (s : State) (p : Nat) : List Nat :=
  (List.range (s.port p).operLen).map fun i => bits (s.gateWord p i) 0 24 * 4

/-- Which entry of `lens` holds offset `o`, from entry `i` on, the last one lasting to the cycle end; and its end. -/
def entryAt : List Nat → Nat → Nat → Nat → Nat → Nat × Nat
  | [], i, _, _, cyc => (i - 1, cyc)
  | [_], i, _, _, cyc => (i, cyc)
  | l :: t, i, start, o, cyc => if o < start + l ∨ cyc ≤ start + l then (i, min (start + l) cyc) else entryAt t (i + 1) (start + l) o cyc

/-- The entry in force at the present PHC time and how long it still lasts. -/
def State.gateNow (s : State) (p : Nat) : Nat × Nat :=
  let x := s.port p
  let c := max x.operCycle 1
  let o := (s.phcNs + c - x.operBase % c) % c
  let (i, e) := entryAt (s.gateLens p) 0 0 o c
  (i, e - o)

/-- Time queue `q` stays open over the entries from `i` on, at most one cycle of them; an entry that never comes into force
closes nothing. -/
def openRun (words : List Nat) (lens : List Nat) (q : Nat) : Nat → Nat → Nat
  | 0, _ => 0
  | k + 1, i =>
    let j := i % max words.length 1
    if (lens[j]?).getD 0 = 0 then openRun words lens q k (i + 1)
    else if bit ((words[j]?).getD 0 / 2 ^ 24) q then (lens[j]?).getD 0 + openRun words lens q k (i + 1) else 0

/-- Lengths the entries really last: cut at, or stretched to, the cycle end. -/
def realLens : List Nat → Nat → List Nat
  | [], _ => []
  | [_], left => [left]
  | l :: t, left => min l left :: realLens t (left - l)

def State.gateWords (s : State) (p : Nat) : List Nat := (List.range (s.port p).operLen).map (s.gateWord p)

/-- Is queue `q`'s gate open in every entry that comes into force (R404)? -/
def alwaysOpen (words lens : List Nat) (q : Nat) : Bool := (words.zip lens).all fun (w, l) => decide (l = 0) || bit (w / 2 ^ 24) q

/-- Is queue `q` open, and for how long: none without limit (R404). -/
def State.gateOpen (s : State) (p q : Nat) : Bool × Option Nat :=
  if !s.flag (macBase p + 0x300) 0 then (true, none)
  else
    let ws := s.gateWords p
    let x := s.port p
    let lens := realLens (s.gateLens p) x.operCycle
    if alwaysOpen ws lens q then (true, none)
    else
      let i := x.gate
      let (_, left) := s.gateNow p
      if bit ((ws[i]?).getD 0 / 2 ^ 24) q then (true, some (left + openRun ws lens q ws.length (i + 1))) else (false, none)

/-- W_q: the longest open period of a queue, none without limit (R404). -/
def State.gateMax (s : State) (p q : Nat) : Option Nat :=
  let ws := s.gateWords p
  let lens := realLens (s.gateLens p) (s.port p).operCycle
  if !s.flag (macBase p + 0x300) 0 || alwaysOpen ws lens q then none
  else some ((List.range ws.length).foldl (fun a i => max a (openRun ws lens q ws.length i)) 0)

/-- Line time of a frame in ps, its FCS included. -/
def State.lineTime (s : State) (p : Nat) (f : TxFrame) : Nat :=
  (f.bytes.length + 4 + 20) * 8 * 1000000 / speedMbps (s.fld (macBase p + 4) 11 9)

def State.guardPs (s : State) (p : Nat) : Nat := s.fld (macBase p + 0x30C) 15 0 * 1000

/-- Head frames that can never start are dropped (R404). -/
def dropTooLong (p : Nat) : Nat → State → State
  | 0, s => s
  | n + 1, s =>
    let heads := (List.range 8).filterMap fun q => (s.port p).txq.find? fun f => f.prio = q
    match heads.find? fun f => (match s.gateMax p f.prio with
        | none => false
        | some w => decide (w * 1000 < s.lineTime p f + s.guardPs p)) with
    | none => s
    | some f => dropTooLong p n (((s.setPort p { s.port p with txq := (s.port p).txq.erase f }).bump (macBase p + 0x890)).emitEnd f.emit 4)

def State.recheckHeads (s : State) (p : Nat) : State := dropTooLong p (s.port p).txq.length s

/-- GATE_ENTRY_CHANGE (R402): the entry for the present PHC time takes force. -/
def gateEntryChange (p : Nat) (s : State) : State :=
  if s.flag (macBase p + 0x300) 0 then s.setPort p { s.port p with gate := (s.gateNow p).1 } else s

/-- The change time (R403): the base time, or the first base + k × cycle at or after now. -/
def changeTime (base cycle now : Nat) : Nat :=
  if now ≤ base then base else base + (now - base + max cycle 1 - 1) / max cycle 1 * max cycle 1

/-- TG_COMMIT (R403): COMMIT set by the serving program. -/
def tgCommit (p : Nat) (s : State) : State :=
  let b := macBase p
  let t := changeTime (s.c64 (b + 0x310)) (s.rd (b + 0x304)) s.phcNs
  ((s.setC64 (b + 0x318) t).setFlag (b + 0x300) 1 true).recheckHeads p

def tgCancel (p : Nat) (s : State) : State := s.setFlag (macBase p + 0x300) 1 false

/-- TG_CHANGE (R403): at the change time the admin list becomes the operational list. -/
def tgChange (p : Nat) (s : State) : State :=
  let b := macBase p
  if !s.flag (b + 0x300) 1 || decide (s.phcNs < s.c64 (b + 0x318)) then s
  else
    let s := (List.range 64).foldl (fun (s : State) i => s.wr (b + 0x500 + 4 * i) (s.rd (b + 0x400 + 4 * i))) s
    let x := s.port p
    let x := { x with operLen := s.fld (b + 0x308) 6 0, operCycle := s.rd (b + 0x304), operBase := s.c64 (b + 0x310) }
    let s := (s.setPort p x).setFlag (b + 0x300) 1 false
    (gateEntryChange p s).recheckHeads p

/-- PHC_STEP (R405, R403): CLOCK_STEP is reported under the old time (Table 13-6); the PHC takes MAC0_PHC_SET; a pending change time now past moves to
the next cycle start. -/
def phcStep (s : State) : State :=
  let old := s.phcNs
  let new := s.c64 0x10500910
  let s := s.svEvent 0x0005 8 (leBytes 8 old ++ leBytes 8 new)
  let s := { s with phc := new * 2 ^ 32 }
  let fix := fun (p : Nat) (s : State) =>
    let b := macBase p
    let s := if s.flag (b + 0x300) 1 && decide (s.c64 (b + 0x318) < new) then
      s.setC64 (b + 0x318) (changeTime (s.c64 (b + 0x310)) (s.rd (b + 0x304)) new) else s
    gateEntryChange p s
  fix 1 (fix 0 s)

/-- MAC_TX_SELECT (R396, R400, R404, R408): the free transmitter picks the next frame. -/
def Port.isPaused (x : Port) (q : Nat) : Bool := mhas x.paused q || mhas x.paused 8

def State.canStart (s : State) (p : Nat) (f : TxFrame) : Bool :=
  let x := s.port p
  let head := x.txq.find? fun g => g.prio = f.prio
  decide (head = some f) && !x.isPaused f.prio && (match s.gateOpen p f.prio with
    | (false, _) => false
    | (true, none) => true
    | (true, some ns) => decide (s.lineTime p f + s.guardPs p ≤ ns * 1000))

/-- A transmit timestamp enters the queue, or the overflow marker (R408). -/
def State.stampTx (s : State) (p seqId : Nat) : State :=
  let x := s.port p
  let lost := s.bump (macBase p + 0x8B0)
  match x.mark with
  | some m => lost.setPort p { x with mark := some { m with last := seqId, count := min (m.count + 1) 0xFFFF } }
  | none =>
    if 64 ≤ x.ts.length then lost.setPort p { x with mark := some { ns := s.phcNs, first := seqId, last := seqId, count := 1 } }
    else
      let t := s.phc / 2 ^ 16 + s.rd (macBase p + 0x604) % 2 ^ 24 * 256
      s.setPort p { x with ts := x.ts ++ [{ ns := t / 65536, frac := t % 65536, seqId := seqId }] }

def macTxSelect (p : Nat) (s : State) : State :=
  let x := s.port p
  if x.sending.isSome || !s.linkUp p || !s.flag (macBase p) 1 || s.halted then s
  else match x.ctl with
    | (prio, quanta) :: t =>
      let f : TxFrame := { bytes := pauseFrame (s.portMac p) prio quanta, prio := 8, emit := none, stamp := none, bad := false, quick := false, sess := none }
      (s.setPort p { x with ctl := t, sending := some f }).bump (macBase p + 0x878)
    | [] =>
      let s := s.recheckHeads p
      let x := s.port p
      match [7, 6, 5, 4, 3, 2, 1, 0].findSome? fun q => (x.txq.find? fun f => f.prio = q).bind fun f => if s.canStart p f then some f else none with
      | none => s
      | some f =>
        let s := s.setPort p { x with txq := x.txq.erase f, sending := some f }
        match f.stamp with
        | some id => s.stampTx p id
        | none => s

/-- A port's loopback depth (R553), 0 in service. -/
def State.loopDepth (s : State) (p : Nat) : Nat := s.fld (0x10900010 + 4 * p) 2 0

/-- MAC_TX_FRAME_END (R396, R43): the frame has left, in a loopback toward the port's own receiver; one that met a poisoned line ends with
an inverted FCS. -/
def macTxFrameEnd (p : Nat) (s : State) : State :=
  let x := s.port p
  match x.sending with
  | none => s
  | some f =>
    let b := macBase p
    let x := { x with sending := none, txLoad := x.txLoad + f.bytes.length + 24 }
    let s := s.setPort p (if s.loopDepth p = 0 then { x with wire := (f.bytes, f.bad) :: x.wire }
      else { x with looped := x.looped ++ [(f.bytes, f.bad)] })
    let s := (s.bump (b + 0x860)).bump (b + 0x868) (f.bytes.length + 4)
    if f.bad then (s.bump (b + 0x870)).emitEnd f.emit 1 else s.emitEnd f.emit 0

/-! Links (R371 to R376, R409 to R411). -/

/-- Gratuitous ARP and unsolicited advertisements at link-up (R376). -/
def State.announce (s : State) (p : Nat) : State :=
  let mac := s.portMac p
  let push := fun (s : State) (b : Bytes) => s.txPush p { bytes := b, prio := 7, emit := none, stamp := none, bad := false, quick := false, sess := none }
  let s := ((s.portIpv4 p).map (gratArp mac)).foldl push s
  ((s.portIpv6 p).map fun a => neighAdv [0x33, 0x33, 0, 0, 0, 1] mac a allNodes false).foldl push s

/-- The link goes down: status, counter, and the frames of its buffer (R376, R397). -/
def State.linkFalls (s : State) (p : Nat) : State :=
  let a := macBase p + 4
  let s := if s.linkUp p then (s.setFlag a 1 true).bump (macBase p + 0x8D8) else s
  let s := ((s.setFlag a 0 false).setFld a 4 2 0).setFld a 7 6 0
  (s.setPort p { s.port p with looped := [] }).dropQueue p

/-! Modules (R378, R379). -/

/-- MODULE_READ and MODULE_WRITE (R378): a write of MACn_MOD_CMD with GO, ignored while GO is 1. -/
def moduleStart (p addr page len : Nat) (paged write : Bool) (s : State) : State :=
  let a := macBase p + 0x200
  if s.flag a 31 then s
  else s.wr a (addr % 256 + page % 256 * 65536 + (len - 1) % 8 * 2 ^ 24 + b2n paged * 2 ^ 29 + b2n write * 2 ^ 30 + 2 ^ 31)

/-- The serving program goes on bringing the module up (R379) once the bus is free: the transaction that CMIS asks for next, or its end. With no
application for the speed the port stays down and the Trail says so. -/
def State.cmisGo (s : State) (p : Nat) : State :=
  let x := s.port p
  match x.cmis with
  | none => s
  | some got =>
    if s.flag (macBase p + 0x200) 31 then s
    else
      let busy := s.setPort p { x with cmisBusy := true }
      match Config.cmisNext (s.fld (macBase p + 4) 11 9) got with
      | .read addr page len paged => moduleStart p addr page (max 1 len) paged false busy
      | .write addr page paged data =>
        let d := padTo 8 data
        moduleStart p addr page (max 1 data.length) paged true ((busy.wr (macBase p + 0x204) (leAt d 0 4)).wr (macBase p + 0x208) (leAt d 4 4))
      | .noApp => ((s.setPort p { x with cmis := none }).setFld (macBase p + 4) 7 6 0).svEvent 0x0500 (portSource p) (leBytes 1 p ++ zeros 15)
      | .activated => s.setPort p { x with cmis := none, dataPath := true }

/-- R379, at a module's insertion and a link restart with MEDIA 0: reset is released and LPMODE cleared, and the module is brought up from the
start. -/
def State.cmisStart (s : State) (p : Nat) : State :=
  if s.fld (macBase p) 9 8 ≠ 0 then s
  else
    let s := s.setPort p { s.port p with cmis := none, cmisBusy := false, dataPath := false }
    if s.flag (macBase p + 0x20C) 2 = false then s
    else (((s.setFld (macBase p + 0x210) 3 2 0)).setPort p { s.port p with cmis := some [] }).cmisGo p

/-- MODULE_TRANSACTION_END (R378): GO falls; NACK or TIMEOUT, or the bytes read. -/
def moduleEnd (p : Nat) (nack timeout : Bool) (data : Bytes) (s : State) : State :=
  let a := macBase p + 0x200
  if !s.flag a 31 then s
  else
    let st := macBase p + 0x20C
    let isWrite := s.flag a 30
    let n := s.fld a 26 24 + 1
    let s := ((s.setFlag a 31 false).setFlag st 0 nack).setFlag st 1 timeout
    let ok := !nack && !timeout
    let s := if !ok || isWrite then s
      else
        let b := patch (leBytes 4 (s.rd (macBase p + 0x204)) ++ leBytes 4 (s.rd (macBase p + 0x208))) 0 (padTo n data)
        (s.wr (macBase p + 0x204) (leAt b 0 4)).wr (macBase p + 0x208) (leAt b 4 4)
    let x := s.port p
    let got := if ok then (if isWrite then [0] else padTo n data) else []
    (s.setPort p { x with cmis := if x.cmisBusy then x.cmis.map (· ++ [got]) else x.cmis, cmisBusy := false }).cmisGo p


/-- The port tries to bring its link up at its speed, or stays down (R372, R375). -/
def State.linkTries (s : State) (p : Nat) : State :=
  let b := macBase p
  if s.flag b 0 && fecOk (s.fld (b + 4) 11 9) (s.fld b 7 6) then s.setFld (b + 4) 7 6 1 else s.setFld (b + 4) 7 6 0

/-- LINK_RESTART (R371, R372, R375): the link starts again under MACn_CTL. -/
def linkRestart (p : Nat) (s : State) : State :=
  let s := s.linkFalls p
  let s := (s.setFld (macBase p + 4) 11 9 (fSPEED p s)).setFlag (macBase p + 4) 8 false
  (s.setPort p { s.port p with change := none }).linkTries p |>.cmisStart p

/-- The latencies of Table 9-2 at a speed, in ns. -/
def rxLatency (speed fec : Nat) : Nat :=
  if speed = 0 then 96 else if speed = 1 then 118 else if speed = 2 then 164 else if speed = 3 then 268 else if fec = 1 then 296 else 42
def txLatency (speed fec : Nat) : Nat :=
  if speed = 0 then 32 else if speed = 1 then 38 else if speed = 2 then 52 else if speed = 3 then 74 else if fec = 1 then 86 else 30

/-- The serving program writes the timestamp offsets for the speed in force (R406). -/
def State.stampOffsets (s : State) (p : Nat) : State :=
  let v := s.fld (macBase p + 4) 11 9
  let e := s.fld (macBase p) 7 6
  (s.wr (macBase p + 0x600) ((256 * rxLatency v e + Config.boardRxOfs p) % 2 ^ 24)).wr (macBase p + 0x604) ((256 * txLatency v e + Config.boardTxOfs p) % 2 ^ 24)

/-- The bytes of line time of the millisecond that ends, in percent of the speed in force (MACn_UTIL). -/
def State.utilOf (s : State) (p n : Nat) : Nat := min 100 (n * 8 * 100 / (speedMbps (s.fld (macBase p + 4) 11 9) * 1000))

/-- At each millisecond MACn_UTIL takes the one that has ended. -/
def State.utilTick (s : State) (p : Nat) : State :=
  let x := s.port p
  (s.wr (macBase p + 0x24) (s.utilOf p x.rxLoad + s.utilOf p x.txLoad * 256)).setPort p { x with rxLoad := 0, txLoad := 0 }

/-- LINK_UP (R376): PCS and FEC have locked, on copper after training, a module's data path activated (R379); a speed change completes (R410, R411). -/
def macLinkUp (p : Nat) (s : State) : State :=
  let b := macBase p
  if s.portState p ≠ 1 ∨ s.loopDepth p = 4 ∨ (s.loopDepth p = 0 ∧ s.fld b 9 8 = 0 ∧ (s.port p).dataPath = false) then s else
  let s := s.setFld (b + 4) 3 2 3
  let s := s.setFlag (b + 4) 4 (s.fld b 9 8 == 1)
  let s := ((s.setFlag (b + 4) 0 true).setFlag (b + 4) 1 true).setFld (b + 4) 7 6 2
  let s := s.setFlag (b + 4) 8 (s.fld (b + 4) 11 9 != fSPEED p s)
  let s := match (s.port p).change with
    | some (old, new) =>
      ((s.setPort p { s.port p with change := none, lastChange := some s.now }).bump (b + 0x8E0)).svEvent 0x0502 (portSource p)
        (leBytes 1 p ++ leBytes 1 old ++ leBytes 1 new ++ zeros 13)
    | none => s
  ((s.stampOffsets p).announce p).recheckHeads p

/-- LINK_DOWN (R376, R377, R397): the link is lost; the port tries again while ENABLE is 1. At loopback depths 1 and 2 LINK_UP reads 1
whatever the balls carry (R553). -/
def macLinkDown (p : Nat) (s : State) : State :=
  if s.linkUp p && s.loopDepth p != 1 && s.loopDepth p != 2 then (s.linkFalls p).linkTries p else s

/-- DOZE_LOWER (R409, R410): step 1 of Table 9-9 toward DOZE_SPEED. -/
def dozeLower (p : Nat) (s : State) : State :=
  let r := s.cfg.active.get secPort p
  let x := s.port p
  let recent := match x.lastChange with
    | some t => decide (s.now < t + 90000000000)
    | none => false
  if !bit (byteAt r 14) 2 || !s.portTakes p || s.flag (macBase p + 4) 8 || x.change.isSome || (s.port (other p)).change.isSome ||
    !s.linkUp (other p) || recent || decide (s.now < x.noAutoUntil) then s
  else
    let s := s.setPort p { x with change := some (fSPEED p s, byteAt r 15) }
    s.setFld (macBase p + 4) 7 6 3

/-- DOZE_RAISE (R409): back toward SPEED, at once. -/
def dozeRaise (p : Nat) (s : State) : State :=
  let x := s.port p
  let cur := s.fld (macBase p + 4) 11 9
  if !s.portTakes p || cur = fSPEED p s || x.change.isSome || (s.port (other p)).change.isSome || decide (s.now < x.noAutoUntil) then s
  else (s.setPort p { x with change := some (cur, fSPEED p s) }).setFld (macBase p + 4) 7 6 3

/-- DOZE_LINK_DOWN (R410): steps 3 and 4, the link down and restarting at the new speed. -/
def dozeLinkDown (p : Nat) (s : State) : State :=
  match (s.port p).change with
  | none => s
  | some (_, new) =>
    if s.portState p ≠ 3 then s else
    let s := s.linkFalls p
    ((s.setFld (macBase p + 4) 11 9 new).setFlag (macBase p + 4) 8 (new % 8 != fSPEED p s)).linkTries p |>.cmisStart p

/-- DOZE_FAIL (R411): not up within 1 s, so the port restarts at the speed it had. -/
def dozeFail (p : Nat) (s : State) : State :=
  let x := s.port p
  match x.change with
  | none => s
  | some (old, new) =>
    if s.linkUp p then s else
    let s := s.setPort p { x with change := none, noAutoUntil := s.now + 900000000000 }
    let s := s.svEvent 0x0503 (portSource p) (leBytes 1 p ++ leBytes 1 new ++ zeros 14)
    ((s.setFld (macBase p + 4) 11 9 old).setFlag (macBase p + 4) 8 (old != fSPEED p s)).linkTries p |>.cmisStart p

/-! Module pins (R379). -/

def modulePresence (p : Nat) (present : Bool) (s : State) : State :=
  let st := macBase p + 0x20C
  if s.flag st 2 = present then s
  else (((s.setFlag st 2 present).setFlag st 4 true).setFlag (macBase p + 4) 5 present).cmisStart p

def moduleInterrupt (p : Nat) (low : Bool) (s : State) : State :=
  let st := macBase p + 0x20C
  let s := s.setFlag st 3 low
  if low then s.setFlag st 5 true else s

/-! The management port (R414, R415). -/

/-- The management port's loopback depth (R553): while it is looped nothing reaches the Keeper by that port (R555). -/
def State.mgtDepth (s : State) : Nat := s.fld 0x50030 2 0

def mgtRxFrame (raw : Bytes) (good : Bool) (s : State) : State :=
  if !s.flag 0x50000 0 || !s.flag 0x50004 0 || s.mgtDepth != 0 then s
  else if !good ∨ raw.length < 64 ∨ 1522 < raw.length then s.bump 0x50108
  else
    let da := beAt raw 0 6
    let entry := fun (i : Nat) =>
      let hi := s.rd (0x50014 + 8 * i)
      bit hi 31 && da == s.rd (0x50010 + 8 * i) + bits hi 0 16 * 2 ^ 32
    let ok := da == s.c64 0x50008 % 2 ^ 48 || (da == 2 ^ 48 - 1 && beAt raw 12 2 == 0x0806) || entry 0 || entry 1 || s.flag 0x50000 3
    if !ok then s
    else if 32 ≤ s.net.mgtRing.length then s.bump 0x50110
    else (s.setNet { s.net with mgtRing := s.net.mgtRing ++ [raw] }).bump 0x50100

def mgtLinkSet (up : Bool) (s : State) : State :=
  if s.flag 0x50004 0 = up then s
  else ((s.setFlag 0x50004 0 up).setFlag 0x50004 1 true).setFlag 0x50004 2 (up && s.flag 0x50000 2)

/-- MGT_LINK_CHANGE: at loopback depth 2 LINK_UP reads 1, and at depth 4 the port stays down (R553). -/
def mgtLinkChange (up : Bool) (s : State) : State := if s.mgtDepth = 2 ∨ s.mgtDepth = 4 then s else mgtLinkSet up s

/-! PTP and time messages (R405, R407, R408). -/

/-- PTP_TX: the Keeper's frame goes to the named port's MAC (R477). -/
def ptpTx (s : State) : State :=
  match s.takeS 0x42 with
  | none => s
  | some (m, s) =>
    let p := byteAt m.data 0 % 2
    let len := leAt m.data 6 2
    let f : TxFrame := { bytes := slice m.data 8 len, prio := byteAt m.data 1 % 8, emit := none,
                         stamp := if bit (byteAt m.data 4) 0 then some (leAt m.data 2 2) else none, bad := false, quick := false, sess := none }
    if s.portTakes p then s.txPush p f else s.txDiscard p none

/-- TX_TIMESTAMP (R408): the oldest entry of a port goes to the Keeper once the Fence has room; then the marker. -/
def txTimestamp (p : Nat) (s : State) : State :=
  let x := s.port p
  let ent := fun (a b c kind d : Nat) => leBytes 8 a ++ leBytes 2 b ++ leBytes 2 c ++ leBytes 1 p ++ leBytes 1 kind ++ leBytes 2 d
  let room := fun (d : Bytes) => match partsOf 0x44 false 0 0x60 d with
    | q :: _ => roomFor s.fence.toK (capK q) 1 && s.fence.hold.isNone
    | [] => false
  match x.ts with
  | e :: t =>
    let d := ent e.ns e.frac e.seqId 0 0
    if room d then (s.setPort p { x with ts := t }).toKeeper 0x44 false 0 d else s
  | [] => match x.mark with
    | some m =>
      let d := ent m.ns m.last m.first 1 m.count
      if room d then (s.setPort p { x with mark := none }).toKeeper 0x44 false 0 d else s
    | none => s

/-- MACn_TS_LEVEL as it stands. -/
def State.tsLevel (s : State) (p : Nat) : Nat := (s.port p).ts.length + 128 * b2n (s.port p).mark.isSome

def timeSet (s : State) : State :=
  match s.takeLead 0x40 with
  | none => s
  | some (m, s) => phcStep (s.setC64 0x10500910 (leAt m.data 0 8))

def timeAdj (s : State) : State :=
  match s.takeLead 0x41 with
  | none => s
  | some (m, s) => s.wr 0x1050090C (leAt m.data 0 4)

/-! The commands. `p`: the port. -/

def execLinkRestart (p : Fin 2) (s : State) : Out := s.onSvM (linkRestart p)
def execLinkUp (p : Fin 2) (s : State) : Out := s.onSvM (macLinkUp p)
def execLinkDown (p : Fin 2) (s : State) : Out := s.onSv (macLinkDown p)
def execModuleRead (p : Fin 2) (addr page : Byte) (len : Fin 8) (paged : Bool) (s : State) : Out :=
  s.onSv (moduleStart p addr.toNat page.toNat (len.val + 1) paged false)
def execModuleWrite (p : Fin 2) (addr page : Byte) (len : Fin 8) (paged : Bool) (data : DWord) (s : State) : Out :=
  s.onSv fun s =>
    if s.flag (macBase p + 0x200) 31 then s
    else moduleStart p addr.toNat page.toNat (len.val + 1) paged true
      ((s.wr (macBase p + 0x204) (data.toNat % 2 ^ 32)).wr (macBase p + 0x208) (data.toNat / 2 ^ 32))
def execModuleTransactionEnd (p : Fin 2) (nack timeout : Bool) (data : Bytes) (s : State) : Out := s.onSv (moduleEnd p nack timeout data)
def execModulePresenceChange (p : Fin 2) (present : Bool) (s : State) : Out := s.onSv (modulePresence p present)
def execModuleInterrupt (p : Fin 2) (low : Bool) (s : State) : Out := s.onSv (moduleInterrupt p low)
def execRxFree (p : Fin 2) (addr : BitVec 23) (s : State) : Out := s.onSv (rxFree p addr.toNat)
def execPfcRefresh (p : Fin 2) (prio : Fin 9) (s : State) : Out := s.onSv (pfcRefresh p prio)
def execPauseExpiry (p : Fin 2) (prio : Fin 9) (s : State) : Out := s.onSv (pauseExpiry p prio)
def execPauseWatchdog (p : Fin 2) (prio : Fin 9) (s : State) : Out := s.onSv (pauseWatchdog p prio)
def execWatchdogHoldEnd (p : Fin 2) (prio : Fin 9) (s : State) : Out := s.onSv (watchdogHoldEnd p prio)
def execMacTxSelect (p : Fin 2) (s : State) : Out := s.onSv (macTxSelect p)
def execMacTxFrameEnd (p : Fin 2) (s : State) : Out := s.onSv (macTxFrameEnd p)
def execGateEntryChange (p : Fin 2) (s : State) : Out := s.onSv (gateEntryChange p)
def execTgCommit (p : Fin 2) (s : State) : Out := s.onSv (tgCommit p)
def execTgCancel (p : Fin 2) (s : State) : Out := s.onSv (tgCancel p)
def execTgChange (p : Fin 2) (s : State) : Out := s.onSv (tgChange p)
def execPhcStep (s : State) : Out := s.onSv phcStep
def execDozeLower (p : Fin 2) (s : State) : Out := s.onSvM (dozeLower p)
def execDozeRaise (p : Fin 2) (s : State) : Out := s.onSvM (dozeRaise p)
def execDozeLinkDown (p : Fin 2) (s : State) : Out := s.onSv (dozeLinkDown p)
def execDozeFail (p : Fin 2) (s : State) : Out := s.onSvM (dozeFail p)
def execMgtLinkChange (up : Bool) (s : State) : Out := s.onOp (mgtLinkChange up)
def execTimeSet (s : State) : Out := s.onSv timeSet
def execTimeAdj (s : State) : Out := s.onSv timeAdj
def execPtpTx (s : State) : Out := s.onSv ptpTx
def execTxTimestamp (p : Fin 2) (s : State) : Out := s.onSv (txTimestamp p)

end Sys2Proof.Machine
end

