-- ==== Sys2Proof/Machine/Storage.lean ====
section
/-! DEFINITION. Flash jobs and channels (R291 to R306), the hard log (R287 to R289), segments, flush, grooming
(R297 to R317), the clean stop (R323) and recovery (R324). -/
namespace Sys2Proof.Machine

def rFlcCtl : Nat := 0x10400000
def rFlcStatus : Nat := 0x10400004

def Segm.erased : Segm := { state := 0, kind := 0, slc := false, segSeq := 0, leaseEnd := 0, boot := 0, erases := 0, eraseStopped := false }
def State.seg (s : State) (n : Nat) : Segm := (mget s.st.segs n).getD Segm.erased
def State.setSeg (s : State) (n : Nat) (x : Segm) : State := s.setSt { s.st with segs := mset s.st.segs n x }

/-! Flash jobs (R302 to R305). -/

def FJob.op (j : FJob) : Nat := byteAt j.desc 0
def FJob.xts (j : FJob) : Bool := bit (byteAt j.desc 1) 0
def FJob.slc (j : FJob) : Bool := bit (byteAt j.desc 1) 1
def FJob.acc (j : FJob) : Bool := bit (byteAt j.desc 1) 2
def FJob.recover (j : FJob) : Bool := bit (byteAt j.desc 1) 3
def FJob.accId (j : FJob) : Nat := byteAt j.desc 2 % 8
def FJob.seg (j : FJob) : Nat := bits (leAt j.desc 4 4) 0 18
def FJob.cw (j : FJob) : Nat := bits (leAt j.desc 8 4) 0 18
def FJob.count (j : FJob) : Nat := leAt j.desc 12 2
def FJob.buf (j : FJob) : Nat := leAt j.desc 16 8
def FJob.segSeq (j : FJob) : Nat := leAt j.desc 24 8
def FJob.rawLen (j : FJob) : Nat := leAt j.desc 43 2

/-- FLJOB by a thread (R228, R302). -/
def execFljob (t : Fin 256) (rd rs1 : Fin 32) (s : State) : Out :=
  startJob t rd rs1 0x3A 64 (fun _ => false) (fun s i b =>
    let j : FJob := { id := s.st.nextJob, thread := t, ticket := i, desc := b, running := false, bound := false }
    s.setSt { s.st with jobs := s.st.jobs ++ [j], nextJob := s.st.nextJob + 1 }) s

/-- FLJOB whose descriptor names OP `n`, or a reserved OP, whose job ends with FAULT (Table 7-6). -/
def fljobOf (n : Nat) (t : Fin 256) (rd rs1 : Fin 32) (s : State) : Out :=
  match execFljob t rd rs1 s with
  | .next s2 =>
    if s2.st.nextJob = s.st.nextJob then .next s2
    else match s2.st.jobs.getLast? with
      | some j => if j.op = n ∨ j.op = 0 ∨ 6 ≤ j.op then .next s2 else .next s
      | none => .next s2
  | o => o

def execFlashRead (t : Fin 256) (rd rs1 : Fin 32) (s : State) : Out := fljobOf 1 t rd rs1 s
def execFlashProgram (t : Fin 256) (rd rs1 : Fin 32) (s : State) : Out := fljobOf 2 t rd rs1 s
def execFlashParity (t : Fin 256) (rd rs1 : Fin 32) (s : State) : Out := fljobOf 3 t rd rs1 s
def execFlashErase (t : Fin 256) (rd rs1 : Fin 32) (s : State) : Out := fljobOf 4 t rd rs1 s
def execFlashRaw (t : Fin 256) (rd rs1 : Fin 32) (s : State) : Out := fljobOf 5 t rd rs1 s

/-- The LUNs a job works on. -/
def State.jobLuns (s : State) (j : FJob) : List Nat :=
  if j.op = 4 then (List.range 16).map fun ch => s.segLun j.seg ch
  else if j.op = 3 then [s.segLun j.seg (s.cwStripe j.cw % 16)]
  else if j.op = 5 then
    let ch := byteAt j.desc 32 % 16
    [ch * 16 + s.lunOfBit ch (byteAt j.desc 33 % 8 * 4 + byteAt j.desc 33 / 8 % 4)]
  else [s.segLun j.seg (s.cwChannel j.cw)]

def FJob.bytes (j : FJob) (set : Nat) : Nat := if j.op = 1 then j.count * 4096 else if j.op = 2 then set * 4096 else if j.op = 5 then j.rawLen else 0

/-- A job Test lets through (R551): READ, and RAW with a status, ID or feature command. -/
def FJob.testOk (j : FJob) : Bool := j.op == 1 || (j.op == 5 && [0x70, 0x78, 0x90, 0xEC, 0xEE, 0xEF].contains (byteAt j.desc 35))

/-- Table 7-5's ranges. -/
def State.fjobValid (s : State) (j : FJob) : Bool :=
  let set := s.pageSet
  let sp := j.buf / 2 ^ 60
  let a := j.buf % 2 ^ 40
  let n := j.bytes set
  let write := j.op = 1 ∨ (j.op = 5 ∧ byteAt j.desc 45 = 0)
  let bufOk := n = 0 ∨ ((sp = 1 ∨ sp = 3) ∧ a % 64 = 0 ∧ s.spaceOk sp a n (decide write) = true)
  let place := j.seg < s.flSegs ∧ j.cw < s.segCws j.slc
  if j.op = 1 then decide (place ∧ 1 ≤ j.count ∧ j.count ≤ set ∧ j.cw % max set 1 + j.count ≤ set ∧ bufOk)
  else if j.op = 2 then decide (place ∧ j.count = 0 ∧ j.cw % max set 1 = 0 ∧ bufOk)
  else if j.op = 3 then decide (place ∧ j.count = 0)
  else if j.op = 4 then decide (j.seg < s.flSegs ∧ j.count = 0)
  else if j.op = 5 then decide (byteAt j.desc 32 < 16 ∧ 1 ≤ byteAt j.desc 34 ∧ byteAt j.desc 34 ≤ 8 ∧ j.rawLen ≤ 4096 ∧ bufOk)
  else false

/-- The accumulator a job names: that of the controller that owns the stripe's parity channel (R304). -/
def State.accKey (s : State) (j : FJob) : Nat := s.cwStripe j.cw % 16 / 8 * 8 + j.accId

/-- The XTS key in force: the slot of the storage record, and the next one with XTS-256 (R428). -/
def State.xtsKey (s : State) : Option Bytes :=
  let k := s.storageRec 24 2
  let x := s.slot k
  let y := s.slot (k + 1)
  match x.cur, y.cur with
  | some a, some b => if x.typ = 4 ∧ y.typ = 5 then some (a.key ++ b.key) else if x.typ = 3 then some a.key else none
  | some a, none => if x.typ = 3 then some a.key else none
  | none, _ => none

/-- A flash job ends (Table 5-15). -/
def State.fjobEnd (s : State) (j : FJob) (status result : Nat) : State :=
  let s := s.setSt { s.st with jobs := s.st.jobs.filter fun (x : FJob) => x.id != j.id }
  let s := if j.bound then
      let k := s.storageRec 24 2
      (s.setSlot k ((s.slot k).count (s.slot k).gen false)).settleSlot k
    else s
  let s := if status = 2 then s.bump 0x10700118 else if status = 4 then s.bump 0x10400440 else s
  s.jobDone j.thread j.ticket status result

/-- May READ `j` run while the running job `x` is suspended (R293)? Not where `x` programs its page-set or erases its segment (R303). -/
def State.passes (s : State) (j x : FJob) : Bool :=
  s.flag rFlcCtl 1 && s.st.suspend && j.op == 1 && x.running && (x.op == 2 || x.op == 3 || x.op == 4) &&
    !(x.op == 2 && x.seg == j.seg && x.cw / max s.pageSet 1 == j.cw / max s.pageSet 1) && !(x.op == 4 && x.seg == j.seg)

/-- FLASH_JOB_START (R293, R302, R303): LUN `lun` begins its oldest queued job, if no earlier job of its LUNs stands and, for an
ERASE, none on its segment; the XTS pipe of its controller passed its tests (R442); a READ suspends a running PROGRAM or ERASE where the flash and SUSPEND_EN allow it. A job that cannot run
ends at once. -/
def flashJobStart (lun : Nat) (s : State) : State :=
  match s.st.jobs.find? fun j => !j.running && (s.jobLuns j).contains lun with
  | none => s
  | some j =>
    let earlier := s.st.jobs.filter fun x => decide (x.id < j.id)
    let luns := s.jobLuns j
    if s.flag rFlcCtl 0 = false then s.fjobEnd j 3 0
    else if !s.fjobValid j || (s.power.base == .test && !j.testOk) then s.fjobEnd j 3 0
    else if (earlier.any fun x => !s.passes j x && ((s.jobLuns x).any luns.contains || (j.op = 4 && x.op ≠ 5 && x.seg = j.seg))) = true then s
    else if j.xts && (!s.flag rCphCtl 1 || luns.any fun l => s.flag rCphStatus (18 + l / 128)) then s.fjobEnd j 3 0
    else if j.xts && s.xtsKey.isNone then s.fjobEnd j 2 0
    else
      let bad := match mget s.st.accums (s.accKey j) with
        | some a => a.seg != j.seg || a.stripe != s.cwStripe j.cw
        | none => j.op == 3
      if ((j.op = 2 && j.acc) || j.op = 3) && bad then s.fjobEnd j 3 0
      else
        let xslot := s.storageRec 24 2
        let s := if j.xts then s.setSlot xslot ((s.slot xslot).count (s.slot xslot).gen true) else s
        s.setSt { s.st with jobs := s.st.jobs.map fun (x : FJob) => if x.id = j.id then { x with running := true, bound := j.xts } else x }

def cwKey (seg c : Nat) : Nat := seg * 2 ^ 18 + c

/-- A codeword that is never enciphered (R299): codeword 0, and the last data codeword of a run segment. -/
def State.cwClear (s : State) (seg c : Nat) : Bool :=
  c == 0 || ((s.seg seg).kind == 1 && c + 1 == s.segCws (s.seg seg).slc)

def tweakOf (segSeq c : Nat) : Bytes := leBytes 8 c ++ leBytes 8 segSeq

/-- The 4,608 bytes of a codeword as they lie on the media, before LDPC. -/
def lc72Lines : Nat → Bytes → Bytes
  | 0, _ => []
  | n + 1, b => padTo 64 b ++ padTo 8 (Config.lc72 (padTo 64 b)) ++ lc72Lines n (b.drop 64)
def Cw.raw (w : Cw) : Bytes :=
  let b := lc72Lines 64 w.data
  match w.xts with
  | some (k, t) => padTo 4608 (Config.xtsEnc k t b)
  | none => b

def xorBytes : Bytes → Bytes → Bytes
  | [], b => b
  | a, [] => a
  | x :: a, y :: b => (x ^^^ y) :: xorBytes a b

def failResult (slot status : Nat) : Nat := slot * 256 + status

/-- What one codeword of a READ delivers: its data, and whether its lines are poisoned. Data enciphered under another key or
tweak does not decode. -/
def State.readCw (s : State) (j : FJob) (c : Nat) (f : CwFate) : Bytes × Bool :=
  match f with
  | .lost => (zeros 4096, true)
  | _ => match mget s.st.media (cwKey j.seg c) with
    | none => (zeros 4096, true)
    | some w =>
      let want := if j.xts && !s.cwClear j.seg c then s.xtsKey.map fun k => (k, tweakOf j.segSeq c) else none
      (padTo 4096 w.data, w.xts != want)

def fateStep : CwFate → Nat
  | .read n _ => n
  | .rebuilt n _ => n
  | .lost => 0
def fateBits : CwFate → Nat
  | .read _ b => b
  | .rebuilt _ b => b
  | .lost => 0
def fateRebuilt : CwFate → Bool
  | .rebuilt _ _ => true
  | _ => false
def fateLost : CwFate → Bool
  | .lost => true
  | _ => false

/-- READ ends (R305): a codeword of an absent LUN is rebuilt, and a group that lacks two is lost (R295); one never programmed
does not decode. -/
def State.readEnd (s : State) (j : FJob) (fates : List CwFate) : State :=
  let steps := s.fld 0x10400014 3 0
  let gone := s.lostChans (j.seg % s.flGroups)
  let away := gone.contains (s.cwChannel j.cw)
  let norm := fun (i : Nat) (f : CwFate) =>
    if 2 ≤ gone.length || (mget s.st.media (cwKey j.seg (j.cw + i))).isNone then CwFate.lost else match f with
    | .rebuilt n b => if j.recover || away then .rebuilt (min n steps) b else .lost
    | .read n b => if away then .rebuilt (min n steps) b else .read (min n steps) b
    | .lost => .lost
  let fs := (List.range j.count).map fun i => norm i ((fates[i]?).getD (.read 0 0))
  let out := fs.zipIdx.map fun (f, i) => s.readCw j (j.cw + i) f
  let data := out.flatMap (·.1)
  let lost := (fs.filter fateLost).length
  let badLines := (out.zipIdx.filter fun x => x.1.2).flatMap fun x => (List.range 64).map fun k => x.2 * 64 + k
  let sp := j.buf / 2 ^ 60
  let a := j.buf % 2 ^ 40
  let e := engineOf j.thread
  let s := spaceWrite s e sp a data
  let s := s.carryPoison e sp a data.length 0 badLines
  let s := (s.bump 0x10400400 j.count).bump 0x10400410 ((fs.map fateBits).sum)
  let s := (s.bump 0x10400418 ((fs.filter fun f => fateStep f != 0).length)).bump 0x10400420 ((fs.filter fateRebuilt).length)
  let s := s.bump 0x10400428 lost
  let r := ((fs.map fateStep).foldl max 0) * 2 ^ 24 + (fs.filter fateRebuilt).length % 256 * 65536 + ((fs.map fateBits).foldl max 0) % 65536
  s.fjobEnd j (if lost = 0 then 0 else 5) r

/-- A segment is retired (R301). -/
def State.retire (s : State) (n : Nat) : State := (s.setSeg n { s.seg n with state := 3 }).bump 0x10005050

/-- The flash controller of a PROGRAM (Table 1-2). -/
def State.jobStop (s : State) (j : FJob) : Nat := if s.cwChannel j.cw < 8 then 12 else 15

/-- PROGRAM ends (R304): refused where a source line is poisoned; `fail`: failing data slot and ONFI status; `told`: lines
already reported. -/
def State.programEnd (s : State) (j : FJob) (fail : Option (Nat × Nat)) (told : List Nat) : State :=
  let set := s.pageSet
  let sp := j.buf / 2 ^ 60
  let a := j.buf % 2 ^ 40
  let e := engineOf j.thread
  let n := set * 4096
  let bad := poisonLines s e sp a n
  if !bad.isEmpty then
    let s := if bad.any fun i => !told.contains i then s.linePoisoned (s.jobStop j) a else s
    (s.bump 0x10400448).fjobEnd j 1 0
  else
    let b := spaceRead s e sp a n
    let cws := (List.range set).map fun i =>
      let c := j.cw + i
      let x := if j.xts && !s.cwClear j.seg c then s.xtsKey.map fun k => (k, tweakOf j.segSeq c) else none
      (cwKey j.seg c, ({ data := slice b (4096 * i) 4096, xts := x } : Cw))
    let s := if j.acc then
        let raw := cws.flatMap fun w => w.2.raw
        let old := ((mget s.st.accums (s.accKey j)).map (·.data)).getD []
        s.setSt { s.st with accums := mset s.st.accums (s.accKey j) { seg := j.seg, stripe := s.cwStripe j.cw, data := xorBytes old raw } }
      else s
    match fail with
    | some (slot, st) => ((s.bump 0x10400430).retire j.seg).fjobEnd j 0 (failResult slot st)
    | none =>
      let s := s.setSt { s.st with media := cws.foldl (fun m w => mset m w.1 w.2) s.st.media }
      (s.bump 0x10400408 set).fjobEnd j 0 (failResult 0xFF 0xE0)

/-- PARITY ends: the accumulator becomes the stripe's parity and is free. -/
def State.parityEnd (s : State) (j : FJob) (fail : Option (Nat × Nat)) : State :=
  let k := s.accKey j
  let data := ((mget s.st.accums k).map (·.data)).getD []
  let s := s.setSt { s.st with accums := mdel s.st.accums k }
  match fail with
  | some (slot, st) => ((s.bump 0x10400430).retire j.seg).fjobEnd j 0 (failResult slot st)
  | none =>
    let s := s.setSt { s.st with parity := mset s.st.parity (j.seg * 2 ^ 18 + s.cwStripe j.cw) data }
    (s.bump 0x10400408 s.pageSet).fjobEnd j 0 (failResult 0xFF 0xE0)

def dropSeg {α : Type} (m : Map α) (seg : Nat) : Map α := m.filter fun e => e.1 / 2 ^ 18 != seg

/-- ERASE ends. -/
def State.eraseEnd (s : State) (j : FJob) (fail : Option (Nat × Nat)) : State :=
  match fail with
  | some (slot, st) => ((s.bump 0x10400438).retire j.seg).fjobEnd j 0 (failResult slot st)
  | none =>
    let x := s.seg j.seg
    let s := s.setSt { s.st with media := dropSeg s.st.media j.seg, parity := dropSeg s.st.parity j.seg }
    (s.setSeg j.seg { Segm.erased with erases := x.erases + 1 }).fjobEnd j 0 (failResult 0xFF 0xE0)

/-- FLASH_JOB_COMPLETE (R305): the running job `id` ends. `fates`: what reading each codeword met; `fail`: the failing slot
and status of a program or erase; `ce`, `ue`: buffer lines found correctable and uncorrectable; `old`: what the read-modify-write of a
DRAM line written in part finds (R335); `raw`: bytes a RAW read got. -/
def flashJobComplete (id : Nat) (fates : List CwFate) (fail : Option (Nat × Nat)) (ce ue : List Nat) (old : Ecc) (raw : Bytes) (s : State) : State :=
  match s.st.jobs.find? fun j => j.id = id && j.running with
  | none => s
  | some j =>
    let sp := j.buf / 2 ^ 60
    if sp = 3 ∧ j.bytes s.pageSet ≠ 0 ∧ s.dramReady = false then s
    else if j.xts && s.xtsKey.isNone then s.fjobEnd j 2 0
    else if j.op = 1 then s.readEnd j fates
    else if j.op = 2 then (s.decodeLines (s.jobStop j) (engineOf j.thread) (s.linesOf sp (j.buf % 2 ^ 40) (j.bytes s.pageSet)) ce ue).programEnd j fail
        ue
    else if j.op = 3 then s.parityEnd j fail
    else if j.op = 4 then s.eraseEnd j fail
    else
      let s := if byteAt j.desc 45 = 0 ∧ j.rawLen ≠ 0 then
          let s := if sp = 3 then s.rmwEnds (j.buf % 2 ^ 40) j.rawLen old else s
          let s := spaceWrite s (engineOf j.thread) sp (j.buf % 2 ^ 40) (padTo j.rawLen raw)
          s.carryPoison (engineOf j.thread) sp (j.buf % 2 ^ 40) j.rawLen 0 [] else s
      s.fjobEnd j 0 j.rawLen

/-- Erased capacity left in the Brace area, in journal lines (R284): its free page-sets but the two an image's headers take, on
segments of die groups that have every LUN (R295). -/
def State.countBrace (s : State) : State :=
  let good := fun (n : Nat) => !s.st.lostGroups.contains (n % s.flGroups)
  let open_ := match s.st.braceSeg with
    | some (n, k) => if good n then s.slcSets - k else 0
    | none => 0
  let sets := (s.st.braceFree.filter good).length * (s.slcSets - 1) + open_
  s.setSt { s.st with braceErased := (sets - 2) * 64 * s.pageSet }

/-- Die group `g` has an absent LUN. -/
def State.loseGroup (s : State) (g : Nat) : State :=
  (if s.st.lostGroups.contains g then s else s.setSt { s.st with lostGroups := s.st.lostGroups ++ [g] }).countBrace

/-- A die group whose every LUN answers again is no longer degraded. -/
def State.regainGroups (s : State) : State :=
  (s.setSt { s.st with lostGroups := s.st.lostGroups.filter fun g => (List.range 16).any fun ch => !s.lunPresent (ch * 16 + g) }).countBrace

/-- A LUN is absent (R295). -/
def State.lunLost (s : State) (lun : Nat) : State :=
  let ch := lun / 16
  let b := s.presentBit ch (lun % 16)
  ((s.loseGroup (lun % 16)).setFlag (0x10400104 + 16 * ch) b false |>.setFlag rStState 2 true).svEvent 0x0402 8
    (leBytes 1 ch ++ leBytes 1 (b / 4) ++ leBytes 1 (b % 4) ++ zeros 13)

/-- FLASH_STATUS_POLL (R294, R295): READ STATUS ENHANCED on every busy LUN; `lost`: those that no longer answer. -/
def flashStatusPoll (lost : List Nat) (s : State) : State :=
  let busy := (s.st.jobs.filter (·.running)).flatMap s.jobLuns
  (lost.filter fun l => busy.contains l && s.lunPresent l).foldl (fun s l => s.lunLost l) s

/-- Targets of a channel that CE_EN and LUNS enable, as bits of FLC_CH_PRESENT. -/
def State.enabledLuns (s : State) (ch : Nat) : List Nat :=
  let a := 0x10400100 + 16 * ch
  (List.range 32).filter fun b => bit (s.fld a 15 8) (b / 4) && decide (b % 4 ≤ s.fld a 7 6)

/-- FLASH_CHANNEL_INIT (R294, R295): the channel's MODE and RATE are written and its sequence runs; `present`: the LUNs
that pass it; `bad`: segments whose block sets the flash marks as factory bad. -/
def flashChannelInit (ch mode rate present : Nat) (bad : List Nat) (s : State) : State :=
  let a := 0x10400100 + 16 * ch
  let s := if mode ≤ 2 then s.setFld a 2 0 mode else s
  let s := if rate ≤ 3 then s.setFld a 5 3 rate else s
  let on := s.enabledLuns ch
  let up := on.filter fun b => bit present b
  let s := s.wr (0x10400104 + 16 * ch) ((up.map fun b => 2 ^ b).sum)
  let lost := on.filter fun b => !bit present b
  let ev := fun (s : State) (b : Nat) => ((s.loseGroup (s.lunOfBit ch b)).setFlag rStState 2 true).svEvent 0x0402 8 (leBytes 1 ch ++ leBytes 1 (b / 4) ++ leBytes 1 (b % 4) ++ zeros 13)
  let s := (lost.foldl ev s).regainGroups
  let left := s.st.initing.filter (· != ch)
  let s := s.setSt { s.st with initing := left, badBlocks := s.st.badBlocks ++ bad.filter fun n => !s.st.badBlocks.contains n }
  s.setFlag rFlcStatus 0 left.isEmpty

/-- FLC_STATUS as it stands: READY, IDLE, BRACE_CLEAR. -/
def State.flcStatus (s : State) : Nat :=
  s.rd rFlcStatus % 2 + 2 * b2n s.st.jobs.isEmpty + 4 * b2n (s.flag rFlcCtl 2 && !(s.st.jobs.any (·.running)))

/-- R306: BRACE is set; queued jobs end with ABORTED, running erases are stopped by RESET, running programs complete. -/
def State.flashBrace (s : State) : State :=
  let s := s.setFlag rFlcCtl 2 true
  let queued := s.st.jobs.filter fun j => !j.running
  let s := queued.foldl (fun s j => s.fjobEnd j 4 0) s
  let s := s.setSt { s.st with aborted := s.st.aborted ++ queued }
  let running := s.st.jobs
  running.foldl (fun s j =>
    if j.op = 4 then (s.setSeg j.seg { s.seg j.seg with eraseStopped := true }).fjobEnd j 4 0
    else flashJobComplete j.id [] none [] [] .good [] s) s

/-! Segments (R297, R300, R301, R316, R317). -/

/-- Is the segment one of the Brace area (R318)? -/
def State.inBrace (s : State) (n : Nat) : Bool :=
  s.st.braceFree.contains n || s.st.braceSeg.any (fun x => x.1 == n) || s.st.images.any fun i => i.segs.contains n

/-- Erased segments that may be opened, those whose erase was stopped too, since they are erased again first (R306): outside the Brace
area, and in no die group with an absent LUN (R295). -/
def State.freeSegs (s : State) : List Nat :=
  (List.range s.flSegs).filter fun n => ((s.seg n).state = 0 || (s.seg n).eraseStopped) && !s.st.badBlocks.contains n && !s.inBrace n &&
    !s.st.lostGroups.contains (n % s.flGroups)

/-- The erased segment with the lowest erase count (R316). -/
def State.bestSeg (s : State) : Option Nat :=
  s.freeSegs.foldl (fun best n => match best with
    | none => some n
    | some b => if (s.seg n).erases < (s.seg b).erases then some n else some b) none

/-- The header of a segment (Table 7-4). -/
def State.segHeader (s : State) (n : Nat) : Bytes :=
  let x := s.seg n
  let h := leBytes 4 0x5E679640 ++ leBytes 4 n ++ leBytes 8 x.segSeq ++ leBytes 8 x.leaseEnd ++ leBytes 1 x.kind ++ leBytes 1 (b2n x.slc) ++
    zeros 2 ++ leBytes 4 (s.rd 0x10400008) ++ leBytes 4 x.boot
  padTo 4096 (h ++ leBytes 4 (crc32c h))

/-- Codewords that the serving program programs on segment `n`, enciphered as R296 and R299 say. -/
def State.putCws (s : State) (n : Nat) (l : List (Nat × Bytes)) : State :=
  let q := (s.seg n).segSeq
  let on := s.storageRec 23 1 != 0
  let key := s.xtsKey
  let cw := fun (e : Nat × Bytes) =>
    ({ data := padTo 4096 e.2, xts := if on && !s.cwClear n e.1 then key.map fun k => (k, tweakOf q e.1) else none } : Cw)
  s.setSt { s.st with media := l.foldl (fun m e => mset m (cwKey n e.1) (cw e)) s.st.media }

/-- The parity page-set of stripe `st`: the XOR of its data page-sets (R298); pages never programmed add nothing. -/
def State.stripeParity (s : State) (n st : Nat) : Bytes :=
  let set := s.pageSet
  let page := fun (slot : Nat) =>
    let c0 := (15 * st + slot) * set
    let cws := (List.range set).map fun i => mget s.st.media (cwKey n (c0 + i))
    if cws.all (·.isNone) then [] else cws.flatMap fun w => (w.map Cw.raw).getD (zeros 4608)
  (List.range 15).foldl (fun acc slot => xorBytes acc (page slot)) []

/-- The PARITY of every stripe that holds one of the codewords `cs` (R307). -/
def State.putParity (s : State) (n : Nat) (cs : List Nat) : State :=
  let sts := (cs.map s.cwStripe).eraseDups
  s.setSt { s.st with parity := sts.foldl (fun m x => mset m (n * 2 ^ 18 + x) (s.stripeParity n x)) s.st.parity }

/-- Segment `n` is erased. -/
def State.wipeSeg (s : State) (n : Nat) : State :=
  let x := s.seg n
  (s.setSt { s.st with media := dropSeg s.st.media n, parity := dropSeg s.st.parity n }).setSeg n { Segm.erased with erases := x.erases + 1 }

/-- Segment `n` is opened, erased again first where its erase was stopped (R306): its SEG_SEQ, a new LEASE_END where the next one would reach it (R300), and its header. -/
def State.openAt (s : State) (n kind : Nat) (slc : Bool) : State :=
  let s := if (s.seg n).eraseStopped then s.wipeSeg n else s
  let q := s.st.nextSegSeq
  let le := if s.st.segLease ≤ q + 1 then q + 65536 else s.st.segLease
  let s := s.setSt { s.st with nextSegSeq := q + 1, segLease := le }
  let s := s.setSeg n { s.seg n with state := 1, kind := kind, slc := slc, segSeq := q, leaseEnd := le, boot := s.rd rTrlBoot }
  s.putCws n [(0, s.segHeader n)]

/-- Open the best erased segment (R316). -/
def State.openSeg (s : State) (kind : Nat) (slc : Bool) : Option (Nat × State) :=
  match s.bestSeg with
  | none => none
  | some n => some (n, s.openAt n kind slc)

def openSegs (kind : Nat) : Nat → List Nat → State → Option (List Nat × State)
  | 0, l, s => some (l, s)
  | n + 1, l, s => match s.openSeg kind false with
    | some (k, s) => openSegs kind n (l ++ [k]) s
    | none => none

/-- SYS_ST_FREE_SEG and BELOW_RESERVE follow the segments (R79, R317). -/
def State.countFree (s : State) : State :=
  let n := s.freeSegs.length
  let usable := ((List.range s.flSegs).filter fun k => (s.seg k).state ≠ 3 && !s.st.badBlocks.contains k && !s.inBrace k).length
  (s.setFld 0x10005020 17 0 n).setFlag rStState 4 (decide (n * 100 < usable * s.storageRec 21 1))

/-! Runs (R307, R311 to R316). -/

/-- A flash location (R307): segment, codeword, 16-byte offset. Codeword 0 of a segment is its header. -/
def flashLoc (segs : List Nat) (perSeg c o : Nat) : Nat :=
  let p := max (perSeg - 2) 1
  (segs[c / p]?).getD 0 * 2 ^ 26 + (c % p + 1) * 256 + o / 16

def insEnt (e : RunEnt) : List RunEnt → List RunEnt
  | [] => [e]
  | x :: t =>
    if e.ns < x.ns ∨ (e.ns = x.ns ∧ (keyLt e.key x.key = true ∨ (e.key = x.key ∧ x.version < e.version))) then e :: x :: t
    else x :: insEnt e t

def sortEnts (l : List RunEnt) : List RunEnt := l.foldr insEnt []

/-- An entry of a run (Table 7-7): header, key, and the value or the location `vref` of its extent. -/
def RunEnt.bytes (e : RunEnt) (vref : Nat) : Bytes :=
  let ext := extentCws e != 0
  padTo (entBytes e) (leBytes 8 e.version ++ leBytes 4 e.value.length ++ leBytes 2 (e.ns % 4096) ++ leBytes 2 e.key.length ++
    leBytes 1 (b2n e.tomb + 2 * b2n e.old + 4 * b2n ext + 8 * b2n e.bypass) ++ zeros 7 ++ e.key ++ if ext then leBytes 8 vref else e.value)

/-- An order word as run blocks and footers hold it: the operand block of R233. -/
def orderBytes (e : RunEnt) : Bytes := leBytes 20 (orderWord e.ns e.key * 16)

/-- Every codeword of a run with its bytes, in the order of R307: data blocks, extents, index blocks, footer. `segSeq` of a
segment, `per` codewords of the run on each. -/
def Run.codewords (r : Run) (per : Nat) (segSeq : Nat → Nat) : List Bytes :=
  let loc := flashLoc r.segs (per + 2)
  let nb := runBlocks r.ents
  let ni := runIndexBlocks r.ents
  let ext := extentStarts r.ents nb
  let i0 := nb + (r.ents.map extentCws).sum
  let placed := (r.ents.zip (layoutEnts r.ents 0 16)).zip ext
  let block := fun (b : Nat) =>
    let mine := placed.filter fun x => x.1.2.1 == b
    let l := loc b 0
    padTo 4096 (leBytes 2 0xDA7A ++ leBytes 2 mine.length ++ leBytes 4 r.no ++ leBytes 4 (segSeq (l / 2 ^ 26)) ++ leBytes 4 (l / 256 % 2 ^ 18) ++
      mine.flatMap fun x => x.1.1.bytes (loc x.2 0))
  let extent := fun (e : RunEnt) => (List.range (extentCws e)).map fun i => slice e.value (4096 * i) 4096
  let index := fun (i : Nat) =>
    let bs := (List.range nb).filter fun b => b / 127 == i
    let entry := fun (b : Nat) => ((placed.find? fun x => x.1.2.1 == b).map fun x => orderBytes x.1.1).getD [] ++ zeros 4 ++ leBytes 8 (loc b 0)
    padTo 4096 (leBytes 2 0x1DE7 ++ leBytes 2 bs.length ++ zeros 4 ++ leBytes 8 (if i + 1 < ni then loc (i0 + i + 1) 0 else 0) ++ bs.flatMap entry)
  let bound := fun (e : Option RunEnt) => (e.map orderBytes).getD (zeros 20)
  let footer := padTo 4096 (leBytes 4 0xF0079640 ++ leBytes 1 0 ++ leBytes 1 r.level ++ leBytes 2 r.replaced.length ++ leBytes 8 r.no ++
    leBytes 8 r.jsnEnd ++ leBytes 8 r.ents.length ++ leBytes 4 nb ++ leBytes 4 ni ++ leBytes 8 (loc i0 0) ++ bound r.ents.head? ++
    bound r.ents.getLast? ++ leBytes 8 (r.boot % 2 ^ 32 * 2 ^ 32) ++ r.replaced.flatMap (leBytes 8))
  (List.range nb).map block ++ r.ents.flatMap extent ++ (List.range ni).map index ++ [footer]

/-- The summary of a full run segment (R307): the footers that lie in it. -/
def summary (foot : Option (Nat × Nat)) : Bytes :=
  padTo 4096 (leBytes 4 0x50779640 ++ leBytes 4 (foot.toList.length) ++ zeros 8 ++ foot.toList.flatMap fun f => leBytes 8 f.1 ++ leBytes 8 f.2)

/-- Program what run `r` holds on its segment number `i`: its codewords there, the summary, the parity (R307). -/
def State.putRun (s : State) (r : Run) (i : Nat) : State :=
  let d := s.segCws false
  let per := d - 2
  let n := (r.segs[i]?).getD 0
  let all := r.codewords per fun k => (s.seg k).segSeq
  let mine := ((all.drop (i * per)).take per).zipIdx.map fun x => (x.2 + 1, x.1)
  let foot := if i + 1 = r.segs.length then some (r.no, flashLoc r.segs d (all.length - 1) 0) else none
  let cws := mine ++ [(d - 1, summary foot)]
  let s := (s.putCws n cws).putParity n (0 :: cws.map (·.1))
  s.bump 0x10400408 cws.length

/-- Write one complete run of these entries; its segments. None where the flash has no room, or the XTS key is gone. -/
def State.writeRun (s : State) (level : Nat) (ents : List RunEnt) (jsnEnd : Nat) (replaced : List Nat) : Option (Run × State) :=
  let per := s.segCws false
  if per < 3 || (s.storageRec 23 1 != 0 && s.xtsKey.isNone) then none else
  match openSegs 1 ((runCws ents + per - 3) / (per - 2)) [] s with
  | none => none
  | some (segs, s) =>
    let r : Run := { no := s.st.nextRun, level := level, ents := ents, jsnEnd := jsnEnd, boot := s.rd rTrlBoot, replaced := replaced, segs := segs }
    let s := (List.range segs.length).foldl (fun s i => s.putRun r i) s
    let s := segs.foldl (fun s n => s.setSeg n { s.seg n with state := 2 }) s
    some (r, (s.setSt { s.st with runs := (s.st.runs.filter fun (x : Run) => !replaced.contains x.no) ++ [r], nextRun := r.no + 1 }).countFree)

/-- The highest LEASE_END of a programmed segment: grooming never erases it (R300). -/
def State.topLease (s : State) : Nat := (s.st.segs.map fun e => e.2.leaseEnd).foldl max 0

/-- Is segment `n` the only one left that records the highest LEASE_END (R300)? -/
def State.holdsLease (s : State) (n : Nat) : Bool :=
  (s.seg n).leaseEnd == s.topLease && !(s.st.segs.any fun e => e.1 != n && e.2.leaseEnd == s.topLease)

/-- Erase a segment unless the highest LEASE_END would be lost with it. -/
def State.wipeSafe (s : State) (n : Nat) : State := if s.holdsLease n then s else s.wipeSeg n

/-! The hard log on the media (R287 to R289). -/

/-- A PAD record of exactly `n` bytes, or zero fill where none fits (R281, R288). -/
def padBytes (jsn : Bytes) (n : Nat) : Bytes :=
  if n < 36 then zeros n
  else
    let head := padTo 8 jsn ++ zeros 8 ++ leBytes 4 (n - 36) ++ zeros 4 ++ [4] ++ zeros 3
    head ++ leBytes 4 (crc32c head) ++ zeros (n - 36) ++ leBytes 4 (crc32c (zeros (n - 36)))

/-- Offsets at which records of these lengths start. -/
def startsOf : List Nat → Nat → List Nat
  | [], _ => []
  | n :: t, o => o :: startsOf t (o + n)

/-- The page-sets that hold these records from byte `done` on: a 16-byte header with the JSN and offset of the first record that starts in
it, then records back to back; the highest JSN in each beside it. `full`: full ones only; otherwise the last one is filled with a PAD
record. `free`: what the manual leaves open (log entry 62). -/
def logPages (size done : Nat) (full : Bool) (free : Bytes) (rs : List JRec) : List (Bytes × Nat) :=
  let cap := max (size - 16) 1
  let body := rs.flatMap JRec.bytes
  let starts := (startsOf (rs.map fun r => 64 * r.lines) 0).zip rs
  let n := (body.length - done + (if full then 0 else cap - 1)) / cap
  (List.range n).map fun i =>
    let lo := done + cap * i
    let hi := min (lo + cap) body.length
    let head := match starts.find? fun x => decide (lo ≤ x.1) && decide (x.1 < hi) with
      | some (o, r) => leBytes 8 r.jsn ++ leBytes 4 (16 + o - lo)
      | none => padTo 12 free
    let part := slice body lo (hi - lo)
    let high := ((starts.filter fun x => x.2.typ ≤ 2 && decide (x.1 < hi) && decide (lo < x.1 + 64 * x.2.lines)).map (·.2.jsn)).foldl max 0
    (head ++ zeros 4 ++ part ++ padBytes (free.drop 12) (cap - part.length), high)

/-- One page-set programmed twice, on two LUNs of different channels (R287); its log segment holds what it holds. -/
def State.logPage (s : State) (p : Bytes × Nat) : State :=
  let n := ((s.st.log.getLast?).map (·.1)).getD 0
  let set := s.pageSet
  let copy := fun (k : Nat) => (List.range set).map fun i => ((s.st.logSet + k) * set + i, slice p.1 (4096 * i) 4096)
  let mark := match s.st.log.getLast? with
    | some x => s.st.log.dropLast ++ [(x.1, max x.2 p.2)]
    | none => []
  let s := s.putCws n (copy 0 ++ copy 1)
  (s.setSt { s.st with logSet := s.st.logSet + 2, log := mark }).bump 0x10400408 (2 * set)

/-- A record that only the hard log holds takes a JSN the manual does not state: free bytes. -/
def logJsn (free : Bytes) (r : JRec) : JRec := if r.typ = 5 ∨ r.typ = 6 then { r with jsn := leAt free 20 8 } else r

/-- Room for one more page-set, in a new log segment where the open one has none: that begins with the LEASE record of every
namespace with a lease end (R289). -/
def State.logRoom (s : State) (free : Bytes) : Option State :=
  if s.st.logSet ≠ 0 ∧ s.st.logSet + 2 ≤ s.slcSets then some s
  else if s.slcSets < 5 || (s.storageRec 23 1 != 0 && s.xtsKey.isNone) then none
  else match s.openSeg 2 true with
    | none => none
    | some (n, s) =>
      let s := s.setSt { s.st with log := s.st.log ++ [(n, 0)], logSet := 1 }
      let leases := (s.ks.ns.filter fun e => e.2.lease != 0).map fun e => logJsn free (mkRec 6 e.1 [] e.2.lease [] 0 false false true)
      some ((logPages (s.pageSet * 4096) 0 false free leases).foldl (fun s p => s.logPage p) s)

def logPut (free : Bytes) : List (Bytes × Nat) → State → Option State
  | [], s => some s
  | p :: t, s => match s.logRoom free with
    | none => none
    | some s => logPut free t (s.logPage p)

/-- Program these records in the hard log, from byte `done` of them on; none where it has no room. -/
def State.logWrite (s : State) (done : Nat) (full : Bool) (rs : List JRec) : Option State :=
  let (free, s) := s.drawBytes 28
  logPut free (logPages (s.pageSet * 4096) done full free (rs.map (logJsn free))) s

/-- Log segments are erased once HEAD has passed every record they hold (R289). -/
def State.logErase (s : State) (head : Nat) : State :=
  let cur := if s.st.logSet = 0 then none else s.st.log.getLast?
  let done := s.st.log.filter fun x => some x != cur && decide (x.2 < head)
  done.foldl (fun s x => if s.holdsLease x.1 then s else (s.setSt { s.st with log := s.st.log.filter (· != x) }).wipeSeg x.1) s

/-- The index entry of one run entry (R309, R312). -/
def State.indexRun (s : State) (r : Run) (e : RunEnt) (loc : Nat × Nat) : State :=
  if e.old then s else
  (s.indexPut { ns := e.ns, key := e.key, version := e.version, tomb := e.tomb, bypass := e.bypass, journal := false,
                loc := flashLoc r.segs (s.segCws false) loc.1 loc.2, len := e.value.length }).2

/-- Does a flush with T0 take this version: below T0 and in no run? -/
def Ver.due (t0 : Nat) (v : Ver) : Bool := decide (v.jsn < t0) && !v.inRun

/-- Has every record below T0 become visible, been superseded, or failed, and has no writer a key the flush takes (R311)? -/
def State.resolvedBelow (s : State) (t0 : Nat) : Bool :=
  (s.st.jrn.all fun r => r.complete || decide (t0 ≤ r.jsn)) &&
  (s.ft.frames.all fun e => match e.2.w with
    | some w => w.version = 0 || decide (t0 ≤ w.jsn)
    | none => true) &&
  s.ks.keys.all fun k => k.pend.isNone || !(k.vers.any (·.due t0))

/-- A key's versions that a flush with T0 takes; the older ones for snapshots (R313). One that both mirrors have lost cannot be copied
(R286, log entry 89). -/
def State.flushEnts (s : State) (t0 : Nat) (k : KeyRec) : List RunEnt :=
  (k.vers.zipIdx.filter fun v => v.1.due t0 && !(s.jrnDamage v.1).contains false).map fun (v, i) =>
    { ns := k.ns, key := k.key, version := v.version, tomb := v.tomb, value := v.value,
      old := (k.vers.take i).any fun w => w.inRun || w.due t0, bypass := k.bypass }

/-- A flushed key (R312): its versions stand in a run; its Nose entry becomes clean when its value is cached, else a hole. -/
def State.flushKey (s : State) (t0 : Nat) (k : KeyRec) : State :=
  let newest := (k.vers.head?.map (·.due t0)).getD false
  let mark := fun (v : Ver) => if v.due t0 then { v with inRun := true, lost := (s.jrnDamage v).contains false } else v
  let k2 := { k with vers := k.vers.map mark }
  match k.nose with
  | none => s.putKey k2
  | some a => match mget s.nose.ents a with
    | none => s.putKey k2
    | some e =>
      if !newest || e.kind = 4 then s.putKey k2
      else if e.kind = 1 && bit e.ad 60 then
        let i := ((s.indexFind k.ns k.key).map (·.1)).getD 0
        ((s.progUpdate 1).nosePut a { e with kind := 2, ad := setBits (setBits e.ad 61 3 2) 10 32 i }).putKey k2
      else ((s.progUpdate 1).setNose { (s.progUpdate 1).nose with ents := mdel s.nose.ents a }).putKey { k2 with nose := none }

/-- A segment of the Brace area is erased, and replaced by another erased one (R318). -/
def State.braceReplace (s : State) (n : Nat) : State :=
  let s := s.setSt { s.st with braceSeg := s.st.braceSeg.filter fun x => x.1 != n }
  let s := s.wipeSafe n
  match s.bestSeg with
  | some k => s.setSt { s.st with braceFree := s.st.braceFree ++ [k] }
  | none => s

/-- Images whose every record is flushed leave the Brace area (R318). -/
def State.freeImages (s : State) : State :=
  let b := s.rd rTrlBoot
  let gone := fun (i : Image) => i.boot != b || decide (i.last < s.c64 rJrnHead)
  let done := s.st.images.filter gone
  let left := s.st.images.filter fun i => !gone i
  let segs := ((done.flatMap (·.segs)).filter fun k => !(left.any fun i => i.segs.contains k)).eraseDups
  let s := s.setSt { s.st with images := left }
  (segs.foldl (fun s k => s.braceReplace k) s).countBrace

/-- The checkpoint of an earlier boot goes once the first run of this boot is complete (Table 7-11, step 7). -/
def State.checkpointDone (s : State) : State :=
  match s.st.stop with
  | some c => if c.boot = s.rd rTrlBoot then s else c.segs.foldl (fun s n => s.wipeSafe n) (s.setSt { s.st with stop := none })
  | none => s

/-- The rest of a pass once T0's records are resolved: the run, the index, the Nose, HEAD. -/
def State.flushRun (s : State) (t0 : Nat) : State :=
  let ents := sortEnts (s.ks.keys.flatMap (s.flushEnts t0))
  let s := s.noseQuiet.progSearch (ents.length + 1)
  let read := fun (s : State) =>
    (s.readJrn ((s.ks.keys.flatMap (·.vers)).filter (·.due t0) |>.flatMap s.jrnDamage)).2
  let fin := fun (s : State) =>
    let s := s.setC64 rJrnHead t0
    let hardLeft := s.st.hard.filter fun h => !h.programmed || h.r.typ = 6 || h.r.typ = 5 || decide (t0 ≤ h.r.jsn)
    let s := s.setSt { s.st with flush := none, jrn := s.st.jrn.filter (fun r => decide (t0 ≤ r.jsn)), hard := hardLeft }
    ((s.setFlag rStState 3 false).freeImages).logErase t0
  if ents.isEmpty then fin (s.ks.keys.foldl (fun s k => s.flushKey t0 k) (read s))
  else match s.writeRun 0 ents t0 [] with
    | none => s
    | some (r, s) =>
      let s := read s
      let s := (ents.zip (layoutEnts ents 0 16)).foldl (fun s e => s.indexRun r e.1 e.2) s
      let s := s.ks.keys.foldl (fun s k => s.flushKey t0 k) s
      fin ((s.bump 0x10005028).checkpointDone)

/-- Is a flush pass started: occupied lines above JRN_HWM_PCT of L, the Nose asks for one (R174, R285), or Sit flushes the journal
(R367)? -/
def State.flushWanted (s : State) : Bool :=
  decide (s.storageRec 4 1 * s.limitLines < s.occupied * 100) || s.flushNeeded ||
    (s.brace.sitFlush && s.c64 rJrnHead != s.c64 rJrnTail)

/-- FLUSH_PASS (R285, R311): a pass that is wanted starts and sets T0; once every record below it is resolved, it runs to its end. -/
def flushPass (s : State) : State :=
  match s.st.flush with
  | none => if s.flushWanted then (s.setSt { s.st with flush := some (s.c64 rJrnTail) }).setFlag rStState 3 true else s
  | some t0 => if s.resolvedBelow t0 then s.flushRun t0 else s

/-! Grooming (R315, R316). -/

def runBytes (r : Run) : Nat := (r.ents.map fun e => entBytes e + (if extentCws e = 0 then 0 else e.value.length)).sum

def levelBytes (s : State) (n : Nat) : Nat := ((s.st.runs.filter fun r => r.level = n).map runBytes).sum

/-- Does the level exceed what R315 allows it? -/
def State.levelFull (s : State) (n : Nat) : Bool :=
  if n = 0 then decide (s.storageRec 16 1 ≤ (s.st.runs.filter fun r => r.level = 0).length)
  else decide (s.storageRec 18 2 * 2 ^ 30 * s.storageRec 17 1 ^ (n - 1) < levelBytes s n)

def entLt (a b : RunEnt) : Bool := decide (a.ns < b.ns) || (a.ns == b.ns && keyLt a.key b.key)

/-- Do two runs' key ranges meet? -/
def runsMeet (a b : Run) : Bool := match a.ents.head?, a.ents.getLast?, b.ents.head?, b.ents.getLast? with
  | some a0, some a1, some b0, some b1 => !(entLt a1 b0) && !(entLt b1 a0)
  | _, _, _, _ => false

/-- Does the key's index entry point at this entry? -/
def State.entCurrent (s : State) (e : RunEnt) : Bool := match s.indexFind e.ns e.key with
  | some (_, x) => !x.journal && x.version == e.version && !e.old
  | none => false

/-- Is the entry still needed: its index entry points at it, or a snapshot keeps it? -/
def State.entLive (s : State) (e : RunEnt) : Bool :=
  s.entCurrent e || (match s.findKey e.ns e.key with
    | some k => (k.vers.drop 1).any fun v => v.version = e.version
    | none => false)

/-- A dropped tombstone's index entry is vacated, and the key is gone (R315). -/
def State.dropTomb (s : State) (e : RunEnt) : State :=
  match s.indexFind e.ns e.key with
  | some (i, x) =>
    if !x.journal && x.version == e.version then
      let s := s.vacate i x
      match s.findKey e.ns e.key with
      | some k => if k.pend.isNone && k.nose.isNone && (k.vers.all (·.tomb)) then
          s.setKs { s.ks with keys := s.ks.keys.filter fun (y : KeyRec) => y.ns != e.ns || y.key != e.key } else s
      | none => s
    else s
  | none => s

/-- The inputs of a merge: as many runs of level `n` as go, with the runs of the next level they meet, into 32. A run of which a die group
with two absent LUNs has lost a part cannot be read (R295). -/
def State.mergeInputs (s : State) (n : Nat) : List Run :=
  let up := s.st.runs.filter fun r => r.level = n
  let withNext := fun (u : List Run) => u ++ s.st.runs.filter fun r => r.level = n + 1 && u.any (runsMeet r)
  let fits := ((List.range up.length).map fun i => withNext (up.take (i + 1))).filter fun l =>
    decide (l.length ≤ 32) && l.all fun r => s.st.lostGroups.isEmpty || !(r.segs.any s.segGone)
  (fits.getLast?).getD []

/-- Full run segments with no live run, index entry or checkpoint on them are erased (R307), and so are log and Brace segments that are of
no more use, whose erase the highest LEASE_END has held up (R289, R300, R318). -/
def State.reclaim (s : State) : State :=
  let used := fun (n : Nat) => (s.st.runs.any fun r => r.segs.contains n) || (s.st.index.any fun e => !e.2.journal && e.2.loc / 2 ^ 26 == n) ||
    s.st.stop.any fun c => c.segs.contains n
  let dead := (s.st.segs.filter fun e => (e.2.state = 2 && e.2.kind = 1 && !used e.1) ||
    ((e.2.state = 1 || e.2.state = 2) && ((e.2.kind = 2 && !(s.st.log.any fun x => x.1 = e.1)) || (e.2.kind = 3 && !s.inBrace e.1)))).map (·.1)
  (dead.foldl (fun s n => s.wipeSafe n) s).countFree

/-- GROOM_MERGE (R315): level `n` merges into the next, at most 32 runs. A version that only a snapshot keeps is written OLD
(R313). -/
def groomMerge (n : Nat) (s : State) : State :=
  if 7 ≤ n ∨ s.levelFull n = false then s
  else
    let ins := s.mergeInputs n
    if ins.isEmpty then s else
    let nos := ins.map (·.no)
    let top := !(s.st.runs.any fun r => decide (n + 1 < r.level))
    let all := (sortEnts (ins.flatMap fun r => r.ents.filter (s.ofLife r))).map fun e => { e with old := e.old || !s.entCurrent e }
    let live := all.filter s.entLive
    let tombs := live.filter fun e => e.tomb && !e.old && top
    let keep := live.filter fun e => !(e.tomb && !e.old && top)
    let s := tombs.foldl (fun s e => s.dropTomb e) s
    let jend := (ins.map (·.jsnEnd)).foldl max 0
    if keep.isEmpty then (s.setSt { s.st with runs := s.st.runs.filter fun (x : Run) => !nos.contains x.no }).reclaim
    else match s.writeRun (n + 1) keep jend nos with
      | none => s
      | some (r, s) =>
        let s := (keep.zip (layoutEnts keep 0 16)).foldl (fun s e => s.indexRun r e.1 e.2) s
        (s.bump 0x10005030 (runCws keep * 4096)).reclaim

/-- Live bytes of run `r` on its segment number `i`, of `per` codewords of the run each: entries in data blocks, and extents. -/
def State.runLive (s : State) (r : Run) (i per : Nat) : Nat :=
  let placed := (r.ents.zip (layoutEnts r.ents 0 16)).zip (extentStarts r.ents (runBlocks r.ents))
  ((placed.filter fun x => s.entLive x.1.1).map fun x =>
    (if x.1.2.1 / per = i then entBytes x.1.1 else 0) + 4096 * ((List.range (extentCws x.1.1)).filter fun j => (x.2 + j) / per == i).length).sum

/-- Live bytes of a segment. -/
def State.segLive (s : State) (n : Nat) : Nat :=
  let per := max (s.segCws false - 2) 1
  (s.st.runs.map fun r => match r.segs.findIdx? (· == n) with
    | some i => s.runLive r i per
    | none => 0).sum

/-- The segment grooming relocates next: a sparse one, the least worn where the wear spread is too wide (R316), one of a die group with
an absent LUN (R295), or a retired one that still holds a run (R301). None whose data is lost. -/
def State.groomTarget (s : State) (n : Nat) : Bool :=
  let full := (List.range s.flSegs).filter fun k => (s.seg k).kind = 1 && !s.segGone k &&
    ((s.seg k).state = 2 || (s.seg k).state = 3 && s.st.runs.any fun r => r.segs.contains k)
  let cap := s.segCws false * 4096
  let er := (List.range s.flSegs).map fun k => (s.seg k).erases
  let hi := er.foldl max 0
  let lo := er.foldl min hi
  full.contains n && (decide (s.segLive n * 100 < s.storageRec 22 1 * cap) ||
    (decide (s.storageRec 26 2 < hi - lo) && (s.seg n).erases == lo) || s.st.lostGroups.contains (n % s.flGroups) ||
    (s.seg n).state == 3)

/-- GROOM_RELOCATE (R316): the live entries of segment `n` move to a newly opened one. -/
def groomRelocate (n : Nat) (s : State) : State :=
  if !s.groomTarget n then s
  else if !(s.st.runs.any fun r => r.segs.contains n) then s.reclaim
  else match s.openSeg 1 false with
    | none => s
    | some (k, s) =>
      let moved := s.segLive n
      let s := s.setSeg k { s.seg k with state := 2 }
      let rs := s.st.runs.map fun (r : Run) => { r with segs := r.segs.map fun x => if x = n then k else x }
      let moves := s.st.index.filter fun e => !e.2.journal && e.2.loc / 2 ^ 26 == n
      let s := s.setSt { s.st with runs := rs }
      let s := moves.foldl (fun s e => s.setIdx e.1 { e.2 with loc := k * 2 ^ 26 + e.2.loc % 2 ^ 26 }) s
      let s := (rs.filter fun r => r.segs.contains k).foldl (fun s r => s.putRun r ((r.segs.findIdx? (· == k)).getD 0)) s
      (s.bump 0x10005030 moved).reclaim

/-! The hard log (R287 to R289). -/

/-- Hard records go to the log in JSN order (R287); LEASE and STOP records keep their place. -/
def insHard (h : HardRec) : List HardRec → List HardRec
  | [] => [h]
  | x :: t => if x.r.jsn < h.r.jsn ∧ x.r.typ ≤ 2 ∧ h.r.typ ≤ 2 then x :: insHard h t else h :: x :: t

/-- The hard records that go to the log next, in JSN order: one above a class 1 record that is not yet whole waits for it (R287). -/
def State.hardDue (s : State) : List HardRec :=
  let open_ := (s.st.jrn.filter fun r => r.cls = 1 && r.typ ≤ 2 && !r.complete).map (·.jsn)
  ((s.st.hard.filter fun h => !h.programmed).foldr insHard []).filter fun h => decide (2 < h.r.typ) || open_.all fun j => decide (h.r.jsn < j)

/-- Both copies of a hard record stand: its write reaches class 1, a LEASE record takes effect. -/
def State.hardDone (s : State) (h : HardRec) : State :=
  let s := s.setSt { s.st with hard := s.st.hard.map fun (x : HardRec) => if x = h then { x with programmed := true } else x }
  if h.r.typ = 6 then s.leaseProgrammed h.r.ns h.r.version else s.reachWrites fun d => d.cls = 1 && d.jsn = h.r.jsn

/-- The records that due page-sets hold to their end, of those whose bytes start at `o`; what of the next one is programmed. -/
def wholeRecs (upto : Nat) : List HardRec → Nat → List HardRec × Nat
  | [], _ => ([], 0)
  | h :: t, o =>
    let e := o + 64 * h.r.lines
    if upto < e then ([], upto - o) else let r := wholeRecs upto t e; (h :: r.1, r.2)

/-- Page-sets of the hard log are programmed (R288): the full ones, or all that waits. -/
def State.hardProgram (s : State) (full : Bool) : State :=
  let due := s.hardDue
  let cap := max (s.pageSet * 4096 - 16) 1
  let all := (due.map fun h => 64 * h.r.lines).sum
  let upto := if full then s.st.logDone + (all - s.st.logDone) / cap * cap else all
  if !s.flag rFlcCtl 0 || upto ≤ s.st.logDone then s
  else match s.logWrite s.st.logDone full (due.map (·.r)) with
    | none => s
    | some s =>
      let r := wholeRecs upto due 0
      r.1.foldl (fun s h => s.hardDone h) (s.setSt { s.st with logDone := r.2 })

/-- HARD_WAIT_EXPIRY (R288): the oldest hard record has waited HARD_WAIT_US, and every due one is programmed in both copies. -/
def hardWaitExpiry (s : State) : State := s.hardProgram false

/-! Clean stop (R323). -/

/-- Flush until HEAD equals TAIL, write the checkpoint, and the STOP record that names it. -/
def State.cleanStop (s : State) : State :=
  let s := s.flushRun (s.c64 rJrnTail)
  let no := s.st.nextRun
  let c : Checkpoint :=
    { runNo := no, index := s.st.index, counters := s.ks.ns.map fun e => (e.1, e.2.counter, e.2.lease),
      retired := (s.st.segs.filter fun e => e.2.state = 3).map (·.1), boot := s.rd rTrlBoot, segs := [] }
  let stop := mkRec 5 0 [] 0 (leBytes 8 no ++ leBytes 8 (s.c64 rJrnTail)) 0 false false true
  let (free, s) := s.drawBytes 88
  let foot := leBytes 4 0xF0079640 ++ [1] ++ slice free 5 3 ++ leBytes 8 no ++ slice free 16 72 ++ leBytes 8 (c.boot % 2 ^ 32 * 2 ^ 32)
  let (segs, s) := match s.openSeg 1 false with
    | some (n, s) => ([n], (s.putCws n [(1, padTo 4096 foot)]).setSeg n { (s.seg n) with state := 2 })
    | none => ([], s)
  let s := s.setSt { s.st with nextRun := no + 1, stop := some { c with segs := segs }, stopFresh := true }
  hardWaitExpiry (s.hardAdd stop)

/-! Brace (R318 to R322, R597). -/

/-- Unsaved records, in JSN order. -/
def State.unsavedRecs (s : State) : List JRec := s.st.jrn.filter (isUnsaved (s.c64 rJrnHead) (s.c64 rJrnSaved))

/-- The lines of a record as the image copies them: from mirror A, or from B where A is uncorrectable (R286, R321). -/
def State.recLinesNow (s : State) (r : JRec) : Bytes :=
  (List.range r.lines).flatMap fun i =>
    let x := 64 * (r.line + i)
    padTo 64 (s.dramRd ((if s.lineBad s.jrnChA (r.line + i) then 0x8800000000 else 0x8000000000) + x) 64)

/-- Room for one more page-set in the Brace area: the segment being written, or the next erased one (R318), in a die group that has every
LUN (R295). -/
def State.braceRoom (s : State) : Option (Nat × Nat × State) :=
  let good := fun (n : Nat) => !s.st.lostGroups.contains (n % s.flGroups)
  let next := match s.st.braceFree.find? good with
    | none => none
    | some n => if s.slcSets < 2 then none else some (n, 1, (s.setSt { s.st with braceFree := s.st.braceFree.erase n }).openAt n 3 true)
  match s.st.braceSeg with
  | some (n, k) => if k < s.slcSets ∧ good n = true then some (n, k, s) else next
  | none => next

/-- Program page-sets in the Brace area, each a list of codewords, with die parity; the segments used. -/
def bracePut : List (List Bytes) → List Nat → State → List Nat × State
  | [], used, s => (used, s)
  | p :: t, used, s => match s.braceRoom with
    | none => (used, s)
    | some (n, k, s) =>
      let cws := p.zipIdx.map fun x => (k * s.pageSet + x.2, x.1)
      let s := (s.putCws n cws).putParity n (cws.map (·.1))
      bracePut t (if used.contains n then used else used ++ [n]) (s.setSt { s.st with braceSeg := some (n, k + 1) })

/-- Steps 4 to 6 of Table 7-10: the unsaved lines become an image, its header on two channels. The layout of the header is not
stated: free bytes (log entry 62). -/
def State.braceImage (s : State) : State :=
  let recs := s.unsavedRecs
  match recs.getLast? with
  | none => s
  | some last =>
    let damage := fun (r : JRec) => s.recDamage r
    let good := recs.filter fun r => !((damage r).contains false)
    let fixed := ((recs.map fun r => ((damage r).filter id).length).sum)
    let boot := s.rd rTrlBoot
    let n := (s.st.images.filter fun i => i.boot = boot).length + 1
    let set := max s.pageSet 1
    let lines := sumLines recs
    let cws := let b := recs.flatMap s.recLinesNow
      (List.range ((lines + 63) / 64)).map fun i => slice b (4096 * i) 4096
    let sets := (List.range ((cws.length + set - 1) / set)).map fun i => (cws.drop (i * set)).take set
    let (head, s) := s.drawBytes 4096
    let (segs, s) := bracePut (sets ++ [[head], [head]]) [] s
    let img : Image := { no := n, boot := boot, first := ((recs.head?).map (·.jsn)).getD 0, last := last.jsn, recs := good, valid := true, segs := segs }
    let s := (s.bump 0x10005040 fixed).setSt { s.st with images := s.st.images ++ [img] }
    (s.setC64 rJrnSaved last.jsn).countBrace

/-- MiB of unsaved journal, rounded up. -/
def State.unsavedMib (s : State) : Nat := (s.unsaved + 16383) / 16384

/-- R597: a write stopped at Brace whose record is incomplete: PAD, BURNT, its key as before, and RETRY for it and the
frame's later operations. -/
def State.stopWrite (s : State) (id : Nat) (f : Frame) (w : Write) : State :=
  match f.op with
  | none => s
  | some op =>
    let s := s.writeFail id op w stRETRY
    s.updFrame id fun f => { f with res := f.res ++ (f.ops.drop f.res.length).map fun o => resOf o stRETRY 0 [] 0 }

def State.stopWrites (s : State) : State :=
  s.ft.frames.foldl (fun s e => match e.2.w with
    | some w => if w.version ≠ 0 ∧ (s.st.jrn.any fun r => r.jsn = w.jsn && !r.complete) = true then s.stopWrite e.1 e.2 w else s
    | none => s) s

/-! Recovery (Table 7-11). -/

/-- One recovered record: it applies only where its version exceeds the key's (step 6). -/
def State.replay (s : State) (r : JRec) : State :=
  if r.typ = 3 then
    let n := s.nsOf r.ns
    s.setNs r.ns { n with counter := max n.counter r.version }
  else if r.typ = 6 then
    let n := s.nsOf r.ns
    s.setNs r.ns { n with lease := max n.lease r.version }
  else if r.typ = 1 ∨ r.typ = 2 then
    let k := (s.findKey r.ns r.key).getD (blankKey r.ns r.key)
    if heldVersion k < r.version then
      let n := s.nsOf r.ns
      let s := s.setNs r.ns { n with counter := max n.counter r.version }
      let v : Ver := { version := r.version, tomb := r.typ = 2, value := r.value, jsn := 0, inRun := false, lost := false }
      s.putKey { k with vers := [v], bypass := r.bypass }
    else s
  else s

/-- A key from the runs: its highest version. -/
def State.loadEnt (s : State) (e : RunEnt) : State :=
  let n := s.nsOf e.ns
  let s := s.setNs e.ns { n with counter := max n.counter e.version }
  let k := (s.findKey e.ns e.key).getD (blankKey e.ns e.key)
  if e.old ∨ e.version ≤ heldVersion k then s
  else
    let v : Ver := { version := e.version, tomb := e.tomb, value := e.value, jsn := 0, inRun := true, lost := false }
    s.putKey { k with vers := [v], bypass := e.bypass }

/-- Applied records go into the new journal and, but for bypass keys, into the Nose as dirty (step 7); each keeps its CLASS and APPLIED
of the source it came from. -/
def State.reinsert (s : State) (src : List JRec) (k : KeyRec) : State :=
  match k.vers with
  | v :: _ =>
    if v.inRun then s
    else
      let from_ := src.find? fun r => r.typ ≤ 2 && r.ns == k.ns && r.key == k.key && r.version == v.version
      let (j, s) := s.jrnAdd (mkRec (if v.tomb then 2 else 1) k.ns k.key v.version v.value ((from_.map (·.cls)).getD 0) k.bypass
        ((from_.map (·.applied)).getD false) true)
      let line := ((s.st.jrn.find? fun r => r.jsn = j).map (·.line)).getD 0
      let k := { k with vers := [{ v with jsn := j }] }
      if k.bypass then (s.indexPut { ns := k.ns, key := k.key, version := v.version, tomb := v.tomb, bypass := true, journal := true, loc := line, len := v.value.length }).2.putKey k
      else
        let (st, a, s) := s.insertWhole { order := orderWord k.ns k.key, kind := kindOf v.tomb, ad := journalAd v.tomb line v.value.length v.version }
        if st = 0 then s.putKey { k with nose := some a }
        else (s.indexPut { ns := k.ns, key := k.key, version := v.version, tomb := v.tomb, bypass := true, journal := true, loc := line, len := v.value.length }).2.putKey { k with bypass := true }
  | [] => s

/-- Every run's entries as index entries (R309). -/
def State.indexRuns (s : State) : State :=
  s.st.runs.foldl (fun s r => (r.ents.zip (layoutEnts r.ents 0 16)).foldl (fun s e =>
    match s.findKey e.1.ns e.1.key with
    | some k => if heldVersion k = e.1.version ∧ s.ofLife r e.1 = true then s.indexRun r e.1 e.2 else s
    | none => s) s) s

def insImage (i : Image) : List Image → List Image
  | [] => [i]
  | x :: t => if i.boot < x.boot ∨ (i.boot = x.boot ∧ i.no < x.no) then i :: x :: t else x :: insImage i t

/-- Index buckets: INDEX_MIB, or all usable DRAM left over, × 16,384 (R308, Table 7-12). -/
def State.indexBuckets (s : State) : Nat :=
  let m := s.storageRec 8 4
  let other := s.storageRec 14 2 + leAt (s.cfg.active.get secProtocol 0) 12 4 + leAt (s.cfg.active.get secProtocol 0) 16 4 +
    leAt (s.cfg.active.get secPort 0) 24 2 + leAt (s.cfg.active.get secPort 1) 24 2
  (if m = 0 then s.interCap / 1048576 - other else m) * 16384

/-- Is the newest record of the hard log STOP, with nothing in the journal since (R56, log entry 79)? -/
def State.stoppedClean (s : State) : Bool := s.st.stopFresh && match (s.st.hard.filter (·.programmed)).getLast? with
  | some h => h.r.typ == 5
  | none => false

/-- Lines of the Brace area: 1 GiB (R318). -/
def braceArea : Nat := 16777216

/-- The Brace area is chosen: erased segments that hold 1 GiB of user data in SLC mode, beside their header page-sets (R318). -/
def State.braceSetup (s : State) : State :=
  let size := (s.slcSets - 1) * s.pageSet * 4096
  (if size = 0 || !s.st.braceFree.isEmpty || s.st.braceSeg.isSome || !s.st.images.isEmpty then s
  else s.setSt { s.st with braceFree := s.freeSegs.take ((64 * braceArea + size - 1) / size) }).countBrace

/-- No segment header stands on the flash (R324). -/
def State.flashBlank (s : State) : Bool := s.st.segs.all fun e => e.2.state == 0

/-- The highest JSN of any surviving source (R282): images, hard log and the TAIL its STOP records name, runs. -/
def State.topJsn (s : State) : Nat :=
  ((s.st.images.map fun (i : Image) => i.last) ++ (s.st.hard.map fun (h : HardRec) => if h.r.typ = 5 then leAt h.r.value 8 8 - 1 else h.r.jsn) ++
    s.st.runs.map fun (r : Run) => r.jsnEnd - 1).foldl max 0

/-- Steps 1 to 3 of Table 7-11: open segments of an earlier boot are closed (R325), SEG_SEQ resumes at the highest LEASE_END (R300), the
journal starts above every JSN found, and every key stands as the runs have it. -/
def State.recoverRuns (s : State) (clean : Bool) : State :=
  let j := s.topJsn + 1
  let top := s.topLease
  let s := s.setSt { s.st with nbuckets := s.indexBuckets, index := [], jrn := [], nextLine := 0, nextSegSeq := max 1 top, segLease := top,
                               boot := s.rd rTrlBoot, flush := none,
                               segs := s.st.segs.map fun e => if e.2.state = 1 then (e.1, { e.2 with state := 2 }) else e }
  let s := s.setKs { s.ks with keys := [], ns := [] }
  let s := ((s.setC64 rJrnHead j).setC64 rJrnTail j).setC64 rJrnSaved 0
  let s := s.st.runs.foldl (fun s r => (s.runEnts r).foldl (fun s e => s.loadEnt e) s) s
  (s.braceSetup.setFlag rStState 0 true).setFlag rStState 1 clean

/-- Retired segments but those a checkpoint keeps are used again (R301): they are full until grooming erases them. -/
def State.unretire (s : State) (keep : List Nat) : State :=
  s.setSt { s.st with segs := s.st.segs.map fun e => if e.2.state = 3 && !keep.contains e.1 then (e.1, { e.2 with state := 2 }) else e }

/-- Steps 5 to 7 after a clean stop: index, counters and retirements come from the checkpoint. -/
def State.recoverClean (s : State) (c : Checkpoint) : State :=
  let s := s.unretire c.retired
  let s := c.counters.foldl (fun (s : State) e => s.setNs e.1 { (s.nsOf e.1) with counter := e.2.1, lease := e.2.2, applied := e.2.1 }) s
  (s.setSt { s.st with index := c.index }).countFree

/-- Steps 5 to 7 after an unclean stop: the index is rebuilt, images and hard log are applied and journalled again, each counter resumes
at its lease end at least, and followers are owed a skip notice with it (R83). -/
def State.recoverUnclean (s : State) : State :=
  let s := (s.unretire []).indexRuns
  let images := ((s.st.images.foldr insImage []).filter (·.valid)).flatMap fun i => i.recs.filter (·.complete)
  let src := images ++ (s.st.hard.filter (·.programmed)).map (·.r)
  let s := src.foldl (fun s r => s.replay r) s
  let up := fun (s : State) (e : Nat × NsState) =>
    let c := max e.2.counter e.2.lease
    s.setNs e.1 { e.2 with counter := c, applied := c, skip := some c }
  let s := s.ks.ns.foldl up s
  (s.ks.keys.foldl (fun s k => s.reinsert src k) s).countFree

/-- Recovery at start (Table 7-11). False where nothing is formatted and FORMAT is 0 (FLASH_BLANK). -/
def State.recover (s : State) : Bool × State :=
  let blank := s.flashBlank
  if blank && byteAt (s.cfg.active.get secStorage 0) 5 ≠ 1 then (false, s)
  else
    let s := if blank then s.setSt { s.st with formatted := true, xts := s.storageRec 23 1, xtsSlot := s.storageRec 24 2 } else s
    let clean := s.stoppedClean
    let s := s.recoverRuns clean
    (true, match clean, s.st.stop with
      | true, some c => s.recoverClean c
      | _, _ => s.recoverUnclean)

def execFlashJobStart (lun : Fin 256) (s : State) : Out := s.onSv (flashJobStart lun.val)
def execFlashStatusPoll (lost : List (Fin 256)) (s : State) : Out := s.onSv (flashStatusPoll (lost.map (·.val)))
def execFlashChannelInit (ch : Fin 16) (mode rate : Fin 8) (present : Word) (bad : List Nat) (s : State) : Out :=
  s.onSv (flashChannelInit ch.val mode.val rate.val present.toNat bad)
def execFlushPass (s : State) : Out := s.onSv flushPass
def execHardWaitExpiry (s : State) : Out := s.onSv hardWaitExpiry
def execGroomMerge (n : Fin 8) (s : State) : Out := s.onSv (groomMerge n.val)
def execGroomRelocate (n : BitVec 18) (s : State) : Out := s.onSv (groomRelocate n.toNat)

end Sys2Proof.Machine
end

