-- ==== Sys2Proof/Machine/Commit.lean ====
section
/-! DEFINITION. What a commit checks and what it writes into the units (R47, R81, R141, R187, R267, R320, R326, R369, R412,
R495, R595). -/
namespace Sys2Proof.Machine

/-! Reasons of Table 12-11. -/
def rsRANGE : Nat := 1
def rsREFERENCE : Nat := 2
def rsLIMIT : Nat := 3
def rsRULE : Nat := 4
def rsHOLDUP : Nat := 5
def rsLOCKED : Nat := 6
def rsOLDHELD : Nat := 7

/-- Is a little-endian field of a record within a range? -/
def inRange (r : Bytes) (o n lo hi : Nat) : Bool := decide (lo ≤ leAt r o n) && decide (leAt r o n ≤ hi)

/-- The first failing check of a list: the reason that stands with it. -/
def firstBad : List (Bool × Nat) → Nat
  | [] => 0
  | (ok, reason) :: t => if ok then firstBad t else reason

/-- L of R320 in MiB: E in mJ, t in µs per MiB, capped at JOURNAL_MIB. -/
def journalLimit (e t mib : Nat) : Nat := min ((e * 1000 - 120000) / (30 * max t 1)) mib

def State.limitOf (s : State) (c : CfgSet) : Nat :=
  let r := c.get secStorage 0
  journalLimit (leAt r 28 4) (s.fld 0x10400018 15 0) (leAt r 0 2)

/-- Usable DRAM in bytes with `chans` enabled channels (R595, R340). -/
def State.usableDram (s : State) (chans : Nat) : Nat := chans * (s.dramRows - s.localRows) * 16 * s.dramRanks * 1792

def onesIn (v n : Nat) : Nat := ((List.range n).filter fun i => bit v i).length

/-- The areas counted against usable DRAM, in MiB, without the index (R595). -/
def otherAreas (c : CfgSet) : Nat :=
  leAt (c.get secStorage 0) 14 2 + leAt (c.get secProtocol 0) 12 4 + leAt (c.get secProtocol 0) 16 4 +
    leAt (c.get secPort 0) 24 2 + leAt (c.get secPort 1) 24 2

def State.areasFit (s : State) (c : CfgSet) (chans : Nat) : Bool :=
  let usable := s.usableDram chans / 1048576
  let index := leAt (c.get secStorage 0) 8 4
  if index = 0 then decide (otherAreas c + 1024 ≤ usable) else decide (otherAreas c + index ≤ usable)

/-- R141. -/
def checkProtocol (r : Bytes) : Nat :=
  firstBad [(inRange r 0 2 1 65535, rsRANGE), (inRange r 2 2 1 64, rsRANGE), (inRange r 4 4 100 100000, rsRANGE),
    (inRange r 8 4 1000 1000000, rsRANGE), (inRange r 12 4 64 4096, rsRANGE), (inRange r 16 4 64 2048, rsRANGE),
    (inRange r 20 4 0 10000, rsRANGE)]

/-- Does the XTS slot hold a key of the kind XTS names (R326)? -/
def State.xtsHeld (s : State) (xts slot : Nat) : Bool :=
  if xts = 0 then true
  else if xts = 1 then (s.slot slot).typ == 3 && (s.slot slot).cur.isSome
  else (s.slot slot).typ == 4 && (s.slot slot).cur.isSome && (s.slot (slot + 1)).typ == 5 && (s.slot (slot + 1)).cur.isSome

/-- R326. -/
def State.checkStorage (s : State) (c : CfgSet) : Nat :=
  let r := c.get secStorage 0
  let index := leAt r 8 4
  let xts := byteAt r 23
  let slot := leAt r 24 2
  let chEn := byteAt (c.get secDram 0) 0
  firstBad [(inRange r 0 2 64 512, rsRANGE), (inRange r 2 1 0 3, rsRANGE), (inRange r 3 1 4 7, rsRANGE), (inRange r 4 1 25 90, rsRANGE),
    (inRange r 5 1 0 1, rsRANGE), (inRange r 6 2 0 1000, rsRANGE), (index == 0 || inRange r 8 4 1024 57344, rsRANGE),
    (inRange r 12 2 1 32, rsRANGE), (inRange r 14 2 16 4096, rsRANGE), (inRange r 16 1 2 16, rsRANGE), (inRange r 17 1 4 16, rsRANGE),
    (inRange r 18 2 1 1024, rsRANGE), (inRange r 20 1 10 90, rsRANGE), (inRange r 21 1 3 20, rsRANGE), (inRange r 22 1 10 90, rsRANGE),
    (inRange r 23 1 0 2, rsRANGE), (inRange r 24 2 0 4095, rsRANGE), (inRange r 26 2 50 10000, rsRANGE),
    (decide (64 ≤ s.limitOf c), rsHOLDUP),
    (bit chEn (byteAt r 2) && bit chEn (byteAt r 3), rsREFERENCE),
    (s.areasFit c s.dramChans.length, rsLIMIT),
    (s.flashBlank || (xts == s.st.xts && (xts == 0 || slot == s.st.xtsSlot)), rsLOCKED),
    (s.xtsHeld xts slot, rsREFERENCE)]

/-- R369, R365. -/
def State.checkDram (s : State) (c : CfgSet) : Nat :=
  let r := c.get secDram 0
  let en := byteAt r 0
  let st := c.get secStorage 0
  let n := onesIn en 8
  firstBad [((n == 8 || n == 4) && bits en 0 4 != 0 && bits en 4 4 != 0, rsRULE), (bits (s.rd rDrcStatus) 8 8 &&& en == 0, rsREFERENCE),
    (bit en (byteAt st 2) && bit en (byteAt st 3), rsREFERENCE), (s.areasFit c n, rsLIMIT), (inRange r 1 1 0 3, rsRANGE),
    (inRange r 2 1 0 3, rsRANGE), (inRange r 3 1 0 3, rsRANGE), (inRange r 4 2 1 65535, rsRANGE), (inRange r 6 1 1 255, rsRANGE),
    (leAt r 8 4 == 0 || inRange r 8 4 10 10000, rsRANGE)]

/-- R412. A speed code grows as the speed falls (Table 9-1). -/
def State.checkPort (s : State) (c : CfgSet) (p : Nat) : Nat :=
  let r := c.get secPort p
  firstBad [(inRange r 0 1 0 4, rsRANGE), (inRange r 1 1 0 2, rsRANGE), (inRange r 2 1 0 2, rsRANGE), (inRange r 3 1 0 2, rsRANGE),
    (inRange r 4 2 1518 9216, rsRANGE), (inRange r 7 1 0 7, rsRANGE), (!bit (byteAt r 8) 0, rsRANGE), (inRange r 14 1 0 7, rsRANGE),
    (inRange r 15 1 0 4, rsRANGE), (inRange r 16 2 256 27648, rsRANGE), (decide (leAt r 18 2 < leAt r 16 2), rsRANGE),
    (inRange r 20 2 1 10000, rsRANGE), (inRange r 22 2 10 60000, rsRANGE), (inRange r 24 2 0 1024, rsRANGE), (inRange r 26 1 0 31, rsRANGE),
    (inRange r 27 1 1 50, rsRANGE), (inRange r 30 1 50 95, rsRANGE), (inRange r 31 1 1 255, rsRANGE),
    (fecOk (byteAt r 0) (byteAt r 2), rsRULE), (!bit (byteAt r 14) 2 || decide (byteAt r 0 < byteAt r 15), rsRULE),
    (s.areasFit c s.dramChans.length, rsLIMIT)]

/-- A gate record in force holds a cycle and a length the admin registers take (R402). -/
def checkGate (r : Bytes) : Nat :=
  if byteAt r 5 % 2 = 0 then 0
  else firstBad [(inRange r 0 4 1000 1000000000, rsRANGE), (inRange r 4 1 1 64, rsRANGE)]

/-- R47 for a tenant record. -/
def checkTenant (r : Bytes) : Nat :=
  if byteAt r 2 = 0 then firstBad [(decide (leAt r 0 2 < 1024), rsRANGE)]
  else firstBad [(decide (leAt r 0 2 < 1024), rsRANGE), (inRange r 2 1 1 2, rsRANGE), (byteAt r 3 == 0, rsRANGE),
    (leAt r 4 4 == 0 || inRange r 8 4 1 1048576, rsRANGE), (leAt r 12 4 == 0 || inRange r 16 4 1 1048576, rsRANGE),
    (inRange r 20 4 0 65536, rsRANGE)]

/-- R47 and the three rejections of its chapter for a namespace record. -/
def checkNs (c : CfgSet) (r : Bytes) : Nat :=
  if byteAt r 4 = 0 then firstBad [(decide (leAt r 0 2 < 4096), rsRANGE)]
  else
    let n := byteAt r 6
    let mt := leAt r 12 4
    let self := selfId c
    let bad := fun i => decide (i < n) && bits (leAt r (8 + 2 * i) 2) 0 14 == self
    firstBad [(decide (leAt r 0 2 < 4096), rsRANGE), (decide (leAt r 2 2 < 1024), rsRANGE), (inRange r 4 1 1 3, rsRANGE),
      (inRange r 5 1 0 15, rsRANGE), (byteAt r 7 == 0, rsRANGE), (mt == 0 || inRange r 12 4 100 100000, rsRANGE),
      (decide (leAt r 8 2 < 16384) && decide (leAt r 10 2 < 16384), rsRANGE),
      (tenantState c (leAt r 2 2 % 1024) != 0, rsREFERENCE), (decide (n ≤ 2), rsRULE), (!bad 0 && !bad 1, rsRULE),
      (byteAt r 4 != 3 || n == 0, rsRULE)]

/-- R81: each namespace with entries has one at the lowest head. -/
def dirOk (c : CfgSet) (e : Bytes) : Bool := c.dir.any fun x => dirNs x == dirNs e && allZeroHead x
where allZeroHead (x : Bytes) : Bool := dirHead x == 0

/-- N equal to the members of the ring, boundaries strictly ascending (R495). -/
def State.checkPack (s : State) (c : CfgSet) : Nat :=
  let n := packN c
  let members := onesIn (s.fld rPckStatus 23 16) 8
  firstBad [(n == 0 || (decide (2 ≤ n) && decide (n ≤ 8)), rsRANGE), (n == 0 || !s.ringUp || n == members, rsRULE),
    ((List.range (n - 2)).all fun i => decide (packBound c (i + 1) < packBound c (i + 2)), rsRULE)]

/-- R267: handler TYPEs only on entries 0x01 to 0x0C and only where the handler's entry word is inside its area; TYPE and
ROLE as Table 6-15 admits. -/
def State.checkBinding (s : State) (i : Nat) (r : Bytes) : Nat :=
  let w := leAt r 0 4
  let typ := bits w 8 8
  if !bit w 31 then 0
  else
    let word := leAt (s.tricks.handler.getD []) (4 * (typ - 0x80)) 4
    let handler := decide (0x80 ≤ typ) && decide (typ ≤ 0x8F)
    firstBad [(decide (1 ≤ bits w 16 4) && decide (bits w 16 4 ≤ 7), rsRANGE), (decide (typ ≤ 0xDF), rsRANGE),
      (!handler || (decide (1 ≤ i) && decide (i ≤ 12)), rsRULE), (!handler || (decide (0xA000 ≤ word) && decide (word ≤ 0xDFFF)), rsRULE)]

/-- KEYGRANT names a tenant of the set or none. -/
def checkGrant (c : CfgSet) (r : Bytes) : Nat :=
  let t := bits (leAt r 0 2) 0 10
  firstBad [(t == 0x3FF || tenantState c t != 0, rsREFERENCE)]

/-- The context pool lies within the 4,096 slots (R430); DUMMY and SHUFFLE as CPH_SCA takes them. -/
def checkCipher (r : Bytes) : Nat :=
  firstBad [(decide (leAt r 0 2 + leAt r 2 2 ≤ 4096), rsRANGE), (inRange r 4 1 0 7, rsRANGE), (inRange r 5 1 0 1, rsRANGE)]

/-- The check of record `i` of section `sec`. -/
def State.checkRec (s : State) (c : CfgSet) (sec i : Nat) : Nat :=
  let r := c.get sec i
  if sec = secProtocol then checkProtocol r else if sec = secStorage then s.checkStorage c else if sec = secDram then s.checkDram c
  else if sec = secPort then s.checkPort c i else if sec = secGate then checkGate r else if sec = secTenant then checkTenant r
  else if sec = secNs then checkNs c r else if sec = secPack then s.checkPack c else if sec = secBinding then s.checkBinding i r
  else if sec = secKeygrant then checkGrant c r else if sec = secCipher then checkCipher r else 0

/-- The records of a section that a commit looks at: those written, and the single records. -/
def recsOf (c : CfgSet) (sec : Nat) : List Nat :=
  let written := (c.recs.filter fun e => e.1 / 65536 = sec).map fun e => e.1 % 65536
  if recCount sec ≤ 2 then List.range (recCount sec) else written

def firstFail (f : Nat → Nat) : List Nat → Option (Nat × Nat)
  | [] => none
  | i :: t => if f i = 0 then firstFail f t else some (i, f i)

/-- The first failure in section order and index order (R495, step 2): section, record, reason. -/
def State.checkSet (s : State) (c : CfgSet) : List Nat → Option (Nat × Nat × Nat)
  | [] => none
  | sec :: t =>
    if sec = secDir then
      match firstFail (fun i => if dirOk c ((c.dir[i]?).getD []) then 0 else rsRULE) (List.range c.dir.length) with
      | some (i, r) => some (sec, i, r)
      | none => s.checkSet c t
    else match firstFail (s.checkRec c sec) (recsOf c sec) with
      | some (i, r) => some (sec, i, r)
      | none => s.checkSet c t

/-! Unit settings (R495, steps 3 and 5). -/

/-- Bit n of RTV_NS_LOCAL under a set (R187). -/
def State.nsLocal (s : State) (c : CfgSet) (n : Nat) : Bool :=
  nsStateOf c n != 0 && c.dir.all fun e => dirNs e != n || s.isLocalDev c (dirOwner e)

/-- Keep (`keep`) or also set the NS_LOCAL bits of a set. -/
def State.writeLocal (s : State) (c : CfgSet) (keep : Bool) : State :=
  (List.range 128).foldl (fun (s : State) i =>
    let old := s.rd (0x10200100 + 4 * i)
    let new := ((List.range 32).map fun b => if s.nsLocal c (32 * i + b) then 2 ^ b else 0).sum
    s.wr (0x10200100 + 4 * i) (if keep then old &&& new else new)) s

/-- Table 6-3. -/
def defaultBind (i : Nat) : Nat :=
  let e := fun role typ => 2 ^ 31 + role * 65536 + typ * 256
  if i = 0 then e 1 0x10
  else if (1 ≤ i ∧ i ≤ 7) ∨ i = 0xA ∨ i = 0xC ∨ i = 0x10 ∨ i = 0x20 ∨ i = 0x21 then e 1 0x11
  else if i = 8 ∨ i = 9 then e 2 0x12
  else if i = 0xB then e 5 0x13
  else if i = 0x30 ∨ i = 0x33 ∨ i = 0x34 then e 7 0x14
  else if i = 0x31 then e 6 0x15
  else if i = 0x32 then e 1 0x16
  else if 0x47 ≤ i ∧ i ≤ 0x4A then e 1 0x17 else 0

def State.writeBinds (s : State) (c : CfgSet) : State :=
  (List.range 80).foldl (fun (s : State) i =>
    let w := leAt (c.get secBinding i) 0 4
    s.wr (0x10003200 + 4 * i) (if bit w 31 then w &&& 0x800FFF00 else defaultBind i)) s

/-- Entry `i` of a port's filter table: an enabled address, or nothing where it is all zeros. -/
def State.writeFilt (s : State) (p i : Nat) (mac : Bytes) : State :=
  let a := macBase p + 0x40 + 8 * i
  if mac.all (· == 0) then (s.wr a 0).wr (a + 4) 0 else (s.wr a (beAt mac 2 4)).wr (a + 4) (2 ^ 31 + beAt mac 0 2)

/-- The filter table from a port record (R389): the port's address, the solicited-node addresses, the PTP addresses. -/
def State.writeFilts (s : State) (p : Nat) (r : Bytes) : State :=
  let node := fun (i : Nat) =>
    let a := slice r (48 + 16 * i) 16
    if a.all (· == 0) then [] else [0x33, 0x33, 0xFF] ++ a.drop 13
  let ptp := fun (m : Bytes) => if bit (byteAt r 14) 1 then m else []
  let s := s.writeFilt p 0 (slice r 8 6)
  let s := (List.range 4).foldl (fun (s : State) i => s.writeFilt p (1 + i) (node i)) s
  (s.writeFilt p 5 (ptp [0x01, 0x1B, 0x19, 0, 0, 0])).writeFilt p 6 (ptp [0x01, 0x80, 0xC2, 0, 0, 0x0E])

/-- Where the serving program places a port's spill area: port 1's ends the interleaved area, port 0's lies below it (log entry 103). -/
def State.spillBase (s : State) (c : CfgSet) (p : Nat) : Nat :=
  let n := fun q => leAt (c.get secPort q) 24 2 * 1048576
  s.interCap - (if p = 0 then n 0 + n 1 else n 1)

/-- A port's registers from its record (Tables 9-10 to 9-12). SPEED, MEDIA and FEC restart the link where they change. -/
def State.writePort (s : State) (c : CfgSet) (p : Nat) (up : Bool) : State :=
  let b := macBase p
  let r := c.get secPort p
  let old := s.rd b
  let ctl := bits (byteAt r 14) 0 1 * 16384 + bits (byteAt r 14) 1 1 * 8192 + byteAt r 1 * 256 + byteAt r 2 * 64 + byteAt r 0 * 8
  let new := (old &&& 0x8000) + ctl + (if up then 3 else old % 4)
  let s := s.wr b new
  let s := s.wr (b + 8) (leAt r 4 2)
  let s := s.wr (b + 0x10) (byteAt r 3 + byteAt r 7 * 16 + byteAt r 6 * 256)
  let s := s.wr (b + 0x14) (leAt r 16 4)
  let s := (s.wr (b + 0x18) (leAt r 20 2)).wr (b + 0x1C) (leAt r 22 2)
  let s := ((s.setC64 (b + 0x28) (s.spillBase c p)).wr (b + 0x30) (leAt r 24 2)).wr (b + 0x34) (byteAt r 26 + leAt r 28 2 * 65536)
  let s := s.writeFilts p r
  let s := (List.range 4).foldl (fun (s : State) i => s.wr (b + 0xC0 + 4 * i) (beAt r (32 + 4 * i) 4)) s
  let s := (List.range 16).foldl (fun (s : State) i => s.wr (b + 0xD0 + 4 * i) (beAt r (48 + 4 * i) 4)) s
  if up || bits old 3 7 != bits new 3 7 then linkRestart p s else s

/-- The gate list of a record whose settings changed goes to the admin registers, which hold while a change is pending, then
COMMIT (R403). -/
def State.writeGate (s : State) (p : Nat) (old new : Bytes) : State :=
  if old == new then s
  else
    let b := macBase p
    let s := gateEntryChange p ((s.setFlag (b + 0x300) 0 (bit (byteAt new 5) 0)).wr (b + 0x30C) (leAt new 6 2))
    if byteAt new 5 % 2 = 0 then s
    else if s.flag (b + 0x300) 1 then tgCommit p s
    else
      let s := (s.wr (b + 0x304) (leAt new 0 4)).wr (b + 0x308) (byteAt new 4)
      let s := s.setC64 (b + 0x310) (leAt new 8 8)
      tgCommit p ((List.range 64).foldl (fun (s : State) i => s.wr (b + 0x400 + 4 * i) (leAt new (16 + 4 * i) 4)) s)

/-- NOSE_PART_LO and NOSE_PART_HI from the boundaries (R86). -/
def State.writePart (s : State) (c : CfgSet) : State :=
  let n := packN c
  let p := s.packPos
  let lo := if n = 0 ∨ p = 0 then 0 else packBound c p * 2 ^ 20
  let hi := if n = 0 ∨ n ≤ p + 1 then 2 ^ 160 - 1 else packBound c (p + 1) * 2 ^ 20 - 1
  (List.range 5).foldl (fun (s : State) i => (s.wr (0x10100040 + 4 * i) (bits lo (32 * i) 32)).wr (0x10100060 + 4 * i) (bits hi (32 * i) 32)) s

/-- The followers a set names: namespace and device. -/
def mirrorPairs (c : CfgSet) : List (Nat × Nat) :=
  (recsOf c secNs).flatMap fun n => if nsStateOf c n = 0 then [] else (nsFollowers c n).map fun f => (n, f)

/-- Mirror states follow the namespace records. A commit attaches the followers that the set before it did not name; one that was detached
stays so while sets name it without a break, over a start as well (R84, log entry 85). -/
def State.writeMirrors (s : State) (old c : CfgSet) (up : Bool) : State :=
  let pairs := mirrorPairs c
  let was := fun (x : Nat × Nat) => up || (mirrorPairs old).contains x
  let out := s.st.detached.filter fun x => pairs.contains x && was x
  let of := fun (x : Nat × Nat) => match s.ks.mirrors.find? fun (m : Mirror) => m.ns = x.1 && m.follower = x.2 with
    | some m => if was x then m else { m with attached := true, backlog := [] }
    | none => { ns := x.1, follower := x.2, attached := !out.contains x, acked := 0, backlog := [] }
  (s.setSt { s.st with detached := out }).setKs { s.ks with mirrors := pairs.map of }

/-- A namespace is created: its commit counter is 0 and nothing of an earlier life shows (R53, log entry 83). Journal records of that life
become PAD records. -/
def State.nsCreate (s : State) (n : Nat) : State :=
  let cursors := (s.ks.cursors.filter fun (c : Cursor) => c.ns = n).map (·.id)
  let s := cursors.foldl (fun (s : State) i => s.closeCursor i) s
  let snaps := (s.ks.snaps.filter fun (x : Snap) => x.ns = n).map (·.id)
  let s := snaps.foldl (fun (s : State) i => s.releaseSnap i) s
  let s := s.setKs { s.ks with keys := s.ks.keys.filter (fun (k : KeyRec) => k.ns != n), ns := mdel s.ks.ns n }
  let s := s.setNose { s.nose with ents := s.nose.ents.filter fun e => orderNs e.2.order != n }
  let mine := (s.st.jrn.filter fun r => r.ns = n && r.typ != 4).map (·.jsn)
  let s := mine.foldl (fun (s : State) j => s.jrnPad j) s
  let index := fun (m : Map IdxEnt) => m.filter fun e => e.2.ns != n
  let stop := s.st.stop.map fun (c : Checkpoint) => { c with index := index c.index, counters := c.counters.filter fun e => e.1 != n }
  s.setSt { s.st with
    index := index s.st.index, hard := s.st.hard.filter (fun (h : HardRec) => h.r.typ = 5 || h.r.ns != n), stop := stop,
    images := s.st.images.map (fun (i : Image) => { i with recs := i.recs.filter fun r => r.ns != n }),
    detached := s.st.detached.filter (fun x => x.1 != n), born := mset s.st.born n s.st.nextRun }

/-- STATE of a namespace changes from `a` to `b`: absent to present creates it; a follower's counter follows what it has applied, and a
promoted one goes on from there (R85). -/
def State.nsChange (s : State) (n a b : Nat) : State :=
  let x := s.nsOf n
  if a = 0 ∧ b ≠ 0 then s.nsCreate n
  else if a ≠ 3 ∧ b = 3 then s.setNs n { x with applied := x.counter }
  else if a = 3 ∧ b ≠ 3 then s.setNs n { x with counter := x.applied }
  else s

/-- The namespaces whose STATE a commit changes. A start finds the sets' namespaces as they were. -/
def State.writeNs (s : State) (old c : CfgSet) (up : Bool) : State :=
  if up then s
  else ((recsOf old secNs ++ recsOf c secNs).eraseDups).foldl (fun (s : State) n => s.nsChange n (nsStateOf old n) (nsStateOf c n)) s

/-- A PACK record that changes leaves the old boundaries to be looked at (R89, R184). -/
def State.writeBounds (s : State) (old c : CfgSet) : State :=
  let r := old.get secPack 0
  if r == c.get secPack 0 || packN old < 2 then s else s.setPack { s.pack with moved := some r }

/-- Steps 1 and 4 of Table 6-6 have the Nose initialised, for which bring-up waits, and enabled. -/
def State.noseUp (s : State) : State :=
  ((s.setNose { s.nose with ready := true }).setFlag rNoseStatus 0 true).setFlag rNoseCtl 0 true

/-- Where the serving program places the context area (R430): at the start of the local area of the first channel that holds no journal
mirror (R595, log entry 103). -/
def State.ctxPlace (s : State) : Nat :=
  localKey ((s.dramChans.find? fun c => c != s.jrnChA && c != s.jrnChB).getD 0) 0

/-- Steps 3 and 5 of R495: from set `old` to set `c`. `up`: the ports are brought up (step 4 of Table 6-6). -/
def State.applyUnits (s : State) (old c : CfgSet) (up : Bool) : State :=
  let d := c.get secDram 0
  let k := c.get secCipher 0
  let s := s.wr 0x10005018 (s.limitOf c)
  let s := (s.wr 0x1030008C (leAt d 4 2 + byteAt d 6 * 65536)).wr 0x10300090 (leAt d 8 4)
  let s := (s.writePort c 0 up).writePort c 1 up
  let s := (s.writeGate 0 (old.get secGate 0) (c.get secGate 0)).writeGate 1 (old.get secGate 1) (c.get secGate 1)
  let s := (s.wr rCphPool (leAt k 0 2 + leAt k 2 2 * 65536)).wr 0x10700008 (byteAt k 4 + byteAt k 5 * 256)
  let s := if up then ((s.setC64 0x10700010 s.ctxPlace).setFlag rCphCtl 3 true).noseUp else s
  (((s.writePart c).writeMirrors old c up).writeNs old c up).writeBounds old c

end Sys2Proof.Machine
end

