-- ==== Sys2Proof/Machine/Rom.lean ====
section
/-! DEFINITION. Images and what the ROM does with them at every start of the operator plane (chapter 14: R522 to R528, R536 to
R540, R544 to R546). -/
namespace Sys2Proof.Machine

/-! Images (R525 to R528). -/

def allZero (b : Bytes) : Bool := b.all (· == 0)
/-- A blank fuse is all zeros (R523). -/
def blankFuse (b : Bytes) : Bool := allZero b

def hdrSvn (img : Bytes) : Nat := byteAt img 10
def hdrLength (img : Bytes) : Nat := leAt img 12 4
def hdrVersion (img : Bytes) : Nat := leAt img 16 8
def hdrAnchor (img : Bytes) : Nat := byteAt img 9

/-- The part's stepping (GLB_ID). -/
def stepping : Nat := 0xB0

/-- A signature verifies under an anchor (R522): the key hashes to the anchor and the signature verifies under the key. -/
def sigOk (anchor pub sig digest : Bytes) : Bool := Config.sha384 pub == anchor && Config.ecdsaOk pub digest sig

/-- The first condition of R528. -/
def headerFieldsOk (img : Bytes) : Bool :=
  decide (leAt img 0 4 = 0x1AD69640 ∧ leAt img 4 2 = 1 ∧ leAt img 6 2 = 0x9640 ∧ byteAt img 8 ≤ stepping ∧ hdrAnchor img ≤ 3 ∧
    hdrSvn img ≤ 64 ∧ 1 ≤ byteAt img 11 ∧ byteAt img 11 ≤ 8 ∧ 1024 ≤ hdrLength img ∧ hdrLength img ≤ 15728640) &&
  allZero (slice img 72 184) && allZero (slice img (256 + 384) 128)

/-- The header checks (R528) as a UCODE of Table 14-8: 0 where bytes 0 to 767 pass. -/
def headerCode (f : Fuses) (img : Bytes) : Nat :=
  let digest := Config.sha384 (img.take 256)
  if img.length < 768 || !headerFieldsOk img then 2
  else if bit f.revoked (hdrAnchor img) then 4
  else if !sigOk (Config.vendorAnchor (hdrAnchor img)) (slice img 256 96) (slice img 352 96) digest then 3
  else if !blankFuse f.opImage && !sigOk f.opImage (slice img 448 96) (slice img 544 96) digest then 3
  else if hdrSvn img < f.svn then 5 else 0

/-- Entry `i` of the component table (R527): TYPE, OFFSET, LENGTH. -/
def compEntry (img : Bytes) (i : Nat) : Nat × Nat × Nat :=
  let e := slice img (768 + 32 * i) 32
  (byteAt e 0, leAt e 4 4, leAt e 8 4)

def compMax (typ : Nat) : Nat := if typ = 1 then 917504 else if typ = 2 then 40960 else if typ = 3 then 32768 else 0

def compOk (img : Bytes) (i : Nat) : Bool :=
  let (typ, off, len) := compEntry img i
  let e := slice img (768 + 32 * i) 32
  decide (1 ≤ typ ∧ typ ≤ 3 ∧ off % 64 = 0 ∧ 1024 ≤ off ∧ len ≤ compMax typ ∧ off + len ≤ hdrLength img) &&
  allZero (slice e 1 3) && allZero (slice e 16 16)

/-- R527: one component of each TYPE, none overlapping, unused places zero. -/
def componentsOk (img : Bytes) : Bool :=
  let n := byteAt img 11
  let es := (List.range n).map (compEntry img)
  (List.range n).all (compOk img) &&
  ([1, 2, 3].all fun t => (es.filter fun e => e.1 = t).length == 1) &&
  allZero (slice img (768 + 32 * n) (256 - 32 * n)) &&
  (List.range n).all fun i => (List.range n).all fun j =>
    i == j || (let a := compEntry img i; let b := compEntry img j; decide (a.2.1 + a.2.2 ≤ b.2.1) || decide (b.2.1 + b.2.2 ≤ a.2.1))

/-- Is the whole image acceptable (R528)? 0, or the UCODE of the first failing check. -/
def imageCode (f : Fuses) (img : Bytes) : Nat :=
  let h := headerCode f img
  if h ≠ 0 then h
  else if Config.sha384 (slice img 768 (hdrLength img - 768)) ≠ slice img 24 48 then 9
  else if !componentsOk img then 0xA else 0

/-! Areas and descriptors (R529, R530). -/

/-- Erased NOR reads as ones. -/
def norPad (n : Nat) (b : Bytes) : Bytes := (b ++ List.replicate (n - b.length) 0xFF).take n

def Area.image (a : Area) : Bytes := match a.desc with
  | some d => norPad d.length a.data
  | none => []

def Desc.flag (d : Desc) (i : Nat) : Bool := bit d.flags i
def Desc.set (d : Desc) (i : Nat) : Desc := { d with flags := setBits d.flags i 1 1 }
def Area.flag (a : Area) (i : Nat) : Bool := match a.desc with
  | some d => d.flag i
  | none => false
def Area.set (a : Area) (i : Nat) : Area := { a with desc := a.desc.map fun d => d.set i }
/-- VALID of an area, STAGED of the Kennel (Table 14-6). -/
def Area.valid (a : Area) : Bool := a.flag 2
def Area.version (a : Area) : Nat := (a.desc.map (·.version)).getD 0
def Area.svn (a : Area) : Nat := (a.desc.map (·.svn)).getD 0
def Area.tries (a : Area) : Nat := (a.desc.map (·.tries)).getD 0

def Desc.blocks (d : Desc) : Nat := (d.length + 65535) / 65536

/-! Copies (R537). -/

inductive CopyEnd | done | failed (block : Nat) | lost
deriving DecidableEq, Repr

/-- Is a copy into `dst` a resumption (R537)? -/
def resumes (src dst : Desc) : Bool := dst.flag 0 && !dst.flag 2 && dst.hash == src.hash

/-- Copy `src` into `dst`: the first block copied, the area after, how it ended. -/
def copyArea (src dst : Area) (fate : CopyFate) : Nat × Area × CopyEnd :=
  match src.desc with
  | none => (0, dst, .failed 0)
  | some sd =>
    let fresh : Desc := { length := sd.length, version := sd.version, svn := sd.svn, hash := sd.hash, flags := 1, tries := 0, copied := [] }
    let d : Desc := match dst.desc with
      | some d => if resumes sd d then d else fresh
      | none => fresh
    let n := d.blocks
    let b0 := ((List.range n).find? fun b => !d.copied.contains b).getD n
    let upto := fun (k : Nat) => ({ desc := some { d with copied := List.range k }, data := src.data.take (65536 * k) } : Area)
    let full : Area := upto n
    let ended : Area × CopyEnd :=
      if Config.sha384 (full.image) = d.hash then (full.set 2, .done) else (full, .failed n)
    match fate with
    | .whole => (b0, ended)
    | .fails k => if b0 ≤ k ∧ k < n then (b0, upto k, .failed k) else (b0, ended)
    | .cut k => if b0 ≤ k ∧ k < n then (b0, upto k, .lost) else (b0, ended)

/-! The ROM (R536). -/

inductive RomEnd
  | boot (backup : Bool)
  | recovery (reason : Nat)
  /-- Supply or reset ended the start. -/
  | lost
deriving DecidableEq, Repr

/-- What one start has done: NOR, events with their arguments in order, copies not yet taken, reverts. -/
structure Rom where
  u : Update
  evs : List (Nat × Bytes)
  fates : List CopyFate
  reverts : Nat
  stop : Option RomEnd

def Rom.ev (r : Rom) (code : Nat) (args : Bytes) : Rom := { r with evs := r.evs ++ [(code, args)] }
def Rom.fate (r : Rom) : CopyFate := r.fates.headD .whole
def Rom.next (r : Rom) : Rom := { r with fates := r.fates.drop 1 }

def verArgs (b : Bytes) (v : Nat) : Bytes := padTo 8 b ++ leBytes 8 v

/-- The copy of a revert, begun or resumed; on success the active image is confirmed. -/
def Rom.revertCopy (r : Rom) (reason : Nat) : Rom :=
  let (_, a, e) := copyArea r.u.backup r.u.active r.fate
  let r := { r.next with u := { r.u with active := a } }
  match e with
  | .done =>
    let r := { r with u := { r.u with active := a.set 4 }, reverts := r.reverts + 1 }
    r.ev 0x209 (verArgs (leBytes 1 reason) a.version)
  | .failed b => { r.ev 0x206 (leBytes 2 b ++ zeros 14) with stop := some (.recovery 2) }
  | .lost => { r with stop := some .lost }

/-- `revert` of R536. -/
def Rom.revert (r : Rom) (reason : Nat) : Rom :=
  match r.u.backup.valid, r.u.backup.desc with
  | true, some b =>
    let d : Desc := { b with flags := 65, tries := 0, copied := [] }
    { r with u := { r.u with active := { desc := some d, data := [] } } }.revertCopy reason
  | _, _ => { r with stop := some (.recovery 3) }

/-- The copy Kennel to active, begun or resumed (R536, R539). -/
def Rom.activate (r : Rom) : Rom :=
  let (first, a, e) := copyArea r.u.kennel r.u.active r.fate
  let r := { r.next with u := { r.u with active := a } }
  match e with
  | .done => r.ev 0x205 (verArgs (leBytes 2 first) a.version)
  | .failed b => { r with u := { r.u with kennel := r.u.kennel.set 4 } }.ev 0x206 (leBytes 2 b ++ zeros 14)
  | .lost => { r with stop := some .lost }

/-- The activation branch of R536: the backup first where it differs. -/
def Rom.take (r : Rom) : Rom :=
  let need := r.u.active.valid && (!r.u.backup.valid || (r.u.backup.desc.map (·.hash)) != (r.u.active.desc.map (·.hash)))
  let go := fun (r : Rom) => { r with u := { r.u with kennel := r.u.kennel.set 3 } }.activate
  if need then
    let (_, b, e) := copyArea r.u.active r.u.backup r.fate
    let r := { r.next with u := { r.u with backup := b } }
    match e with
    | .done => go (r.ev 0x204 (verArgs (leBytes 2 ((b.desc.map (·.blocks)).getD 0)) b.version))
    | .failed k => r.ev 0x206 (leBytes 2 k ++ [1] ++ zeros 13)
    | .lost => { r with stop := some .lost }
  else go r

/-- The boot choice of R536, R538 and R540. `secs`: UPD_PROBATION_S. -/
def Rom.boot (r : Rom) (secs : Nat) : Rom :=
  let a := r.u.active
  if a.valid && imageCode r.u.fuses a.image == 0 && (a.flag 4 || decide (a.tries < 3)) then
    if a.flag 4 then { r with stop := some (.boot false) }
    else
      let a := { a with desc := a.desc.map fun d => { d with tries := d.tries + 1 } }
      { r with u := { r.u with active := a }, stop := some (.boot false) }.ev 0x207 (leBytes 1 a.tries ++ zeros 3 ++ leBytes 4 secs ++ zeros 8)
  else if r.u.backup.valid && imageCode r.u.fuses r.u.backup.image == 0 then
    { r with u := { r.u with bootedBackup := true }, stop := some (.boot true) }.ev 0x20C (verArgs [] r.u.backup.version)
  else { r with stop := some (.recovery 2) }

/-- R536, then the RECOVERY strap. -/
def romRun (u : Update) (strap : Bool) (secs : Nat) (fates : List CopyFate) : Rom :=
  let r : Rom := { u := u, evs := [], fates := fates, reverts := 0, stop := none }
  let a := u.active
  let k := u.kennel
  let r :=
    if a.flag 0 && !a.valid then
      if a.flag 6 then r.revertCopy 4
      else if k.flag 3 && !k.flag 4 then r.activate
      else r.revert (if k.flag 4 then 3 else 4)
    else if a.valid && !a.flag 4 && (a.flag 5 || decide (3 ≤ a.tries)) then r.revert (if a.flag 5 then 2 else 1)
    else if k.flag 2 && !k.flag 3 && headerCode u.fuses k.image == 0 then r.take
    else r
  match r.stop with
  | some _ => r
  | none => if strap then { r with stop := some (.recovery 1) } else r.boot secs

end Sys2Proof.Machine
end

