-- ==== Sys2Proof/Machine/Modes.lean ====
section
/-! DEFINITION. Operating modes, power and reset (chapter 11: R444 to R471), with bring-up from step 4 of Table 6-6 and the
start of the operator plane. -/
namespace Sys2Proof.Machine

def rPwrCtl : Nat := 0x10000
def rPwrModeReq : Nat := 0x10008
def rPwrModeSt : Nat := 0x1000C
def rPwrWarn : Nat := 0x10010
def rPwrReset : Nat := 0x10014
def rPwrCause : Nat := 0x10020
def rPwrFault : Nat := 0x10024
def rRtvCtl : Nat := 0x10200000

/-- The codes of Table 11-1; Off has none. -/
def Mode.code : Mode → Nat
  | .off => 0
  | .recovery => 0
  | .boot => 1
  | .heel => 2
  | .serve => 3
  | .doze => 4
  | .nap => 5
  | .sit => 6
  | .drain => 7
  | .brace => 8
  | .test => 9
  | .fault => 10

def State.setBase (s : State) (m : Mode) : State := s.modeTo { s.power with base := m }

/-- A reset source acts (R463). -/
def State.cause (s : State) (b : Nat) : State := s.setFlag rPwrCause b true

/-- µs since time `t`. -/
def State.usSince (s : State) (t : Nat) : Nat := (s.now - t) / 1500

/-! Mode reports (R474, Table 12-3). -/

/-- The code a MODE_REPORT carries, the lowest that stands. -/
def State.reportCode (s : State) : Nat := (lowest s.brace.codes).getD 0

/-- The serving plane reports its mode, a refusal or a bring-up code. -/
def State.report (s : State) (refusal code : Nat) : State :=
  let arg := if code = 6 then s.rd 0x10900004 % 65536 else 0
  s.toKeeper 0x32 false 0 (leBytes 1 s.modeNow.code ++ leBytes 1 s.power.prev.code ++ leBytes 1 refusal ++ leBytes 1 s.power.step ++
    leBytes 2 code ++ zeros 2 ++ leBytes 8 arg)

/-! Resets (R28, R463, R472, R481). -/

/-- The registers and counters of one plane only. -/
def Csrs.operatorOnly (c : Csrs) : Csrs :=
  { words := c.words.filter fun e => decide (e.1 < 0x10000000), ctrs := c.ctrs.filter fun e => decide (e.1 < 0x10000000) }
def Csrs.servingOnly (c : Csrs) : Csrs :=
  { words := c.words.filter fun e => decide (0x10000000 ≤ e.1), ctrs := c.ctrs.filter fun e => decide (0x10000000 ≤ e.1) }

/-- A reset of the serving plane: everything of it takes its reset value, the flash packages keep their contents, and the
Fence's entries it sent or was to read are gone (R481). -/
def State.svReset (s : State) : State :=
  s.track { s with
    csr := s.csr.operatorOnly, phc := 0, mem := Mems.reset, threads := [], engines := [], disp := Disp.reset, jobs := Jobs.reset,
    tricks := Tricks.reset, ks := Keyspace.reset, ft := FetchSt.reset, nose := Nose.reset, pack := Pack.reset,
    st := s.st.svReset, net := { s.net with port0 := Port.reset, port1 := Port.reset }, cph := Cipher.reset, drc := Dram.reset,
    fence := Fence.reset, tst := TestUnit.reset, brace := BraceState.reset,
    cfg := { s.cfg with active := CfgSet.empty, shadow := CfgSet.empty, prev := none, waiting := none },
    keeper := { s.keeper with heartbeats := false, outQ := [] },
    upd := { s.upd with claim := match s.upd.claim with
      | some c => if c.holder = 2 then none else some c
      | none => none },
    power := { s.power with base := .boot, brace := false, drain := false, sit := false, step := 0, drainStep := 0, waking := false,
                            stopped := false, svRstOut := false, reqBusy := false, testSeen := false } }

/-- Operator-plane registers that lie in the always-on block, or are sampled at PORST_N, or must outlive the reset to mean
anything (UPD_PROBATION_S, R549; log entry 21). -/
def alwaysOn (a : Nat) : Bool := [rPwrCause, 0x10028, 0x30030, 0x40008, 0x30020, 0x30038].contains a

/-- The 48 bytes of UPD_FUSE_DATA. -/
def State.fuseBytes (s : State) : Bytes := (List.range 12).flatMap fun i => leBytes 4 (mgetD s.upd.fuseData i 0)

/-- Fuse operation `op` programs `d`, or bit `a` of VENDOR_REVOKED where `b` is 1 (R524, Table 14-13). -/
def Fuses.burn (f : Fuses) (op a : Nat) (d : Bytes) (b : Nat) : Fuses :=
  if op = 1 then { f with opImage := d } else if op = 2 then { f with opHandler := d } else if op = 3 then { f with mgmtKey := d }
  else { f with revoked := f.revoked ||| b % 2 * 2 ^ a }

/-- Programming cut short leaves each bit either programmed or blank (R524): which ones is a free value. -/
def State.cutFuse (s : State) : State :=
  match s.upd.fuseOp with
  | none => s
  | some (op, a) =>
    let (free, s) := s.drawBytes 48
    let d := s.fuseBytes.zipWith (fun (x y : Byte) => x &&& y) free
    s.setUpd { s.upd with fuses := s.upd.fuses.burn op a d (byteAt free 0), fuseOp := none }

/-- A reset of the operator plane alone: its registers, the Keeper, the update claim and the Fence's entries toward the serving
plane go; boot NOR, fuses and the always-on block stay. -/
def State.operatorReset (s : State) : State :=
  let s := s.cutBrace.cutFuse
  let ctl := s.fld rPwrCtl 1 0
  let kept := s.csr.operatorOnly
  let sv := s.csr.servingOnly
  let csr : Csrs :=
    { words := (kept.words.filter fun e => alwaysOn e.1) ++ sv.words, ctrs := (kept.ctrs.filter fun e => alwaysOn e.1) ++ sv.ctrs }
  let k := s.keeper
  let s := { s with
    csr := csr,
    fence := { s.fence with toS := [] },
    keeper := { Keeper.reset with storeTricks := k.storeTricks, storeHandler := k.storeHandler, heartbeats := k.heartbeats,
                                  heardAt := s.now },
    cfg := { s.cfg with incoming := none, persisting := [] },
    net := { s.net with mgtRing := [] },
    upd := { s.upd with claim := none, lastUcode := 0, bootedBackup := false, probation := none, heelSeen := false, fuseData := [],
                        fuseOp := none, norOctal := false },
    trail := { s.trail with waiting := [], leaseNext := none, looking := false, fromNor := none },
    power := { s.power with reqBusy := false, svPwrFail := false } }
  s.setFld rPwrCtl 1 0 ctl

/-! Start of the operator plane (R453 steps 3 and 4, R499, R516, R536 to R546). -/

/-- The current half of the configuration area (R499). -/
def Cfg.current (c : Cfg) : Option NorHalf :=
  if c.half0.valid && c.half1.valid then (if c.half1.serial < c.half0.serial then some c.half0 else some c.half1)
  else if c.half0.valid then some c.half0 else if c.half1.valid then some c.half1 else none

/-- The serving supplies are asked for and SV_RESET cleared (Table 11-4a, step 4). -/
def State.raiseSupplies (s : State) : State :=
  let s := s.setPower { s.power with svPwrFail := false }
  (s.setFlag rPwrCtl 0 true).setFlag rPwrCtl 1 false

/-- The serving plane is held in reset and SV_PWR_EN goes low (R454; the 100 µs between them are no step of their own). -/
def State.dropSupplies (s : State) : State := (s.svReset.setFlag rPwrCtl 1 true).setFlag rPwrCtl 0 false

/-- The management port comes up under MGT_MAC, in the mode MGT_SEL selects (R545; log entry 23 for a start outside Recovery). -/
def State.mgtUp (s : State) : State :=
  (s.wr 0x50000 (5 + 2 * b2n (s.flag 0x10028 2))).setC64 0x50008 (Config.mgtMac % 2 ^ 48)

/-- Steps 3 and 4 of Table 11-4a once the operator plane leaves reset: Trail start, ROM, then the Keeper or Recovery. -/
def State.operatorStart (s : State) (i : RomIn) : State :=
  let secs := s.rd 0x40008
  let rom := romRun s.upd (s.flag 0x10028 0) secs i.copies
  let s := (s.setUpd { rom.u with norOctal := i.octal }).bump 0x40410 rom.reverts
  let s := s.setKeeper { s.keeper with rcd := match s.cfg.current with
    | some h => h.keeperRec
    | none => defaultKeeperRec }
  let s := if s.svPresent then s else s.setBase .boot
  let s := s.trailStart i.ring i.page
  let s := rom.evs.foldl (fun s e => s.keeperEvent e.1 3 e.2) s
  match rom.stop with
  | none => s
  | some .lost => s
  | some (.recovery why) =>
    let s := s.keeperEvent 0x20B 3 (leBytes 1 why ++ zeros 15)
    (s.dropSupplies.mgtUp).setBase .recovery
  | some (.boot backup) =>
    let s := s.setKeeper { s.keeper with running := true, kickAt := s.now, heardAt := s.now }
    let s := s.mgtUp.setFlag 0x20000 0 true
    let inProbation := !backup && !s.upd.active.flag 4
    let s := s.setUpd { s.upd with probation := if inProbation then some (s.now, secs) else none }
    s.raiseSupplies

/-- Both planes reset and start again from step 3 of Table 11-4a (R463). -/
def State.fullReset (s : State) (b : Nat) (i : RomIn) : State :=
  let s := s.svReset
  let s := s.modeTo { s.power with fault := false }
  ((s.operatorReset).cause b).operatorStart i

/-- The serving plane alone is reset and passes through Boot from step 6 (R463). -/
def State.svOnlyReset (s : State) (b : Nat) : State :=
  let s := s.svReset
  (s.modeTo { s.power with fault := false }).cause b

/-! Bring-up from step 4 and entry to Serve (Table 6-6, R451, R501). -/

/-- Does a request for Serve stand refused (R451)? 0, or the REASON of Table 11-3. It is BUSY while bring-up goes on. -/
def State.serveRefusal (s : State) : Nat :=
  if s.limitOf s.cfg.active < 64 then 3
  else if !s.brace.codes.isEmpty then 4
  else if s.power.step = 5 ∨ s.power.step = 7 then 1
  else if s.power.sit && (s.flag rDrcStatus 24 || (s.brace.sitFlush && s.c64 rJrnHead != s.c64 rJrnTail)) then 5
  else 0

/-- Entry to Serve: the serving program sets RTV_CTL.ENABLE (R456). -/
def State.serveEnter (s : State) : State :=
  let s := s.setFlag rRtvCtl 0 true
  let s := s.setBrace { s.brace with sitFlush := false }
  s.modeTo { s.power with base := .serve, sit := false, waking := false, reqBusy := false }

/-- A bring-up step failed or step 8 is done: Heel, reported (R260). -/
def State.heelWith (s : State) (step code : Nat) : State :=
  let s := s.modeTo { s.power with base := .heel, step := step }
  let s := if code = 0 ∨ code = 5 ∨ s.brace.codes.contains code = true then s else s.setBrace { s.brace with codes := s.brace.codes ++ [code] }
  s.report 0 code

/-- The roles that step 6 of Table 6-6 asks for and no engine has yet, then serve for the rest: engine and role (log entry 99). -/
def State.bringUpRoles (s : State) (tricks : Bool) : List (Nat × Nat) :=
  let others := (List.range 63).map (· + 1)
  let more := fun (x : Nat × Nat) => List.replicate (x.2 - (others.filter fun e => (s.deng e).role == x.1).length) x.1
  let want := [(1, 8), (3, 2), (4, 2), (2, 1)] ++ (if s.ks.mirrors.isEmpty then [] else [(6, 1)]) ++ (if tricks then [(5, 1)] else [])
  let free := others.filter fun e => (s.deng e).role == 0 && (s.deng e).pendRole.isNone
  free.zip (want.flatMap more ++ List.replicate 63 1)

/-- An engine takes its first role; its threads run and the dispatcher hears from them at once. -/
def State.giveRole (s : State) (e role : Nat) : State :=
  let d := s.deng e
  let ep := if d.epoch = 0xFFFF then 1 else d.epoch + 1
  let s := s.setDEng e { d with epoch := ep, role := role, state := 1, assigned := some s.now }
  (s.setFld rDspAssignSt 31 16 ep).setRole e (ep * 65536 + role)

/-- Step 8. -/
def State.bringUpEnd (s : State) : State :=
  let s := s.heelWith 8 0
  if s.flag rPwrCtl 2 && s.serveRefusal == 0 then s.serveEnter.report 0 0 else s

/-- Step 7 ends once no trick and no handler is on its way to the lead engine. -/
def State.bringUpNext (s : State) : State :=
  let waits := (s.fence.toS ++ s.keeper.outQ).any fun p => p.typ == 0x21 || p.typ == 0x22
  if s.power.step = 7 ∧ (s.power.base = .boot ∨ s.power.base = .heel) ∧ waits = false then s.bringUpEnd else s

/-- Steps 5 to 8: the journal is recovered, roles are assigned, and the Keeper sends every stored trick again (R271). -/
def State.bringUpFrom5 (s : State) : State :=
  let (ok, s) := s.recover
  if !ok then s.heelWith 5 2
  else
    let stored := if s.keeper.running then s.keeper.storeTricks else []
    let s := (s.bringUpRoles (!stored.isEmpty)).foldl (fun (s : State) x => s.giveRole x.1 x.2) (s.setFlag rDspCtl 0 true)
    let s := s.setPower { s.power with step := 7 }
    (stored.foldl (fun (s : State) e => s.keeperSend 0x22 false 0 e.2) s).bringUpNext

/-- Step 5 begins once every line of DRAM holds a codeword (R337). -/
def State.bringUpGo (s : State) : State := if s.flag rDrcStatus 0 then s.bringUpFrom5 else s.setPower { s.power with step := 5 }

/-! Stops and returns: the Brace sequence (Table 7-10, R462, R465, R466). -/

/-- Steps 1 to 3 of Table 7-10: ports and dispatcher stop, flash jobs end, staging and queues drain. -/
def State.braceStart (s : State) (after : Nat) : State :=
  let b := s.brace
  let s := s.setBrace { b with running := true, done := false, since := s.now, lowSense := s.power.sense, count := none, after := after }
  if s.power.base = .nap then s else ((fspChangeComplete s).finishAll).flashBrace

/-- Brace entry on a warning (R465); the Trail saves its newest records (R514), which the Brace sequence of Fault and Drain does
not do, since it is not the Brace mode (R447). -/
def State.braceEnter (s : State) : State :=
  let s := (s.modeTo { s.power with brace := true }).trailBrace
  let s := s.bump 0x10100
  if s.brace.running then s else s.braceStart (if s.power.drain then s.brace.after else 0)

/-- Table 11-6: does the cause save? -/
def faultSaves (c : Nat) : Bool := c == 1 || c == 2 || c == 4 || c == 6 || c == 8

/-- Step 4 of R461. -/
def State.faultReset (s : State) : State :=
  let c := s.fld rPwrFault 7 0
  let s := if c = 5 then s.dropSupplies else s.svReset
  s.setPower { s.power with fault := true }

/-- Fault entry (R461): events, the save where Table 11-6 says so, and the reset. `saved`: Brace has just completed. -/
def State.faultNow (s : State) (c arg : Nat) (saved : Bool) : State :=
  let s := s.modeTo { s.power with fault := true, brace := false, drain := false, reqBusy := false }
  let s := s.wr rPwrFault (c + arg % 2 ^ 24 * 256)
  let s := s.keeperEvent 0x100 2 (leBytes 1 c ++ zeros 3 ++ leBytes 4 arg ++ zeros 8)
  if faultSaves c && !saved then (if s.brace.running then s.setBrace { s.brace with after := 1 } else s.braceStart 1) else s.faultReset

/-- A cause of Table 11-6 arises (R450, R461): any mode with the serving plane running; during Brace it waits for its end. -/
def State.faultEnter (s : State) (c arg : Nat) : State :=
  if !s.svPresent || s.power.fault then s
  else if s.power.brace && s.brace.running then
    match s.brace.pendingFault with
    | some _ => s
    | none => s.setBrace { s.brace with pendingFault := some (c, arg) }
  else s.faultNow c arg (s.power.brace && s.brace.done)

/-- Steps 1 to 3 of R466: BRACE clears, aborted jobs and stopped erases are issued again. -/
def State.flashResume (s : State) : State :=
  let s := s.setFlag rFlcCtl 2 false
  let again := fun (s : State) (j : FJob) =>
    let s := s.setTh j.thread { s.th j.thread with tickets := setNth (s.th j.thread).tickets j.ticket .busy }
    s.setSt { s.st with jobs := s.st.jobs ++ [{ j with id := s.st.nextJob, running := false, bound := false }], nextJob := s.st.nextJob + 1 }
  let jobs := s.st.aborted
  let s := s.setSt { s.st with aborted := [] }
  let s := jobs.foldl again s
  let stopped := (s.st.segs.filter fun e => e.2.eraseStopped).map (·.1)
  stopped.foldl (fun s n =>
    let s := s.setSt { s.st with media := dropSeg s.st.media n, parity := dropSeg s.st.parity n }
    s.setSeg n { Segm.erased with erases := (s.seg n).erases + 1 }) s

/-! Nap (R458, R459). -/

/-- Segments of channel `ch` that hold part of the index or a journal local area (R358). -/
def State.keptSegments (s : State) (ch : Nat) : List Nat :=
  let perRow := max (s.dramChans.length * 16 * s.dramRanks * 1792) 1
  let idxRows := (s.st.nbuckets * 64 + perRow - 1) / perRow
  let low := (List.range idxRows).map s.rowSegment
  let top := if ch = s.jrnChA ∨ ch = s.jrnChB then (List.range s.localRows).map fun i => s.rowSegment (s.dramRows - 1 - i) else []
  low ++ top

def State.passr (s : State) (ch : Nat) : Nat :=
  let kept := s.keptSegments ch
  ((List.range 8).map fun g => if kept.contains g then 0 else 2 ^ g).sum

/-- Retriever's and the Nose's registers lose power in Nap. -/
def napLoses (a : Nat) : Bool := decide (0x10100000 ≤ a) && decide (a < 0x10300000)

/-- Nap entry (R458). -/
def State.napEnter (s : State) : State :=
  let saved := (s.ft.sessions.filter fun e => e.2.cipher ≠ 0 && e.2.slot.isNone).map (·.1)
  let s := saved.foldl (fun s n => s.dropSession n) s
  let s := (s.linkFalls 0).linkFalls 1
  let s := s.dramChans.foldl (fun (s : State) ch => s.wr (0x103000A0 + 4 * ch) (s.passr ch)) s
  let s := selfRefreshEnter s
  let s := { s with csr := { words := s.csr.words.filter fun e => !napLoses e.1, ctrs := s.csr.ctrs.filter fun e => !napLoses e.1 } }
  let s := s.setNose Nose.reset
  let s := s.setMem { s.mem with vcache := [] }
  let s := s.setKs { s.ks with keys := s.ks.keys.map fun k => { k with nose := none } }
  let s := s.setFt { s.ft with replays := [] }
  let s := (s.setPort 0 { s.port 0 with rx := [], txq := [], sending := none }).setPort 1 { s.port 1 with rx := [], txq := [], sending := none }
  s.modeTo { s.power with base := .nap, drain := false, sit := false, stopped := true, reqBusy := false }

/-- Step 5 of R459: WAKE_TO, where R451 lets Serve be entered. -/
def State.wakeEnd (s : State) : State :=
  if s.power.wakeTo = 3 ∧ s.serveRefusal = 0 then s.serveEnter.report 0 0
  else
    let s := s.modeTo { s.power with waking := false, reqBusy := false, base := .heel }
    s.report (if s.power.wakeTo = 3 then s.serveRefusal else 0) 0

/-- A wake begins (R459): clocks, self-refresh exit, ports; it ends once the DRAM is initialised. -/
def State.wake (s : State) (goal : Nat) : State :=
  let s := s.setPower { s.power with stopped := false, waking := true, wakeTo := goal }
  let s := selfRefreshExit s
  let s := ((s.writeLocal s.cfg.active false).writePart s.cfg.active).noseUp
  let s := (linkRestart 0 s) |> linkRestart 1
  if s.flag rDrcStatus 0 then s.wakeEnd else s

/-- DRAM_INIT_COMPLETE (R337, R359): a wake, or a bring-up that waits for it, goes on. -/
def dramInitDone (s : State) : State :=
  let t := dramInitComplete s
  if s.flag rDrcStatus 0 || !t.flag rDrcStatus 0 then t
  else if s.power.waking then t.wakeEnd
  else if (s.power.base = .boot ∨ s.power.base = .heel) ∧ (s.power.step = 3 ∨ s.power.step = 5) then
    (t.setBrace { t.brace with codes := t.brace.codes.filter (· != 1) }).bringUpFrom5
  else t

/-! Drain (R456, R457). -/

/-- Steps 1 and 2 of Table 11-5. -/
def State.drainStart (s : State) (after wakeTo : Nat) : State :=
  let s := s.setFlag rRtvCtl 0 false
  let heldIds := (s.ft.frames.filter fun e => match e.2.phase with
    | .held => true
    | .intake => !s.frameMayGo e.1
    | _ => false).map (·.1)
  let s := heldIds.foldl (fun s id => (s.removeFrame id).bump 0x10000100) s
  let s := (s.ft.sessions.map (·.1)).foldl (fun s n => s.segAbort n) s
  let s := (s.ks.cursors.map fun (k : Cursor) => k.id).foldl (fun s k => s.closeCursor k) s
  let s := (s.ks.snaps.map fun (x : Snap) => x.id).foldl (fun s k => s.releaseSnap k) s
  s.modeTo { s.power with drain := true, drainStep := 3, drainAfter := after, wakeTo := wakeTo, reqBusy := true }

/-- Every delivered frame has completed (Table 11-5, step 3). -/
def State.framesDone (s : State) : Bool := s.ft.frames.all fun e => match e.2.phase with
  | .sent => true
  | _ => false

def State.mirrorsDone (s : State) : Bool := s.ks.mirrors.all fun (m : Mirror) => !m.attached || m.backlog.isEmpty

/-- Step 4's end: a follower that has not acknowledged is detached (R84). -/
def State.detachLate (s : State) : State :=
  s.ks.mirrors.foldl (fun s m =>
    if m.attached && !m.backlog.isEmpty then
      let out := s.ks.mirrors.map fun (x : Mirror) => if x.ns = m.ns ∧ x.follower = m.follower then { x with attached := false, backlog := [] } else x
      ((s.setKs { s.ks with mirrors := out }).noteDetached m).svEvent 0x0403 8 (leBytes 2 m.ns ++ leBytes 2 m.follower ++ zeros 12)
    else s) s

/-- Step 6: the AFTER action. -/
def State.drainEnd (s : State) (i : RomIn) : State :=
  let a := s.power.drainAfter
  if a = 0 then s.fullReset 4 i
  else if a = 1 then s.svOnlyReset 5
  else if a = 5 then s.napEnter
  else
    let s := s.modeTo { s.power with base := .heel, drain := false, sit := false, reqBusy := false }
    s.report 0 0

/-- DRAIN_COMPLETE (Table 11-5, steps 4 to 6): once every delivered frame is done. -/
def drainComplete (i : RomIn) (s : State) : State :=
  if !s.power.drain || s.brace.running || s.power.brace || !s.framesDone then s
  else (s.detachLate.cleanStop).drainEnd i

/-- DRAIN_TIMEOUT (R457). -/
def drainTimeout (s : State) : State :=
  if !s.power.drain || s.brace.running || s.power.brace then s
  else
    let step := if !s.framesDone then 3 else if !s.mirrorsDone then 4 else 5
    let s := s.setPower { s.power with drainStep := step, drainAfter := if s.power.drainAfter = 5 then 2 else s.power.drainAfter }
    (s.keeperEvent 0x105 2 (leBytes 1 step ++ zeros 15)).braceStart 2

/-! Brace completion and return. -/

/-- BRACE_COMPLETE (Table 7-10 steps 4 to 6, R321, R450, R469). `header`: the image header read back on a channel. -/
def braceComplete (header : Bool) (i : RomIn) (s : State) : State :=
  if !s.brace.running || s.drc.change.isSome then s
  else
    let nap := s.power.base == .nap
    let mib := if nap then 0 else s.unsavedMib
    let s := if nap || !header then s else s.braceImage
    let dur := s.usSince s.brace.since
    let s := (s.wr 0x10030 (dur % 2 ^ 20)).wr 0x10034 (mib % 1024 + s.power.sense % 4096 * 65536)
    let s := if s.power.brace then s.keeperEvent 0x103 2 (leBytes 4 dur ++ leBytes 2 mib ++ leBytes 2 s.power.sense ++ zeros 8) else s
    let b := s.brace
    let s := s.setBrace { b with running := false, done := s.power.brace, count := if s.power.brace && s.power.senseOk && !s.power.pfail then some s.now else none }
    if !header && !nap && !s.power.fault then s.faultNow 7 0 true
    else match b.pendingFault with
      | some (c, arg) => s.faultNow c arg true
      | none =>
        if s.power.fault then s.faultReset
        else if b.after = 2 && !s.power.brace then (s.flashResume).drainEnd i
        else s

/-- BRACE_RETURN (R466, R597, R515). -/
def braceReturn (i : RomIn) (s : State) : State :=
  if !s.power.brace || !s.brace.done || s.brace.count.isNone || s.power.warn then s
  else
    let b := s.brace
    let us := s.usSince b.since
    let nap := s.power.base == .nap
    let s := if nap then s else (s.flashResume).stopWrites
    let s := s.setBrace { b with done := false, count := none, after := 0 }
    let s := s.modeTo { s.power with brace := false }
    let s := s.bump 0x10108
    let s := s.keeperEvent 0x102 2 (leBytes 4 us ++ leBytes 2 b.lowSense ++ zeros 10)
    let s := s.trailAfterBrace
    if nap then s.wake s.power.wakeTo
    else if b.after = 2 then s.drainEnd i
    else s

/-! Requests (R448, R449, Table 11-2). -/

def State.refuse (s : State) (reason : Nat) : State :=
  let s := (s.setFlag rPwrModeSt 1 true).setFld rPwrModeSt 15 8 reason
  if s.svUp && s.power.step != 0 then s.report reason 0 else s

/-- Serve from Heel or Sit. -/
def State.requestServe (s : State) : State :=
  if s.power.base = .nap ∧ s.power.brace = false then
    if s.power.waking then s.setPower { s.power with wakeTo := 3 }
    else
      let t := s.wake 3
      t.setPower { t.power with reqBusy := t.power.waking }
  else if s.power.drain || s.power.brace then s.refuse 1
  else if s.modeNow = .heel ∨ s.modeNow = .sit then
    let r := s.serveRefusal
    if r ≠ 0 then s.refuse r else s.serveEnter.report 0 0
  else s.refuse 2

def State.requestHeel (s : State) : State :=
  if s.power.base = .nap ∧ s.power.brace = false then
    if s.power.waking then s.setPower { s.power with wakeTo := 2 }
    else
      let t := s.wake 2
      t.setPower { t.power with reqBusy := t.power.waking }
  else if s.power.drain || s.power.brace then s.refuse 1 else s.refuse 2

/-- Sit is entered (R460): writes are refused from here. -/
def State.sitEnter (s : State) (flush : Bool) : State :=
  let s := s.setBrace { s.brace with sitFlush := flush }
  (s.modeTo { s.power with sit := true }).report 0 0

def State.requestSit (s : State) : State :=
  if s.power.drain || s.power.brace || s.power.waking then s.refuse 1
  else if s.modeNow = .serve ∨ s.modeNow = .doze then s.sitEnter false else s.refuse 2

/-- DRC_STATUS.SIT_REQ rose (R367, R460): from Serve or Doze the device enters Sit and flushes the journal. -/
def State.sitOnRequest (s : State) (ch : Nat) : State :=
  if s.modeNow = .serve ∨ s.modeNow = .doze then
    (s.svEvent 0x0106 2 (leBytes 1 ch ++ zeros 15)).sitEnter true
  else s

/-- Run `f`; where it raises SIT_REQ, enter Sit. The channel is the first whose window holds UE_SIT errors. -/
def State.withSit (s : State) (f : State → State) : State :=
  let t := f s
  if t.flag rDrcStatus 24 && !s.flag rDrcStatus 24 then
    let ch := ((List.range 8).find? fun c => decide (t.fld 0x1030008C 23 16 ≤ (t.chan c).ueWin)).getD 0
    t.sitOnRequest ch
  else t

def State.requestDrain (s : State) (after wakeTo : Nat) : State :=
  if s.power.drain || s.power.brace || s.power.waking then s.refuse 1
  else if s.modeNow = .heel ∨ s.modeNow = .serve ∨ s.modeNow = .doze ∨ s.modeNow = .sit then
    if !(after = 0 || after = 1 || after = 2 || after = 5) || (after == 5 && !(wakeTo = 2 || wakeTo = 3)) then s.refuse 7
    else s.drainStart after wakeTo
  else s.refuse 2

/-- Test (R550, R551): a clean stop, then ARM. -/
def State.requestTest (s : State) : State :=
  if s.power.drain || s.power.brace || s.power.waking then s.refuse 1
  else if s.modeNow ≠ .heel then s.refuse 2
  else if !(s.flag 0x10028 1 && s.flag 0x10000014 3) then s.refuse 6
  else
    let s := s.cleanStop
    let s := (s.setFlag 0x10900000 0 true).setFlag rRtvCtl 0 false
    (s.setBase .test).report 0 0

/-- Boot, from Fault, Test or a failed power-up (R448, R453, R552). -/
def State.requestBoot (s : State) : State :=
  if s.power.fault && s.brace.running then s.refuse 1
  else if s.power.fault ∨ (s.power.base = .boot ∧ s.power.svPwrFail = true ∧ s.svPresent = false) then (s.svOnlyReset 5).raiseSupplies
  else if s.power.base = .test then
    let s := (s.wr 0x50030 0x1E00).wr 0x200 0
    s.svOnlyReset 5
  else if s.power.drain || s.power.brace || s.power.waking then s.refuse 1
  else s.refuse 2

def State.requestFault (s : State) : State :=
  if !s.svPresent || s.power.fault then s.refuse 2 else s.faultEnter 8 0

/-- A request (R449): TARGET, AFTER and WAKE_TO are written and GO set. -/
def State.request (s : State) (target after wakeTo : Nat) : State :=
  let s := s.wr rPwrModeReq (target + after * 16 + wakeTo * 256)
  if s.power.reqBusy && !(s.power.waking && (target = 2 || target = 3)) && target ≠ 10 then s.refuse 1
  else if target = 1 then s.requestBoot
  else if target = 2 then s.requestHeel
  else if target = 3 then s.requestServe
  else if target = 6 then s.requestSit
  else if target = 7 then s.requestDrain after wakeTo
  else if target = 9 then s.requestTest
  else if target = 10 then s.requestFault
  else s.refuse 2

/-! Supplies and resets from outside (R453, R454, R463 to R468). -/

/-- The present reading of PMON_SENSE (Table 11-9). -/
def State.sensed (s : State) (mv : Nat) : State :=
  let old := s.fld 0x1001C 27 16
  let s := s.setFld 0x1001C 11 0 mv
  let s := s.setFld 0x1001C 27 16 (if old = 0 then mv else min old mv)
  let s := s.setPower { s.power with sense := mv }
  if s.power.brace then s.setBrace { s.brace with lowSense := min s.brace.lowSense mv } else s

def State.warnLevel (s : State) : Nat := s.fld rPwrWarn 11 0
def State.okLevel (s : State) : Nat := s.fld rPwrWarn 11 0 + s.fld rPwrWarn 23 16

/-- SUPPLY_WARNING (R465): the inputs as they stand for 1 µs. The return count needs them good throughout, be a drop a warning or not (R466). -/
def supplyWarning (mv : Nat) (pfailLow : Bool) (s : State) : State :=
  let s := s.sensed mv
  let src := s.fld rPwrWarn 29 28
  let s := s.setPower { s.power with pfail := pfailLow, senseOk := decide (s.okLevel ≤ mv) }
  if (bit src 0 && decide (mv < s.warnLevel)) || (bit src 1 && pfailLow) then
    let s := s.setPower { s.power with warn := true }
    let s := s.setBrace { s.brace with count := none }
    match s.modeNow with
    | .heel | .serve | .doze | .sit | .drain | .nap => s.braceEnter
    | .boot | .recovery | .test | .fault => s.keeperEvent 0x101 2 (leBytes 2 mv ++ leBytes 1 s.modeNow.code ++ zeros 13)
    | .brace | .off => s
  else if mv < s.okLevel ∨ pfailLow = true then s.setBrace { s.brace with count := none } else s

/-- SUPPLY_WARNING_CLEAR (R466): the inputs are good again; the return count starts once Brace is complete. -/
def supplyClear (mv : Nat) (s : State) : State :=
  let s := s.sensed mv
  if mv < s.okLevel then s
  else
    let s := s.setPower { s.power with pfail := false, warn := false, senseOk := true }
    if s.power.brace && s.brace.done then s.setBrace { s.brace with count := some s.now } else s

/-- SENSE_RESET_LEVEL (R467): both islands reset and stay so. -/
def senseReset (mv : Nat) (s : State) : State :=
  let s := s.sensed mv
  if s.power.dip || !s.power.aon || s.fld rPwrReset 11 0 ≤ mv then s
  else
    let s := (s.svReset).operatorReset
    let p := s.power
    (s.modeTo { p with dip := true, fault := false }).cause 2

/-- RESET_LEVEL_RELEASE (R467). -/
def resetRelease (mv : Nat) (i : RomIn) (s : State) : State :=
  let s := s.sensed mv
  if !s.power.dip || mv < s.okLevel then s
  else
    let s := s.setPower { s.power with dip := false, warn := false, senseOk := true }
    if s.power.porstHigh then s.operatorStart i else s

/-- AON_POR (R463): everything but boot NOR, fuses and flash takes its reset value; PORST_N is low. -/
def aonPor (s : State) : State :=
  let s := s.cutBrace.cutFuse
  let blank := { State.reset with
    pending := s.pending, free := s.free, readData := s.readData, st := s.st.svReset,
    cfg := { Cfg.reset with half0 := s.cfg.half0, half1 := s.cfg.half1 },
    keeper := { Keeper.reset with storeTricks := s.keeper.storeTricks, storeHandler := s.keeper.storeHandler },
    upd := { Update.reset with fuses := s.upd.fuses, active := s.upd.active, backup := s.upd.backup, kennel := s.upd.kennel },
    trail := { Trail.reset with half0 := s.trail.half0, half1 := s.trail.half1, cur := s.trail.cur, pos := s.trail.pos,
                                erased := s.trail.erased, slotUsed := s.trail.slotUsed, slotPages := s.trail.slotPages } }
  blank.setPower { Power.reset with base := .off, porstHigh := false, svPgood := false }

/-- PORST (R463, R464, R453). -/
def porst (e : PorstEdge) (s : State) : State :=
  match e with
  | .falls =>
    let s := (s.svReset).operatorReset
    let s := (s.setFld rPwrCtl 1 0 2).cause 1
    s.modeTo { s.power with porstHigh := false, base := .off, fault := false }
  | .rises r t m i =>
    let s := s.modeTo { s.power with porstHigh := true, base := .boot }
    (s.wr 0x10028 (b2n r + 2 * b2n t + 4 * b2n m)).operatorStart i

/-- Does an edge of PORST_N act: the always-on block runs, the pin changes, and no reset level holds the device? -/
def State.porstActs (s : State) (e : PorstEdge) : Bool := match e with
  | .falls => s.power.aon && s.power.porstHigh
  | .rises _ _ _ _ => s.power.aon && !s.power.porstHigh && !s.power.dip

/-- KEEPER_WATCHDOG_EXPIRY (R475): the operator plane alone is reset. -/
def keeperWatchdog (i : RomIn) (s : State) : State :=
  if !s.flag 0x10 31 then s else ((s.operatorReset).cause 3).operatorStart i

/-- SV_PGOOD_RISE (R453): the serving rails stand. -/
def svPgoodRise (s : State) : State := if s.flag rPwrCtl 0 then s.setPower { s.power with svPgood := true } else s

/-- SV_PGOOD_FALL (R461, R463): with SV_PWR_EN high a serving plane out of reset is reset into Fault; in Fault it loses its supply at
once. -/
def svPgoodFall (s : State) : State :=
  let was := s.power.svPgood
  let s := s.setPower { s.power with svPgood := false }
  if !was || !s.flag rPwrCtl 0 then s
  else
    let s := s.cause 6
    if !s.svPresent then s else if s.power.fault then s.dropSupplies else s.faultNow 5 0 true

/-- 32-byte pieces of a component as SERVE_LOAD messages (R538, Table 12-3); GO on the final one where `go`. -/
def serveParts : Nat → Nat → Bool → Bytes → List FPart
  | 0, _, _, _ => []
  | n + 1, addr, go, b =>
    let last := decide (b.length ≤ 32)
    let p := partsOf 0x20 false 0 0 (leBytes 4 addr ++ leBytes 1 (b2n (last && go)) ++ zeros 3 ++ padTo 32 (b.take 32))
    if last then p else p ++ serveParts n (addr + 32) go (b.drop 32)

/-- Pieces of the handler (R266): OFFSET, LAST, 32 bytes. -/
def handlerParts : Nat → Nat → Nat → Bytes → List FPart
  | 0, _, _, _ => []
  | n + 1, tag, off, b =>
    let last := decide (b.length ≤ 32)
    let p := partsOf 0x21 false tag 0 (leBytes 4 off ++ leBytes 1 (b2n last) ++ zeros 3 ++ padTo 32 (b.take 32))
    if last then p else p ++ handlerParts n tag (off + 32) (b.drop 32)

/-- The component of one TYPE: LOAD and its bytes (R527). -/
def component (img : Bytes) (typ : Nat) : Nat × Bytes :=
  match (List.range (byteAt img 11)).find? fun i => (compEntry img i).1 = typ with
  | some i => (leAt img (768 + 32 * i + 12) 4, slice img (compEntry img i).2.1 (compEntry img i).2.2)
  | none => (0, [])

/-- What the Keeper sends once the serving plane leaves reset: the serving program, its data, and the stored operator handler
(R500, R538; log entry 24). -/
def State.sendProgram (s : State) : State :=
  if !s.keeper.running then s
  else
    let img := if s.upd.bootedBackup then s.upd.backup.image else s.upd.active.image
    let (ia, ib) := component img 2
    let (la, lb) := component img 3
    let h := match s.keeper.storeHandler with
      | some c => handlerParts 520 0 0 c
      | none => []
    let q := serveParts 1024 (2 ^ 31 + la % 2 ^ 31) false lb ++ serveParts 1280 (ia % 2 ^ 31) true ib ++ h
    drainS 64 (s.setKeeper { s.keeper with outQ := q })

/-- SVRST_RELEASE (Table 11-4a step 6, R332, R442, R464, R565): straps, self-test of the SRAMs, known-answer tests and the
context KEK (R430). -/
def svrstRelease (packPos : Nat) (testEn : Bool) (post kat : Nat) (s : State) : State :=
  if !s.power.svPgood || s.flag rPwrCtl 1 || s.svPresent || s.power.fault || s.power.dip || !s.flag rPwrCtl 0 then s
  else
    let s := s.modeTo { s.power with svRstOut := true, base := .boot, step := 0 }
    let s := s.wr 0x10000014 (packPos + 8 * b2n testEn)
    let s := s.setFld rPckStatus 10 8 packPos
    let bad := if testEn then post % 2 ^ 16 else 0
    let s := if testEn then s.wr 0x10900004 (bad + 65536) else s
    let k := kat % 2 ^ 11
    let s := s.wr rCphStatus (b2n (k == 0) + bits k 0 8 * 256 + bits k 8 1 * 2 ^ 17 + bits k 9 2 * 2 ^ 18)
    let s := s.setBrace { s.brace with codes := (if k = 0 then [] else [4]) ++ (if bad = 0 then [] else [6]) }
    let (kek, s) := s.drawBytes 32
    (s.setCph { s.cph with kek := kek }).sendProgram

/-- SV_PWR_TIMEOUT (R453). -/
def svPwrTimeout (s : State) : State :=
  if s.power.svPgood || !s.flag rPwrCtl 0 then s
  else
    let s := s.dropSupplies
    (s.setPower { s.power with svPwrFail := true }).keeperEvent 0x104 2 (zeros 16)

/-- SV_PWR_EN_CLEAR (R454): ignored outside Heel, Recovery and Fault. -/
def svPwrEnClear (s : State) : State :=
  let m := s.modeNow
  if m = .heel ∨ m = .recovery ∨ m = .fault then
    let fault := s.power.fault
    let t := s.dropSupplies
    t.modeTo { t.power with base := s.power.base, fault := fault }
  else s

def svPwrEnSet (s : State) : State := s.setFlag rPwrCtl 0 true
/-- SV_RESET_SET (R463, R472). -/
def svResetSet (s : State) : State := (s.svOnlyReset 5).setFlag rPwrCtl 1 true
def svResetClear (s : State) : State := s.setFlag rPwrCtl 1 false

/-- PWR_LOCK (R471). -/
def pwrLock (s : State) : State := s.setFlag rPwrCtl 3 true

/-! Commands. -/

def execRequestServe (s : State) : Out := s.onOp fun s => s.request 3 0 0
def execRequestSit (s : State) : Out := s.onOp fun s => s.request 6 0 0
def execRequestDrain (after wakeTo : BitVec 4) (s : State) : Out := s.onOp fun s => s.request 7 after.toNat wakeTo.toNat
def execDrainTimeout (s : State) : Out := s.onOp drainTimeout
def execDrainComplete (i : RomIn) (s : State) : Out := s.onAny (drainComplete i)
def execRequestWake (goal : Bool) (s : State) : Out := s.onOp fun s => s.request (if goal then 3 else 2) 0 0
def execNapTimerExpiry (s : State) : Out :=
  s.onOp fun s => if s.power.base = .nap ∧ s.power.waking = false ∧ s.power.brace = false ∧ s.rd 0x10038 ≠ 0 then s.wake s.power.wakeTo else s
def execRequestTest (s : State) : Out := s.onOp fun s => s.request 9 0 0
def execRequestBoot (s : State) : Out := s.onOp fun s => s.request 1 0 0
def execRequestFault (s : State) : Out := s.onOp fun s => s.request 10 0 0
def execThermTrip (s : State) : Out := s.onAny fun s => s.faultEnter 4 0
def execSvPgoodFall (s : State) : Out := s.onAny svPgoodFall
def execSvPgoodRise (s : State) : Out := s.onAny svPgoodRise
def execSvrstRelease (packPos : BitVec 3) (testEn : Bool) (post : Half) (kat : BitVec 11) (s : State) : Out :=
  s.onAny (svrstRelease packPos.toNat testEn post.toNat kat.toNat)
def execSvPwrTimeout (s : State) : Out := s.onOp svPwrTimeout
def execSvPwrEnSet (s : State) : Out := s.onOp svPwrEnSet
def execSvPwrEnClear (s : State) : Out := s.onOp svPwrEnClear
def execSvResetSet (s : State) : Out := s.onOp svResetSet
def execSvResetClear (s : State) : Out := s.onOp svResetClear
def execFullReset (i : RomIn) (s : State) : Out := s.onOp fun s => s.fullReset 4 i
def execPwrLock (s : State) : Out := s.onOp pwrLock
def execAonPor (s : State) : Out := .next (aonPor s)
/-- After an edge the functional state is undefined only where a pin-driving instruction stands in the test access port (R564). -/
def execPorst (e : PorstEdge) (s : State) : Out :=
  .next (if s.porstActs e then { porst e s with pending := s.pending, jtag := s.jtag, corrupt := s.jtag.drives } else s)
def execSvUv (s : State) : Out := s.onAny fun s => if s.svPresent then s.svOnlyReset 7 else s
def execSenseResetLevel (mv : BitVec 12) (s : State) : Out := s.onAny (senseReset mv.toNat)
def execResetLevelRelease (mv : BitVec 12) (i : RomIn) (s : State) : Out := s.onAny (resetRelease mv.toNat i)
def execSupplyWarning (mv : BitVec 12) (pfailLow : Bool) (s : State) : Out := s.onAny (supplyWarning mv.toNat pfailLow)
def execSupplyWarningClear (mv : BitVec 12) (s : State) : Out := s.onAny (supplyClear mv.toNat)
def execBraceComplete (header : Bool) (i : RomIn) (s : State) : Out := s.onAny (braceComplete header i)
def execBraceReturn (i : RomIn) (s : State) : Out := s.onAny (braceReturn i)
def execKeeperWatchdogExpiry (i : RomIn) (s : State) : Out := s.onOp (keeperWatchdog i)
def execDramInitComplete (s : State) : Out := s.onSv dramInitDone
def execDramScrub (ecc : List Ecc) (s : State) : Out := s.onSv fun s => s.withSit (dramScrub ecc)
def execDramRequest (a : BitVec 40) (write : Bool) (data mask : Bytes) (old : Ecc) (rt : Option (Fin 3)) (s : State) : Out :=
  s.onSv fun s => s.withSit (dramRequest a.toNat write data mask old (rt.map (·.val)))
def execDramCommandIssue (ch : Fin 8) (timed : List Nat) (s : State) : Out := s.onSv fun s => s.withSit (dramCommandIssue ch.val timed)
def execFspHowlTimeout (s : State) : Out := s.onSv fun s => s.withSit fspHowlTimeout
def execFspChangeComplete (s : State) : Out := s.onSv fun s => s.withSit fspChangeComplete
def execSelfRefreshExit (s : State) : Out := s.onSv fun s => s.withSit selfRefreshExit
def execTrainWindowClose (ch : Fin 8) (apply : Bool) (s : State) : Out := s.onSv fun s => s.withSit (trainClose ch.val apply)
def execTrainWindowTimeout (ch : Fin 8) (s : State) : Out := s.onSv fun s => s.withSit (trainTimeout ch.val)
def execCipherJobEnd (id : Nat) (ce ue : List Nat) (old : Ecc) (s : State) : Out := s.onSv fun s => s.withSit (cipherJobEnd id ce ue old)
def execDmaJobComplete (id : Nat) (ce ue : List Nat) (old : Ecc) (s : State) : Out :=
  s.onSv fun s => s.withSit (dmaJobComplete id ce ue old)
def execFlashJobComplete (id : Nat) (fates : List CwFate) (fail : Option (Nat × Nat)) (ce ue : List Nat) (old : Ecc)
    (raw : Bytes) (s : State) : Out :=
  s.onSv fun s => s.withSit (flashJobComplete id fates fail ce ue old raw)

end Sys2Proof.Machine
end

