-- ==== Sys2Proof/Machine/KeeperBase.lean ====
section
/-! DEFINITION. The Keeper's operator channels (R484 to R489, R532): datagrams and I3C messages in, replies out, forwards across
the Fence with rewritten TAGs, and the order in which the Keeper takes what reaches it. -/
namespace Sys2Proof.Machine

/-! The Keeper record (Table 12-14). -/

def recIpv4 (r : Bytes) : Bytes := slice r 0 4
def recIpv6 (r : Bytes) : Bytes := slice r 4 16
def recPort (r : Bytes) : Nat := leAt r 20 2
def recAccess (r : Bytes) : Nat := byteAt r 22
def recHoldup (r : Bytes) : Nat := leAt r 24 4
def recCounterHi (r : Bytes) : Nat := leAt r 28 4

/-- The link-local address formed from MGT_MAC as EUI-64 (R545). -/
def linkLocal : Bytes :=
  let m := beBytes 6 Config.mgtMac
  [0xFE, 0x80] ++ zeros 6 ++ [(m.headD 0) ^^^ 2] ++ slice m 1 2 ++ [0xFF, 0xFE] ++ slice m 3 3

/-- The ROM's download mode: the operator plane runs and no image does (R545). -/
def State.inRecovery (s : State) : Bool := !s.keeper.running && s.power.base == .recovery

/-- The management addresses: IPv4 as mapped, and IPv6 (R486, R545). -/
def State.mgtAddrs (s : State) : List Bytes :=
  let r := s.keeper.rcd
  let known := s.cfg.current.isSome || !s.inRecovery
  let v4 := if known && !allZero (recIpv4 r) then [mapped (recIpv4 r)] else []
  let v6 := if !known then [linkLocal] else if allZero (recIpv6 r) then [] else [recIpv6 r]
  v4 ++ v6

/-! Replies. -/

def noSrc : OpSrc := { chan := 2, addr := [], port := 0, sess := 0, seq := 0 }

/-- A reply to the management port; it waits while the COUNTER_HI its datagram raised is being persisted (R486). -/
def State.mgtReply (s : State) (src : OpSrc) (image : Bool) (msgs : List Bytes) : State :=
  let d : Datagram := { addr := src.addr, port := src.port, counter := src.seq, image := image, msgs := msgs }
  let pending := s.cfg.persisting.any fun p => match p with
    | .counterHi _ c => c == src.seq
    | _ => false
  if pending then s.setKeeper { s.keeper with heldReplies := s.keeper.heldReplies ++ [d] } else s.mgtOut d

/-- A reply to an operator channel. -/
def State.opSend (s : State) (src : OpSrc) (msgs : List Bytes) : State :=
  if src.chan = 0 then s.mgtReply src false msgs
  else if src.chan = 1 then s.setKeeper { s.keeper with i3cOut := s.keeper.i3cOut ++ msgs }
  else s

/-- A message in the layout of R476 on the operator plane. -/
def opParts (typ : Nat) (reply : Bool) (tag : Nat) (data : Bytes) : List Bytes := (partsOf typ reply tag 0 data).map FPart.bytes

def State.opReply (s : State) (src : OpSrc) (typ tag : Nat) (data : Bytes) : State := s.opSend src (opParts typ true tag data)

def State.opNak (s : State) (src : OpSrc) (tag ntype reason : Nat) : State :=
  s.opReply src 0x7E tag (leBytes 1 ntype ++ leBytes 1 reason)

/-- KEEPER_REPLY (Table 12-8). -/
def State.keeperReply (s : State) (src : OpSrc) (tag status addr : Nat) (words : Bytes) : State :=
  s.opReply src 0x83 tag (leBytes 1 status ++ zeros 3 ++ leBytes 4 addr ++ padTo 40 words)

/-- A message from the serving plane goes to the channel that asked, with the operator's TAG (R484). -/
def State.relay (s : State) (m : FMsg) : State :=
  match mget s.keeper.tags m.tag with
  | some (src, tag) => (s.setKeeper { s.keeper with tags := mdel s.keeper.tags m.tag }).opReply src m.typ tag m.data
  | none => s

/-- A message of the Keeper's own goes to the source of the newest accepted datagram (R487). -/
def State.tellOperator (s : State) (typ : Nat) (data : Bytes) : State :=
  match s.keeper.lastSrc with
  | some (a, p) => s.mgtOut { addr := a, port := p, counter := 0, image := false, msgs := opParts typ false 0 data }
  | none => s

/-! Forwarding (R484, R485). -/

/-- Types marked "Yes" in Table 12-3. -/
def operatorTypes : List Nat :=
  [0x01, 0x02, 0x03, 0x10, 0x11, 0x12, 0x13, 0x14, 0x15, 0x16, 0x17, 0x18, 0x22, 0x23, 0x40, 0x41, 0x50]

/-- A message with its TAG rewritten goes toward the serving plane; START is the Keeper's alone (Table 12-3). -/
def State.opForward (s : State) (m : OpMsg) : State :=
  let tag := s.keeper.nextTag % 65535 + 1
  let data := if m.typ = 2 then patch m.data 4 [0] else m.data
  let s := s.setKeeper { s.keeper with nextTag := tag }
  let s := if m.typ = 0x40 then trailWallWrite (leAt m.data 0 8) s else s
  let s := if m.typ = 0x40 ∨ m.typ = 0x41 then s else s.setKeeper { s.keeper with tags := mset s.keeper.tags tag (m.src, m.tag) }
  let s := if m.typ = 0x22 then s.setKeeper { s.keeper with loading := mset s.keeper.loading (byteAt m.data 0) m.data } else s
  s.keeperSend m.typ false tag data

/-- Is a whole handler image right (R266, R489, R523, R547)? Its code where it is. The signature block is its last 224 bytes, behind
the code filled up to a multiple of 32 bytes (log entry 22). -/
def handlerCode (f : Fuses) (image : Bytes) : Option Bytes :=
  let body := image.take (image.length - 224)
  let block := image.drop (image.length - 224)
  let len := leAt block 0 4
  let code := body.take len
  if image.length < 224 || len % 4 ≠ 0 || len = 0 || 16384 < len || body.length ≠ (len + 31) / 32 * 32 then none
  else if blankFuse f.opHandler then none
  else if sigOk f.opHandler (slice block 32 96) (slice block 128 96) (Config.sha384 (code ++ block.take 32)) then some code
  else none

/-- HANDLER_LOAD from an operator channel (R489). -/
def State.takeHandler (s : State) (m : OpMsg) : State :=
  let off := leAt m.data 0 4
  let have_ := if off = 0 then [] else s.keeper.handlerIn
  let refuse := (s.setKeeper { s.keeper with handlerIn := [] }).keeperReply m.src m.tag 2 0 []
  if off ≠ have_.length then refuse
  else
    let image := have_ ++ slice m.data 8 32
    if !bit (byteAt m.data 4) 0 then s.setKeeper { s.keeper with handlerIn := image }
    else match handlerCode s.upd.fuses image with
      | none => refuse
      | some code =>
        let tag := s.keeper.nextTag % 65535 + 1
        let k := s.keeper
        drainS 64 (s.setKeeper { k with
          nextTag := tag, handlerIn := [], tags := mset k.tags tag (m.src, m.tag), loading := mset k.loading 256 code,
          outQ := k.outQ ++ handlerParts 520 tag 0 code })

/-- May the I3C channel carry this type (R488)? -/
def State.i3cMay (s : State) (typ : Nat) : Bool :=
  let a := recAccess s.keeper.rcd
  a == 2 || (a == 1 && (typ == 0x80 || typ == 0x50 || typ == 0x16))

/-! Image commands (R531, R532, Tables 14-7 to 14-9). -/

def opImage : Nat := 0x33

def imgCmd (arg : Nat) : Nat := bits arg 56 8
def imgOffset (arg : Nat) : Nat := bits arg 0 32

/-- A CMD of Table 14-7, reserved ARG bits zero; in Recovery only BEGIN to STATUS (R545). -/
def State.imgKnown (s : State) (arg : Nat) : Bool :=
  decide (1 ≤ imgCmd arg) && decide (imgCmd arg ≤ (if s.inRecovery then 5 else 7)) && bits arg 32 24 == 0

def ucOK : Nat := 0
def ucBUSY : Nat := 1
def ucNOCLAIM : Nat := 6
def ucBADOFFSET : Nat := 7
def ucSHORT : Nat := 8
def ucNORFAIL : Nat := 0xB
def ucPROBATION : Nat := 0xC
def ucNOTCONFIRMABLE : Nat := 0xD
def ucREVERTING : Nat := 0xE
def ucBADCOMMAND : Nat := 0xF

/-- STATUS of an answer by its UCODE (R531). -/
def ucStatus (u : Nat) : Nat :=
  if u = ucOK then stOK else if u = ucBUSY ∨ u = ucPROBATION then stBUSY else if u = ucBADCOMMAND then stMALFORMED else stDENIED

def State.holder? (s : State) : Nat × Nat × Nat := match s.upd.claim with
  | some c => (c.holder, c.session, c.next)
  | none => (0, 0, 0)

/-- Response ARG (R531). -/
def State.imgArg (s : State) (u : Nat) : Nat :=
  let (h, sid, next) := s.holder?
  u * 2 ^ 56 + h * 2 ^ 48 + sid * 2 ^ 32 + next % 2 ^ 32

/-- The result of an image command is kept, counted and recorded (R548, Table 14-13). -/
def State.ucode (s : State) (u : Nat) : State :=
  let s := s.setUpd { s.upd with lastUcode := u }
  if u = ucOK then s
  else
    let (h, sid, _) := s.holder?
    (s.bump 0x40400).keeperEvent 0x202 3 (leBytes 1 u ++ leBytes 1 h ++ leBytes 2 sid ++ zeros 12)

/-- The answer goes back to its source: an image datagram, or IMAGE_REPLY (R531, R532). -/
def State.imgAnswer (s : State) (src : OpSrc) (u : Nat) (val : Bytes) : State :=
  let arg := s.imgArg u
  if src.chan = 0 then
    s.mgtReply src true [opBytes opImage 0 (ucStatus u) 0 [] val arg]
  else if src.chan = 2 then
    s.keeperSend 0x71 true 0 (leBytes 2 src.sess ++ zeros 2 ++ leBytes 4 src.seq ++ leBytes 1 (ucStatus u) ++ zeros 7 ++ leBytes 8 arg ++
      leBytes 2 val.length ++ zeros 6 ++ val)
  else s

def State.imgEnd (s : State) (src : OpSrc) (u : Nat) (val : Bytes) : State := (s.ucode u).imgAnswer src u val

/-- Messages the Keeper answers itself, by a command of their own: Keeper-local types and image commands. -/
def ownType (t : Nat) : Bool := t == 0x80 || t == 0x81 || t == 0x82 || t == 0x70

/-- A message with a command of its own: an image command only where its CMD is one. -/
def State.ownMsg (s : State) (m : OpMsg) : Bool := ownType m.typ && (m.typ != 0x70 || s.imgKnown m.arg)

/-- The shortest payload of a type on an operator channel (Table 12-4). -/
def minLenOp (t : Nat) : Nat :=
  if t = 0x80 then 5 else if t = 0x81 then 8 else if t = 0x82 then 64 else if t = 0x70 then 0 else minLenS t

/-- Take a message that needs no command of its own: forward it, use it, or refuse it (R485). -/
def State.takeOther (s : State) (m : OpMsg) : State :=
  if m.typ = 0x70 then s.imgEnd m.src ucBADCOMMAND []
  else if m.typ = 0x21 then s.takeHandler m
  else if m.typ = 0x30 then s.request (byteAt m.data 0 % 16) (byteAt m.data 1 % 16) (byteAt m.data 2 % 16)
  else s.opForward m

/-- A whole message reaches the inbox, or is refused at once: DENIED, UNKNOWN_TYPE, BAD_LEN. -/
def State.accept (s : State) (m : OpMsg) : State :=
  if m.src.chan = 1 && !s.i3cMay m.typ then (s.bump 0x58108).keeperReply m.src m.tag 1 0 []
  else if !(ownType m.typ || m.typ = 0x21 || m.typ = 0x30 || operatorTypes.contains m.typ) then s.opNak m.src m.tag m.typ 1
  else if m.data.length < minLenOp m.typ then s.opNak m.src m.tag m.typ 2
  else s.setKeeper { s.keeper with inbox := s.keeper.inbox ++ [m] }

/-! Messages out of parts (R478, R482, R487). -/

/-- The parts of one message, and the parts after it: a part with FIRST or of another type ends it. -/
def splitMsg (typ : Nat) : List FPart → List FPart × List FPart
  | [] => ([], [])
  | p :: t =>
    if p.typ ≠ typ then ([], p :: t)
    else if p.last then ([p], t)
    else match t with
      | q :: _ => if q.first then ([p], t) else let (a, b) := splitMsg typ t; (p :: a, b)
      | [] => ([p], [])

/-- One group of parts: a whole message, or its NAK. -/
def State.takeGroup (s : State) (src : OpSrc) (g : List FPart) : State :=
  match g with
  | [] => s
  | p :: _ =>
    if g.any (fun x => decide (48 < x.len)) then s.opNak src p.tag p.typ 2
    else match assemble (g.length + 1) 0 p g with
      | some (d, []) => s.accept { src := src, typ := p.typ, tag := p.tag, arg := 0, data := d }
      | _ => s.opNak src p.tag p.typ 3

def takeGroups : Nat → OpSrc → List FPart → State → State
  | 0, _, _, s => s
  | n + 1, src, ps, s => match ps with
    | [] => s
    | p :: _ =>
      let (g, rest) := splitMsg p.typ ps
      if g.isEmpty then s else takeGroups n src rest (s.takeGroup src g)

/-! Datagrams (R486, R532). -/

/-- The tag and counter rules of R486, for a datagram whose layout is right. -/
def State.counterOk (s : State) (c : Nat) : Bool :=
  let hi := c / 2 ^ 32
  let k := recCounterHi s.keeper.rcd
  match s.keeper.rxCounter with
  | none => decide (k < hi)
  | some old => decide (old < c) && decide (k ≤ hi)

def State.tagOk (s : State) (d : Bytes) : Bool :=
  decide (48 ≤ d.length) && Config.hmac384 s.upd.fuses.mgmtKey (d.take (d.length - 48)) == d.drop (d.length - 48)

/-- An accepted counter: the highest, and COUNTER_HI raised and persisted where its upper half exceeds it. -/
def State.takeCounter (s : State) (src : OpSrc) (c : Nat) : State :=
  let s := s.setKeeper { s.keeper with rxCounter := some c, lastSrc := some (src.addr, src.port) }
  if recCounterHi s.keeper.rcd < c / 2 ^ 32 ∧ s.keeper.running = true then
    let r := patch s.keeper.rcd 28 (leBytes 4 (c / 2 ^ 32))
    (s.setKeeper { s.keeper with rcd := r }).setCfg { s.cfg with persisting := s.cfg.persisting ++ [.counterHi r c] }
  else s

/-- A UDP datagram to the management address and UDP_PORT. -/
def State.takeDatagram (s : State) (src : OpSrc) (d : Bytes) : State :=
  let refuse := s.bump 0x100
  let c := beAt d 8 8
  let src : OpSrc := { src with seq := c }
  if beAt d 0 2 = 0x4B50 then
    let n := byteAt d 3
    if s.inRecovery then s
    else if byteAt d 2 ≠ 1 || n = 0 || 16 < n || d.length ≠ 80 + 64 * n || !s.tagOk d || !s.counterOk c then refuse
    else
      let s := s.takeCounter src c
      takeGroups 16 src ((List.range n).map fun i => partOfBytes (slice d (32 + 64 * i) 64) 0) s
  else if beAt d 0 2 = 0x4B49 then
    let vl := beAt d 22 2
    if byteAt d 2 ≠ 1 || d.length ≠ 80 + vl || 1024 < vl || byteAt d 16 ≠ opImage || !s.tagOk d || !s.counterOk c then refuse
    else
      let s := s.takeCounter src c
      let odd := beAt d 19 3 &&& 0xFFF3FF ≠ 0
      s.setKeeper { s.keeper with inbox := s.keeper.inbox ++
        [{ src := src, typ := 0x70, tag := 0, arg := (if odd then beAt d 24 8 ||| 2 ^ 32 else beAt d 24 8), data := slice d 32 vl }] }
  else s

/-! Frames of the management port (R414, R415, R487). -/

/-- ARP and neighbour discovery for the port's own addresses. -/
def State.mgtArpNd (s : State) (raw : Bytes) : State :=
  let mac := beBytes 6 (s.c64 0x50008 % 2 ^ 48)
  let smac := slice raw 6 6
  let send := fun (b : Bytes) => (s.setNet { s.net with mgtSent := b :: s.net.mgtSent }).bump 0x50118
  if beAt raw 12 2 = 0x0806 then
    let tpa := slice raw 38 4
    if beAt raw 20 2 = 1 && s.mgtAddrs.contains (mapped tpa) then send (arpFrame smac mac 2 mac tpa (slice raw 22 6) (slice raw 28 4)) else s
  else
    let target := slice raw 62 16
    let src := slice raw 22 16
    let pl := beAt raw 18 2
    let pseudo := src ++ slice raw 38 16 ++ beBytes 4 pl ++ [0, 0, 0, 58]
    if byteAt raw 21 = 255 && fold16 (sum16 (pseudo ++ slice raw 54 pl)) = 65535 && s.mgtAddrs.contains target then
      let unspec := allZero src
      send (neighAdv (if unspec then [0x33, 0x33, 0, 0, 0, 1] else smac) mac target (if unspec then allNodes else src) (!unspec))
    else s

/-- The Keeper, or in Recovery the ROM, takes one frame. -/
def State.takeMgtFrame (s : State) (raw : Bytes) : State :=
  if rawTags raw ≠ 0 then s
  else if isArpNd raw then s.mgtArpNd raw
  else match parseUdp raw with
    | some u =>
      if s.mgtAddrs.contains u.dstIp && u.dstPort = recPort s.keeper.rcd then
        s.takeDatagram { chan := 0, addr := u.srcIp, port := u.srcPort, sess := 0, seq := 0 } u.payload
      else s
    | none => s

/-- The Keeper goes on in order (R487): messages that need no command of their own, then the next frame of the ring, until a
message that has one stands at the front. -/
def keeperRun : Nat → State → State
  | 0, s => s
  | n + 1, s =>
    if !(s.keeper.running || s.inRecovery) then s else
    match s.keeper.inbox with
    | m :: t => if s.ownMsg m then s else keeperRun n ((s.setKeeper { s.keeper with inbox := t }).takeOther m)
    | [] => match s.net.mgtRing with
      | raw :: t => keeperRun n ((s.setNet { s.net with mgtRing := t }).takeMgtFrame raw)
      | [] => s

def State.keeperGo (s : State) : State := keeperRun (600 + s.keeper.inbox.length) s

/-- The message at the front of the inbox, of type `typ`. -/
def State.takeOwn (s : State) (typ : Nat) : Option (OpMsg × State) :=
  match s.keeper.inbox with
  | m :: t => if m.typ = typ ∧ (s.keeper.running || s.inRecovery) = true then some (m, s.setKeeper { s.keeper with inbox := t }) else none
  | [] => none

/-- The bytes of a transfer with the packet error code after them on SMBus (R488). `read`: the transfer reads the target. -/
def State.withPec (s : State) (read : Bool) (b : Bytes) : Bytes :=
  if s.flag 0x58000 1 then b ++ [Config.pec (BitVec.ofNat 8 (2 * s.fld 0x58000 14 8 + b2n read) :: b)] else b

/-- An I3C private write of 64 bytes, on SMBus with its packet error code; any other write is a bus error (R488). -/
def State.i3cWrite (s : State) (b : Bytes) : State :=
  if !s.flag 0x58000 0 || !s.keeper.running then s
  else if b.length < 64 ∨ b ≠ s.withPec false (b.take 64) then s.bump 0x58108
  else
    let s := s.bump 0x58100
    let src : OpSrc := { chan := 1, addr := [], port := 0, sess := 0, seq := 0 }
    let p := partOfBytes (padTo 64 b) 0
    let old := s.keeper.i3cParts
    let cutOff := p.first || old.any fun q => q.typ ≠ p.typ
    let s := if cutOff && !old.isEmpty then takeGroups 1 src old s else s
    let parts := if cutOff then [p] else old ++ [p]
    if p.last || 256 < parts.length then ((takeGroups 1 src parts (s.setKeeper { s.keeper with i3cParts := [] })).keeperGo)
    else s.setKeeper { s.keeper with i3cParts := parts }

end Sys2Proof.Machine
end

