-- ==== Sys2Proof/Machine/Update.lean ====
section
/-! DEFINITION. Firmware update: image commands, the claim, probation and the fuses (chapter 14: R522 to R524, R531 to R535, R540
to R543, R546). -/
namespace Sys2Proof.Machine

/-- The holder code of a source (R531). -/
def OpSrc.holder (o : OpSrc) : Nat := if o.chan = 2 then 2 else 1

def Claim.isOf (c : Claim) (o : OpSrc) : Bool := c.holder == o.holder && (c.holder == 1 || c.session == o.sess)

/-- The claim as a source meets it: free, its own, or another's (R533). -/
inductive ClaimView | free | own (c : Claim) | others
deriving DecidableEq, Repr

def State.claimFor (s : State) (o : OpSrc) : ClaimView := match s.upd.claim with
  | none => .free
  | some c => if c.isOf o then .own c else .others

def State.setClaim (s : State) (c : Option Claim) : State := s.setUpd { s.upd with claim := c }

/-- No CONFIRMED while an active image is valid (R535, R540). -/
def Update.inProbation (u : Update) : Bool := u.active.valid && !u.active.flag 4
def Update.reverting (u : Update) : Bool := u.active.flag 5

/-- BEGIN (R533, R535, Table 14-7). `nor`: the erases and the descriptor's program succeed. -/
def imgBegin (nor : Bool) (m : OpMsg) (s : State) : State :=
  let u := s.upd
  match s.claimFor m.src with
  | .others => s.imgEnd m.src ucBUSY []
  | _ =>
    if u.reverting then s.imgEnd m.src ucREVERTING []
    else if u.inProbation then s.imgEnd m.src ucPROBATION []
    else
      let h := if m.data.length ≠ 768 then 2 else headerCode u.fuses m.data
      if h ≠ 0 then s.imgEnd m.src h []
      else if !nor then (s.setUpd { u with kennel := Area.empty }).imgEnd m.src ucNORFAIL []
      else
        let d : Desc := { length := hdrLength m.data, version := hdrVersion m.data, svn := hdrSvn m.data, hash := [], flags := 1, tries := 0, copied := [] }
        let c : Claim := { holder := m.src.holder, session := m.src.sess, next := 768, at0 := s.now }
        let s := s.setUpd { u with kennel := { desc := some d, data := m.data }, claim := some c }
        let s := s.keeperEvent 0x200 3 (leBytes 1 c.holder ++ zeros 1 ++ leBytes 2 c.session ++ zeros 4 ++ leBytes 8 d.version)
        s.imgEnd m.src ucOK []

/-- The most value bytes a source carries in one DATA (R532). -/
def OpSrc.imgMax (o : OpSrc) : Nat := if o.chan = 2 then 7936 else 1024

/-- DATA (Table 14-7). `nor`: the program succeeds. -/
def imgData (nor : Bool) (m : OpMsg) (s : State) : State :=
  let u := s.upd
  match s.claimFor m.src with
  | .others => s.imgEnd m.src ucBUSY []
  | .free => s.imgEnd m.src ucNOCLAIM []
  | .own c =>
    let len := (u.kennel.desc.map (·.length)).getD 0
    if m.data.isEmpty || decide (m.src.imgMax < m.data.length) then s.imgEnd m.src ucBADCOMMAND []
    else if imgOffset m.arg ≠ c.next || decide (len < c.next + m.data.length) then s.imgEnd m.src ucBADOFFSET []
    else if !nor then s.imgEnd m.src ucNORFAIL []
    else
      let k : Area := { u.kennel with data := norPad c.next u.kennel.data ++ m.data }
      (s.setUpd { u with kennel := k, claim := some { c with next := c.next + m.data.length, at0 := s.now } }).imgEnd m.src ucOK []

/-- END (Table 14-7, R528, R534); in Recovery a staged image resets both planes once the reply is sent (R546). -/
def imgFinish (nor : Bool) (i : RomIn) (m : OpMsg) (s : State) : State :=
  let u := s.upd
  match s.claimFor m.src with
  | .others => s.imgEnd m.src ucBUSY []
  | .free => s.imgEnd m.src ucNOCLAIM []
  | .own c =>
    let fail := fun (s : State) (code : Nat) => (s.setClaim none).imgEnd m.src code []
    let len := (u.kennel.desc.map (·.length)).getD 0
    if c.next ≠ len then fail s ucSHORT
    else if !nor then fail s ucNORFAIL
    else
      let img := u.kennel.image
      let k : Area := { u.kennel with desc := u.kennel.desc.map fun d => { d.set 1 with hash := Config.sha384 img } }
      let s := s.setUpd { u with kennel := k }
      let code := imageCode u.fuses img
      if code ≠ 0 then fail s code
      else
        let s := (s.setUpd { s.upd with kennel := k.set 2, claim := none }).bump 0x40408
        let s := s.keeperEvent 0x203 3 (leBytes 1 k.svn ++ zeros 7 ++ leBytes 8 k.version)
        let s := s.imgEnd m.src ucOK []
        if s.inRecovery then s.fullReset 4 i else s

/-- The claim is released (R534). -/
def imgAbort (m : OpMsg) (s : State) : State :=
  match s.claimFor m.src with
  | .others => s.imgEnd m.src ucBUSY []
  | _ => (s.setClaim none).imgEnd m.src ucOK []

/-- KENNEL of Table 14-9. -/
def kennelState (k : Area) : Nat :=
  match k.desc with
  | none => 0
  | some d => if d.flag 4 then 5 else if d.flag 3 then 4 else if d.flag 2 then 3 else if d.flag 1 then 2 else 1

/-- Seconds of probation left, 0 once confirmed (Table 14-13). -/
def State.probationLeft (s : State) : Nat := match s.upd.probation with
  | some (t, secs) => secs - (s.now - t) / 1500000000
  | none => 0

/-- STATUS (Table 14-9). -/
def imgStatus (m : OpMsg) (s : State) : State :=
  let u := s.upd
  let (h, sid, next) := s.holder?
  s.imgEnd m.src ucOK (beBytes 1 h ++ zeros 1 ++ beBytes 2 sid ++ beBytes 4 next ++ beBytes 1 (kennelState u.kennel) ++
    beBytes 1 u.active.tries ++ beBytes 1 u.fuses.svn ++ zeros 1 ++ beBytes 4 s.probationLeft ++ beBytes 8 u.active.version ++
    beBytes 8 u.backup.version)

/-- The fused SVN rises; a rise is recorded (R542, R543). -/
def State.raiseSvn (s : State) (n : Nat) : State :=
  let old := s.upd.fuses.svn
  if n ≤ old then s
  else (s.setUpd { s.upd with fuses := { s.upd.fuses with svn := n } }).keeperEvent 0x20A 3 (leBytes 1 old ++ leBytes 1 n ++ zeros 14)

/-- CONFIRM (R541, R542): the UCODE, and its effect. `nor`: CONFIRMED is programmed. -/
def State.confirm (s : State) (nor : Bool) : Nat × State :=
  let u := s.upd
  if u.reverting then (ucREVERTING, s)
  else if !u.inProbation || u.bootedBackup || !u.heelSeen then (ucNOTCONFIRMABLE, s)
  else if !nor then (ucNORFAIL, s)
  else
    let s := s.setUpd { u with active := u.active.set 4, probation := none }
    let s := s.raiseSvn (min u.active.svn u.backup.svn)
    (ucOK, s.keeperEvent 0x208 3 (leBytes 1 s.upd.fuses.svn ++ zeros 7 ++ leBytes 8 u.active.version))

/-- FUSE_NOW (R543). -/
def State.fuseNow (s : State) (nor : Bool) : Nat × State :=
  let u := s.upd
  if !(u.active.valid && u.active.flag 4) || u.active.flag 6 then (ucNOTCONFIRMABLE, s)
  else
    let s := s.raiseSvn u.active.svn
    let below := u.backup.desc.isSome && decide (u.backup.svn < s.upd.fuses.svn)
    if below && !nor then (ucNORFAIL, s)
    else (ucOK, if below then s.setUpd { s.upd with backup := { u.backup with desc := none } } else s)

/-- A command of the IMAGE opcode: the message at the front of the inbox, where its CMD is `cmd` (R533). -/
def imageCmd (cmd : Nat) (f : OpMsg → State → State) (s : State) : State :=
  match s.takeOwn 0x70 with
  | some (m, t) => if imgCmd m.arg = cmd ∧ (s.norFree || cmd == 4 || cmd == 5) = true ∧ s.imgKnown m.arg = true then (f m t).keeperGo else s
  | none => s

/-- UPD_CTL's bits act for the Keeper; the result is kept in LAST_UCODE (Table 14-13). -/
def State.updCtl (s : State) (r : Nat × State) : State := if s.keeper.running then r.2.setUpd { r.2.upd with lastUcode := r.1 } else s

def updConfirm (nor : Bool) (s : State) : State := s.updCtl (s.confirm nor)
def updFuseNow (nor : Bool) (s : State) : State := s.updCtl (s.fuseNow nor)
def updAbort (s : State) : State := s.setClaim none

/-- CLAIM_LAPSE (R534). -/
def claimLapse (s : State) : State :=
  match s.upd.claim with
  | some c => (s.setClaim none).keeperEvent 0x201 3 (leBytes 1 c.holder ++ zeros 3 ++ leBytes 4 c.next ++ zeros 8)
  | none => s

/-- PROBATION_EXPIRY (R541): REVERT_ARMED first, then the request for Drain with AFTER 0. -/
def probationExpiry (s : State) : State :=
  match s.upd.probation with
  | some _ => (s.setUpd { s.upd with active := s.upd.active.set 5, probation := none }).request 7 0 0
  | none => s

/-! Fuses (R522 to R524, Table 14-13). -/

/-- May the fuse command run (R524)? -/
def State.fuseMay (s : State) (op anchor : Nat) : Bool :=
  let u := s.upd
  let signs := fun (a : Area) => a.valid && hdrAnchor a.image == anchor
  s.modeNow == .heel &&
    (if op = 1 then blankFuse u.fuses.opImage else if op = 2 then blankFuse u.fuses.opHandler
     else if op = 3 then blankFuse u.fuses.mgmtKey else op == 4 && !bit u.fuses.revoked anchor && !signs u.active && !signs u.backup)

/-- A write of UPD_FUSE_CMD with GO: BUSY until the program ends, or REFUSED. While BUSY it is ignored. -/
def fuseCommand (op anchor : Nat) (s : State) : State :=
  if s.upd.fuseOp.isSome then s
  else if s.fuseMay op anchor then
    (s.setFld 0x40044 2 0 1).setUpd { s.upd with fuseOp := some (op, anchor) }
  else s.setFld 0x40044 2 0 4

/-- FUSE_PROGRAM_DONE: every bit is programmed and read back. -/
def fuseProgramDone (s : State) : State :=
  match s.upd.fuseOp with
  | none => s
  | some (op, a) =>
    (s.setFld 0x40044 2 0 2).setUpd { s.upd with fuses := s.upd.fuses.burn op a s.fuseBytes 1, fuseOp := none }

/-- UPD_FUSE_STATUS as it stands. -/
def State.fuseStatus (s : State) : Nat :=
  let f := s.upd.fuses
  s.fld 0x40044 2 0 + f.revoked % 16 * 16 + b2n (!blankFuse f.opImage) * 256 + b2n (!blankFuse f.opHandler) * 512 +
    b2n (blankFuse f.mgmtKey) * 1024

/-- UPD_STATUS as it stands. -/
def State.updStatus (s : State) : Nat :=
  let u := s.upd
  let (h, sid, _) := s.holder?
  h + b2n u.inProbation * 4 + b2n u.reverting * 8 + u.active.tries % 8 * 16 + b2n u.backup.valid * 128 + b2n (u.kennel.flag 2) * 256 +
    b2n u.bootedBackup * 512 + u.lastUcode % 16 * 4096 + sid % 2 ^ 16 * 65536

def State.updSvn (s : State) : Nat := s.upd.fuses.svn + s.upd.active.svn * 256 + s.upd.backup.svn * 65536

/-- Seconds since the holder's last accepted command. -/
def State.claimAge (s : State) : Nat := match s.upd.claim with
  | some c => (s.now - c.at0) / 1500000000
  | none => 0

/-! Commands. `nor`: boot NOR takes the erases and programs. -/

def execImageBegin (nor : Bool) (s : State) : Out := s.onOp (imageCmd 1 (imgBegin nor))
def execImageData (nor : Bool) (s : State) : Out := s.onOp (imageCmd 2 (imgData nor))
def execImageEnd (nor : Bool) (i : RomIn) (s : State) : Out := s.onOp (imageCmd 3 (imgFinish nor i))
def execImageAbort (s : State) : Out := s.onOp (imageCmd 4 imgAbort)
def execImageStatus (s : State) : Out := s.onOp (imageCmd 5 imgStatus)
def execImageConfirm (nor : Bool) (s : State) : Out :=
  s.onOp (imageCmd 6 fun m s => let r := s.confirm nor; r.2.imgEnd m.src r.1 [])
def execImageFuseNow (nor : Bool) (s : State) : Out :=
  s.onOp (imageCmd 7 fun m s => let r := s.fuseNow nor; r.2.imgEnd m.src r.1 [])
def execUpdConfirm (nor : Bool) (s : State) : Out := s.onOp (updConfirm nor)
def execUpdAbort (s : State) : Out := s.onOp updAbort
def execUpdFuseNow (nor : Bool) (s : State) : Out := s.onOp (updFuseNow nor)
def execClaimLapse (s : State) : Out := s.onOp claimLapse
def execProbationExpiry (s : State) : Out := s.onOp probationExpiry
def execFuseOpImageAnchor (s : State) : Out := s.onOp (fuseCommand 1 0)
def execFuseOpHandlerAnchor (s : State) : Out := s.onOp (fuseCommand 2 0)
def execFuseMgmtKey (s : State) : Out := s.onOp (fuseCommand 3 0)
def execFuseRevoke (anchor : BitVec 2) (s : State) : Out := s.onOp (fuseCommand 4 anchor.toNat)
def execFuseProgramDone (s : State) : Out := s.onOp fuseProgramDone

end Sys2Proof.Machine
end

