-- ==== Sys2Proof/Machine/CfgCmds.lean ====
section
/-! DEFINITION. Configuration sets through the Fence (R364, R493 to R501, R594), the Fence messages of bring-up, load, mode and
time that no other chapter takes (R260, R266, R483, R490, R500), and what the Keeper does with each message it receives. -/
namespace Sys2Proof.Machine

def rCfgEpoch : Nat := 0x10000020

/-! Results (Table 12-11). -/

def State.cfgResultBytes (s : State) (status stage sec reason index epoch : Nat) : Bytes :=
  leBytes 1 status ++ leBytes 1 stage ++ leBytes 1 sec ++ leBytes 1 reason ++ leBytes 4 index ++ leBytes 4 (s.rd rCfgShadowGen) ++ leBytes 4 epoch

/-- CFG_RESULT, with the epoch in force. -/
def State.cfgResult (s : State) (tag status stage sec reason index : Nat) : State :=
  s.toKeeper 0x04 true tag (s.cfgResultBytes status stage sec reason index (s.rd rCfgEpoch))

/-! Shadow writes (R493, R494, R594). -/

/-- HOLDUP_MJ is the Keeper's to write (R470, Table 7-12): its bytes keep what the shadow holds. -/
def CfgSet.keepHoldup (c : CfgSet) (r : Bytes) : Bytes := patch r 28 (slice (c.get secStorage 0) 28 4)

/-- Records placed from `index` on. -/
def putAll (sec : Nat) : List Bytes → Nat → CfgSet → CfgSet
  | [], _, c => c
  | r :: t, i, c => putAll sec t (i + 1) (c.put sec i (if sec = secStorage then c.keepHoldup r else r))

def clearNs (c : CfgSet) (ns : Nat) : CfgSet := { c with dir := c.dir.filter fun e => dirNs e ≠ ns }

/-- Remove every shadow entry of a namespace, or write records: what a payload of Table 12-10 does to a set; none where the directory
would pass 65,536 entries or the records run past the section. -/
def applyPayload (c : CfgSet) (sec op index : Nat) (recs : List Bytes) : Option CfgSet :=
  if op = 1 then some (clearNs c index)
  else if sec = secDir then (placeAll c.dir recs).map fun d => { c with dir := d }
  else if recCount sec < index + recs.length then none
  else some (putAll sec recs index c)

/-- CFG_WRITE and CLEAR_NS (R594): the payload's fields, its length, its refusals in their order, its effect. -/
def cfgPayload (m : FMsg) (s : State) : State :=
  let d := m.data
  let sec := byteAt d 0
  let op := byteAt d 1
  let index := leAt d 4 4
  let count := leAt d 8 4
  if sec ≤ 13 ∧ d.length ≠ 12 + count * recSize sec then (s.bump 0x10006018).nakK m.tag 0x01 2
  else if 13 < sec ∨ 1 < op ∨ (op = 1 ∧ (sec ≠ secDir ∨ count ≠ 0)) ∨ (op = 0 ∧ count = 0) ∨ (op = 0 ∧ sec = secDir ∧ index ≠ 0) then
    s.cfgResult m.tag 3 0 sec rsRANGE index
  else match applyPayload s.cfg.shadow sec op index (chunks count (recSize sec) (d.drop 12)) with
    | none => s.cfgResult m.tag 4 0 sec rsLIMIT index
    | some c => (s.shadowWrite c).cfgResult m.tag 0 0 sec 0 index

/-- A shadow write of OP `op` at the front of the queue; shadow writes wait while a commit runs (R495). -/
def shadowMsg (clear : Bool) (s : State) : State :=
  if s.cfg.waiting.isSome then s
  else match s.takeLead 0x01 with
    | some (m, t) => if (byteAt m.data 1 == 1) = clear then cfgPayload m t else s
    | none => s

def cfgDiscard (s : State) : State :=
  if s.cfg.waiting.isSome then s
  else match s.takeLead 0x03 with
    | some (m, t) => (t.shadowWrite t.cfg.active).cfgResult m.tag 0 0 0 0 0
    | none => s

/-! Persist messages (R499). -/

def payload (sec op index : Nat) (recs : List Bytes) : Bytes :=
  leBytes 1 sec ++ leBytes 1 op ++ zeros 2 ++ leBytes 4 index ++ leBytes 4 recs.length ++ recs.flatten

/-- The records in which two sets differ, as payloads: directories by namespace. -/
def changedPayloads (old new : CfgSet) : List Bytes :=
  let keys := ((old.recs ++ new.recs).map (·.1)).eraseDups
  let recs := (keys.filter fun k => old.get (k / 65536) (k % 65536) != new.get (k / 65536) (k % 65536)).map fun k =>
    payload (k / 65536) 0 (k % 65536) [new.get (k / 65536) (k % 65536)]
  let ent := fun (c : CfgSet) (n : Nat) => c.dir.filter fun e => dirNs e == n
  let nss := ((old.dir ++ new.dir).map dirNs).eraseDups.filter fun n => ent old n != ent new n
  recs ++ nss.flatMap fun n => payload secDir 1 n [] :: (ent new n).map fun e => payload secDir 0 0 [e]

def State.sendPersist (s : State) (old new : CfgSet) : State :=
  let msgs := [payload 0 2 new.epoch []] ++ changedPayloads old new ++ [payload 0 3 0 []]
  msgs.foldl (fun (s : State) b => s.toKeeper 0x05 false 0 b) s

/-! Commits (R495 to R497, R501). -/

/-- Is a frame of this epoch delivered, held or executing (R497)? -/
def State.epochHeld (s : State) (e : Nat) : Bool := s.ft.frames.any fun x => x.2.epoch = e

/-- The previous set goes once it is released (R497). -/
def State.dropPrev (s : State) : State :=
  match s.cfg.prev with
  | some p => if s.epochHeld p.epoch then s else s.setCfg { s.cfg with prev := none }
  | none => s

/-- SYS_CFG_STATUS as it stands. -/
def State.cfgStatus (s : State) : Nat := b2n s.cfg.waiting.isSome + 2 * b2n (match s.cfg.prev with
  | some p => s.epochHeld p.epoch
  | none => false)

/-! Operator handlers (R267). -/

/-- Does a set bind a TYPE of an operator handler? -/
def bindsHandler (c : CfgSet) : Bool := (List.range 80).any fun i =>
  let w := leAt (c.get secBinding i) 0 4
  bit w 31 && decide (0x80 ≤ bits w 8 8) && decide (bits w 8 8 ≤ 0x8F)

/-- The bindings of a set are written: at once where the engines hold its handler or it binds none, at a start after the handler areas, and
otherwise once every engine has been updated. -/
def State.bindHandler (s : State) (c : CfgSet) (up : Bool) : State :=
  match s.tricks.handler with
  | none => s.writeBinds c
  | some im =>
    if !bindsHandler c || s.tricks.installed == some im then s.writeBinds c
    else if up then
      let s := (List.range 63).foldl (fun (s : State) e => s.writeHandler (e + 1) im) s
      (s.setTricks { s.tricks with installed := some im }).writeBinds c
    else s.setTricks { s.tricks with roll := some (match s.tricks.roll with
      | none => { engine := 1, stage := 0, role := 0, due := 0, image := im, next := none }
      | some r => { r with next := if r.image = im then none else some im }) }

/-- The last engine has its former role again: the next image's turn, or the bindings are written. -/
def State.rollEnd (s : State) (r : Roll) : State :=
  let s := s.setTricks { s.tricks with installed := some r.image, roll := none }
  match r.next with
  | some im => s.setTricks { s.tricks with roll := some { engine := 1, stage := 0, role := 0, due := 0, image := im, next := none } }
  | none => s.writeBinds s.cfg.active

/-- Do the threads of engine `e` that run all sleep in MRECV, with no message left? -/
def State.engineIdle (s : State) (e : Nat) : Bool := (s.en e).queue.isEmpty && (List.range 4).all fun k =>
  !(s.th (4 * e + k)).run || (match (s.th (4 * e + k)).sleep with
    | .mrecv _ => true
    | _ => false)

/-- Steps 3 to 5 of R267: the threads stop, the handler area is written, and they start again. -/
def State.rewriteEngine (s : State) (e : Nat) (im : Bytes) : State :=
  let ts := ((List.range 4).map (4 * e + ·)).filter fun t => (s.th t).run
  let s := (ts.foldl (fun (s : State) t => s.setRun t false) s).writeHandler e im
  ts.foldl (fun (s : State) t => s.setRun t true) s

/-- The lead engine's next step in the update of the engines, when its time has come. -/
def State.rollTick (s : State) : State :=
  match s.tricks.roll with
  | none => s
  | some r =>
    let put := fun (r : Roll) (s : State) => s.setTricks { s.tricks with roll := some r }
    let wait : Roll := { r with due := s.now + 150000 }
    if s.halted then s
    else if r.stage = 1 then
      if (s.deng r.engine).pendRole.isSome || !s.engineIdle r.engine then s else put { r with stage := 2 } (s.rewriteEngine r.engine r.image)
    else if s.now < r.due then s
    else
      let t := roleAssign r.engine (if r.stage = 0 then 0 else r.role) s
      if t.flag rDspAssignSt 1 then put wait t
      else if r.stage = 0 then put { wait with stage := 1, role := (s.deng r.engine).role } t
      else if r.engine < 63 then put { r with engine := r.engine + 1, stage := 0, due := 0 } t
      else t.rollEnd r

/-- The shadow with E in HOLDUP_MJ (R470). -/
def State.candidate (s : State) : CfgSet :=
  let c := s.cfg.shadow
  c.put secStorage 0 (patch (c.get secStorage 0) 28 (leBytes 4 (s.fld 0x10018 19 0)))

/-- Steps 4 and 5 of R495: the new set is in force from here, under `epoch`. -/
def State.swapSets (s : State) (new : CfgSet) (epoch : Nat) (up : Bool) : State :=
  let old := s.cfg.active
  let new := { new with epoch := epoch }
  let s := s.setCfg { s.cfg with active := new, prev := if s.epochHeld old.epoch then some old else none, waiting := none }
  let s := s.wr rCfgEpoch epoch
  let s := ((s.writeLocal new false).applyUnits old new up).bindHandler new up
  s.setCfg { s.cfg with shadow := new }

/-- Step 3 of Table 6-6 for the DRAM, unless it is set up: the map, the local areas (R339) and the rates of a set, then ENABLE. -/
def State.dramSetUp (s : State) (c : CfgSet) : State :=
  if s.flag rDrcCtl 0 then s
  else
    let d := c.get secDram 0
    let s := s.setFld rDrcMap 9 0 (byteAt d 0 + byteAt d 1 % 4 * 256)
    let row := 16 * s.dramRanks * 1792
    let s := s.wr 0x1030000C ((leAt (c.get secStorage 0) 0 2 * 1048576 + row - 1) / row % 2 ^ 18)
    let s := (s.setFld 0x10300014 1 0 (byteAt d 2)).setFld 0x10300018 1 0 (byteAt d 3)
    s.setFlag rDrcCtl 0 true

/-- After a commit in Heel: a refused START goes on at step 5 (R501); with DRAM_DEGRADED, bring-up repeats from step 3 under
the new channels (R364), and the code stands until the DRAM is ready. -/
def State.resumeBringUp (s : State) : State :=
  if s.power.base ≠ .heel then s
  else if s.power.step = 4 then s.bringUpGo
  else if s.brace.codes.contains 1 then
    let s := (s.setFlag rDrcCtl 0 false).dramSetUp s.cfg.active
    let s := (s.setFlag rDrcStatus 0 false).setFlag rDrcStatus 7 false
    s.setPower { s.power with step := 3 }
  else s

/-- The rest of a commit whose step 4 no longer waits. -/
def State.commitEnd (s : State) (tag : Nat) : State :=
  let old := s.cfg.active
  let e := if old.epoch = 0xFFFFFFFF then 1 else old.epoch + 1
  let late := s.power.base == .heel && decide (s.power.step ≤ 4)
  let s := s.swapSets s.candidate e late
  let s := s.cfgResult tag 0 1 0 0 0
  (s.sendPersist old s.cfg.active).resumeBringUp

/-- CFG_COMMIT (R494, R495): refusals, then steps 3 to 6, waiting at step 4 while the set before the active one is held. -/
def cfgCommit (s : State) : State :=
  match s.takeLead 0x02 with
  | none => s
  | some (m, s) =>
    let gen := leAt m.data 0 4
    if s.cfg.waiting.isSome then s.cfgResult m.tag 1 1 0 0 0
    else if gen ≠ 0 ∧ gen ≠ s.rd rCfgShadowGen then s.cfgResult m.tag 2 1 0 0 0
    else match s.checkSet s.candidate (List.range 14) with
      | some (sec, i, r) => s.cfgResult m.tag 4 1 sec r i
      | none =>
        let s := (s.writeLocal s.candidate true).dropPrev
        if s.cfg.prev.isSome then s.setCfg { s.cfg with waiting := some (m.tag, false) } else s.commitEnd m.tag

/-- A commit that waits goes on once the previous set is released (R497). -/
def State.commitRelease (s : State) : State :=
  let s := s.dropPrev
  match s.cfg.waiting with
  | some (tag, _) => if s.cfg.prev.isSome then s else s.commitEnd tag
  | none => s

/-- COMMIT_OLD_HELD_TIMEOUT (R497): refused, and nothing changes. -/
def oldHeldTimeout (s : State) : State :=
  match s.cfg.waiting with
  | some (tag, _) =>
    let s := (s.setCfg { s.cfg with waiting := none }).writeLocal s.cfg.active false
    s.cfgResult tag 4 1 0 rsOLDHELD 0
  | none => s

/-! Bring-up (Table 6-6, R260, R364, R501). -/

/-- SERVE_LOAD (R260, R477): 32 bytes into the lead engine's stores; with GO its thread 0 starts and it takes role bring-up at
epoch 1. While that thread runs it is refused with NOT_NOW (Table 12-4). -/
def serveLoad (s : State) : State :=
  match s.takeS 0x20 with
  | none => s
  | some (m, s) =>
    let addr := leAt m.data 0 4
    let a := addr % 2 ^ 31
    let loc := bit addr 31
    if (s.th 0).run then s.nakK m.tag 0x20 5
    else
      let okAddr := a % 32 = 0 ∧ a + 32 ≤ (if loc then 0x20000 else 0x10000)
      let s := if okAddr then spaceWrite s 0 (if loc then 0 else 5) a (slice m.data 8 32) else s
      if bit (byteAt m.data 4) 0 then
        let s := (s.setTh 0 ((s.th 0).setCsr cSTART 0)).setRun 0 true
        let s := s.setEn 0 { s.en 0 with role := 65536 + 7 }
        let s := s.setDEng 0 { s.deng 0 with epoch := 1, role := 7, state := 1 }
        let s := s.setKeeper { s.keeper with heartbeats := true, heardAt := s.now }
        s.setPower { s.power with step := 1 }
      else s

/-- The current image arrives as CFG_WRITE messages (R501), each counted by the shadow generation (R494); how many they are is
free. -/
def State.countImage (s : State) : State :=
  match s.cfg.current with
  | some _ => let (g, s) := s.draw; s.wr rCfgShadowGen (g.toNat % 2 ^ 32)
  | none => s

/-- Steps 1 and 2 of Table 6-6: the serving program stands in every engine's stores and every thread runs, those of the lead engine from 1 to 3
and those of the other 63. -/
def State.startEngines (s : State) : State :=
  let m := s.mem
  let low := fun (l : List Nat) (n : Nat) => l.filter fun w => decide (w < n)
  let high := fun (l : List Nat) (n : Nat) => l.filter fun w => decide (n ≤ w)
  let lead := s.en 0
  let start := fun (t : Nat) =>
    let h := s.th t
    if t = 0 ∨ h.run = true then (t, h)
    else (t, ((h.setCsr cSTART ((Config.threadStart t).toNat / 4 * 4)).setCsr cTVEC ((Config.threadVec t).toNat / 4 * 4)).begin)
  let copy := fun (e : Nat × Engine) =>
    (e.1, { e.2 with waiters := e.2.waiters.filter (fun t => (s.th t).run),
                     badData := low lead.badData 0x8000 ++ high e.2.badData 0x8000,
                     badInsn := low lead.badInsn 0xA000 ++ high e.2.badInsn 0xA000 })
  let s := (List.range 256).foldl (fun (s : State) t => if (s.th t).run then s else s.clearStopped (t / 4) (t % 4)) s
  { s with mem := { m with istore := memSpread m.istore 0x10000 0xA000, dstore := memSpread m.dstore 0x20000 0x8000 },
           threads := (List.range 256).map start, engines := (List.range 64).map fun e => copy (e, s.en e) }

/-- Step 3 of Table 6-6 for the flash: what the parameter pages tell, and the Brace rate t (R319), of D_L = 16 × die groups LUNs. -/
def State.flashSetUp (s : State) (page : FlashPage) : State :=
  let media := 16 * s.flGroups * s.flP * s.flK * 4096 * 15
  let t := max 30 ((1048576 * page.tSlc * 16 + media - 1) / media)
  (s.setSt { s.st with suspend := page.suspend, tSlc := page.tSlc }).wr 0x10400018 (min t 65535)

/-- START_COMMIT (Table 6-6 steps 1 to 8, R501): the Keeper writes E into PWR_HOLDUP and brings the current image, and bring-up
runs on. The flash geometry must be one the device serves (R293, Table 7-3). -/
def startCommit (page : FlashPage) (s : State) : State :=
  if !(s.power.base == .boot && decide (1 ≤ s.power.step) && decide (s.power.step < 5) && s.keeper.running && s.opUp) || s.power.fault ||
    s.power.brace then s
  else
    let s := if s.flag rPwrCtl 3 then s else s.setFld 0x10018 19 0 (recHoldup s.keeper.rcd)
    let image : CfgSet := match s.cfg.current with
      | some h => h.set
      | none => { CfgSet.empty with epoch := 1 }
    let s := s.setCfg { s.cfg with shadow := image }
    let s := if s.brace.codes.isEmpty then s.startEngines else s
    let s := (s.flashSetUp page).dramSetUp image
    let add := fun (b : Bool) (c : Nat) (s : State) =>
      if b && !s.brace.codes.contains c then s.setBrace { s.brace with codes := s.brace.codes ++ [c] } else s
    let s := add (!page.ok || decide (262144 < s.segCws false) || decide (262144 < s.segCws true)) 3 (add (s.flag rDrcStatus 7) 1 s)
    match lowest s.brace.codes with
    | some c => s.heelWith (if c = 1 ∨ c = 3 then 3 else 1) c
    | none => match s.checkSet s.candidate (List.range 14) with
      | some _ => (s.heelWith 4 5).countImage
      | none => (s.swapSets s.candidate image.epoch true).bringUpGo.countImage

/-- HANDLER_LOAD (R266): the lead engine stores the verified image. -/
def handlerLoad (s : State) : State :=
  match s.takeLead 0x21 with
  | none => s
  | some (m, s) =>
    let off := leAt m.data 0 4
    let old := if off = 0 then [] else s.tricks.handlerIn
    let answer := fun (s : State) (code : Nat) => s.toKeeper 0x24 true m.tag (zeros 1 ++ leBytes 1 code ++ zeros 6)
    let t := if off % 32 ≠ 0 ∨ 16384 ≤ off ∨ off ≠ old.length then answer (s.setTricks { s.tricks with handlerIn := [] }) 1
      else
        let image := old ++ slice m.data 8 32
        if bit (byteAt m.data 4) 0 then answer (s.setTricks { s.tricks with handler := some image, handlerIn := [] }) 0
        else s.setTricks { s.tricks with handlerIn := image }
    t.bringUpNext

/-- PMON_SET (R477, Table 11-12). -/
def pmonSet (s : State) : State :=
  match s.takeS 0x31 with
  | some (m, s) => (s.setFld 0x10000018 11 0 (leAt m.data 0 2)).setFld 0x10000018 27 16 (leAt m.data 2 2)
  | none => s

/-! What the Keeper does with a message it receives. -/

/-- CFG_RESULT at the Keeper: the answer, and for a commit that succeeded the place of its persist result. -/
def cfgResultTaken (s : State) : State :=
  match s.takeK 0x04 with
  | none => s
  | some (m, s) =>
    let s := match mget s.keeper.tags m.tag with
      | some (src, tag) =>
        if byteAt m.data 0 = 0 ∧ byteAt m.data 1 = 1 then s.setKeeper { s.keeper with commits := s.keeper.commits ++ [(src, tag, m.data)] } else s
      | none => s
    s.relay m

/-- The set the next persist starts from: the newest one queued, else the current half's. -/
def State.persistBase (s : State) : CfgSet :=
  let queued := s.cfg.persisting.filterMap fun p => match p with
    | .image c => some c
    | _ => none
  match queued.getLast? with
  | some c => c
  | none => match s.cfg.current with
    | some h => h.set
    | none => CfgSet.empty

/-- CFG_PERSIST at the Keeper (R499). -/
def cfgPersistTaken (s : State) : State :=
  match s.takeK 0x05 with
  | none => s
  | some (m, s) =>
    let sec := byteAt m.data 0
    let op := byteAt m.data 1
    let index := leAt m.data 4 4
    if op = 2 then s.setCfg { s.cfg with incoming := some { s.persistBase with epoch := index } }
    else match s.cfg.incoming with
      | none => s
      | some c =>
        if op = 3 then s.setCfg { s.cfg with incoming := none, persisting := s.cfg.persisting ++ [.image c] }
        else
          let recs := chunks (leAt m.data 8 4) (recSize sec) (m.data.drop 12)
          let put := if op = 1 then clearNs c index
            else if sec = secDir then { c with dir := recs.foldl dirPlace c.dir }
            else { c with recs := (recs.zipIdx.foldl (fun (r : Map Bytes) x => mset r (sec * 65536 + index + x.2) x.1) c.recs) }
          s.setCfg { s.cfg with incoming := some put }

/-- The half that is not current takes a new image, header last; where the NOR fails it is left blank (R499). -/
def State.writeHalf (s : State) (set : CfgSet) (rcd : Bytes) (ok : Bool) : State :=
  let c := s.cfg
  let h : NorHalf := if ok then { valid := true, serial := c.serial + 1, set := set, keeperRec := rcd } else NorHalf.blank
  let firstCurrent := c.half0.valid && (!c.half1.valid || decide (c.half1.serial < c.half0.serial))
  s.setCfg (if firstCurrent then { c with half1 := h } else { c with half0 := h })

def State.setInNor (s : State) : CfgSet := match s.cfg.current with
  | some h => h.set
  | none => { CfgSet.empty with epoch := 1 }

def State.recInNor (s : State) : Bytes := match s.cfg.current with
  | some h => h.keeperRec
  | none => s.keeper.rcd

/-- PERSIST_COMPLETE (R486, R499): the write at the front ends; `ok`: its header is programmed. A record raised for COUNTER_HI is
written again until it stands (log entry 26). -/
def persistComplete (ok : Bool) (s : State) : State :=
  match s.cfg.persisting with
  | [] => s
  | p :: t =>
    let out := fun (s : State) => s.setCfg { s.cfg with persisting := t }
    match p with
    | .image c =>
      let s := out (s.writeHalf c s.recInNor ok)
      match s.keeper.commits with
      | (src, tag, d) :: rest => (s.setKeeper { s.keeper with commits := rest }).opReply src 0x04 tag (patch d 1 [if ok then 2 else 3])
      | [] => s
    | .record r src tag =>
      let hi := max (recCounterHi r) (recCounterHi s.keeper.rcd)
      let r := patch r 28 (leBytes 4 hi)
      let s := (out (s.writeHalf s.setInNor r ok)).keeperReply src tag (if ok then 0 else 3) 0 []
      if ok then s.setKeeper { s.keeper with rcd := r } else s
    | .counterHi r c =>
      let s := s.writeHalf s.setInNor (patch s.recInNor 28 (slice r 28 4)) ok
      if !ok then s
      else
        let s := out s
        let mine := s.keeper.heldReplies.filter fun (d : Datagram) => d.counter = c
        mine.foldl (fun (s : State) d => s.mgtOut d)
          (s.setKeeper { s.keeper with heldReplies := s.keeper.heldReplies.filter fun (d : Datagram) => d.counter ≠ c })

/-- Any answer from the serving plane goes to the channel that asked (R484). -/
def relayed (typ : Nat) (s : State) : State :=
  match s.takeK typ with
  | some (m, s) => s.relay m
  | none => s

/-- A message the Keeper only takes in. -/
def taken (typ : Nat) (s : State) : State :=
  match s.takeK typ with
  | some (_, s) => s
  | none => s

/-- LOAD_RESULT (R500): accepted loads are written to the program store, accepted unloads empty their entry. -/
def loadResult (s : State) : State :=
  match s.takeK 0x24 with
  | none => s
  | some (m, s) =>
    let kind := byteAt m.data 0
    let slot := if kind = 0 then 256 else byteAt m.data 2
    let k := s.keeper
    let s := if byteAt m.data 1 ≠ 0 then s
      else if kind = 0 then s.setKeeper { k with storeHandler := (mget k.loading 256).orElse fun _ => k.storeHandler }
      else if kind = 1 then (match mget k.loading slot with
        | some b => s.setKeeper { k with storeTricks := mset k.storeTricks slot b }
        | none => s)
      else s.setKeeper { k with storeTricks := mdel k.storeTricks slot }
    (s.setKeeper { s.keeper with loading := mdel s.keeper.loading slot }).relay m

/-- MODE_REPORT at the Keeper (R474, R490, R542): told to the operator. -/
def modeReport (s : State) : State :=
  match s.takeK 0x32 with
  | none => s
  | some (m, s) =>
    let mode := byteAt m.data 0
    let s := if 2 ≤ mode ∧ mode ≤ 9 then s.setUpd { s.upd with heelSeen := true } else s
    let s := s.setPower { s.power with testSeen := mode == 9 }
    s.tellOperator 0x32 m.data

/-- HEARTBEAT (R483): the lead engine sends it, and the Keeper takes it. -/
def heartbeat (s : State) : State :=
  let s := if s.keeper.heartbeats && s.svUp && decide (1 ≤ s.power.step) then
    s.toKeeper 0x33 false 0 (leBytes 1 s.modeNow.code ++ zeros 3 ++ leBytes 4 (s.rd rCfgEpoch) ++ leBytes 8 (s.en 0).cycles) else s
  taken 0x33 s

/-- SV_SILENT (R483, Table 11-6): nothing from the serving plane for 1 s while it should run. -/
def svSilent (s : State) : State :=
  if s.keeper.heartbeats && s.svUp && !s.power.brace && s.keeper.running then s.faultEnter 6 0 else s

/-- EVENT and ALARM at the Keeper (R505, R520, R592): appended; an alarm that is no repeat also goes out on the operator channels. -/
def eventTaken (typ : Nat) (s : State) : State :=
  match s.takeK typ with
  | none => s
  | some (m, s) =>
    let d := padTo 32 m.data
    let code := leAt d 0 2
    let t := s.keeperAppend code (sourceOf (leAt d 2 2)) (leAt d 8 8) (leAt d 4 4) (slice d 16 16)
    if (typ = 0x61 ∨ isAlarm code = true) ∧ t.c64 0x30208 = s.c64 0x30208 then t.alarmOut d else t

/-! Commands. -/

def execCfgWrite (s : State) : Out := s.onSv (shadowMsg false)
def execClearNs (s : State) : Out := s.onSv (shadowMsg true)
def execCfgCommit (s : State) : Out := s.onSvM cfgCommit
def execStartCommit (page : FlashPage) (s : State) : Out := s.onSvM (startCommit page)
def execCommitOldHeldTimeout (s : State) : Out := s.onSv oldHeldTimeout
def execCfgDiscard (s : State) : Out := s.onSv cfgDiscard
def execCfgResult (s : State) : Out := s.onOp cfgResultTaken
def execCfgPersist (s : State) : Out := s.onOp cfgPersistTaken
def execPersistComplete (ok : Bool) (s : State) : Out := s.onOp fun s => if s.norFree then persistComplete ok s else s
def execKeyResult (s : State) : Out := s.onOp (relayed 0x19)
def execServeLoad (s : State) : Out := s.onSv serveLoad
def execHandlerLoad (s : State) : Out := s.onSvM handlerLoad
def execLoadResult (s : State) : Out := s.onOp loadResult
def execPmonSet (s : State) : Out := s.onSv pmonSet
def execModeReport (s : State) : Out := s.onOp modeReport
def execHeartbeat (s : State) : Out := s.onOp heartbeat
def execSvSilent (s : State) : Out := s.onOp svSilent
def execPtpRx (s : State) : Out := s.onOp (taken 0x43)
def execDiagTap (s : State) : Out := s.onOp (taken 0x45)
def execDiagData (s : State) : Out := s.onOp (relayed 0x51)
def execEvent (s : State) : Out := s.onOp (eventTaken 0x60)
def execAlarm (s : State) : Out := s.onOp (eventTaken 0x61)

end Sys2Proof.Machine
end

