-- ==== Sys2Proof/Machine/NoseCmds.lean ====
section
/-! DEFINITION. The Nose's own commands (R152, R162, R175 to R179, R188). -/
namespace Sys2Proof.Machine

/-- An entry is read and checked (R175): a correctable error is put right in an update slot and counted, an uncorrectable one stops
service. `s` is the state before the read, `t` after it. -/
def State.noseChecked (ecc : Ecc) (s t : State) : State := match ecc with
  | .good => t
  | .corrected => (t.bump 0x10100258).progSlots 1
  | .bad => s.faultEnter 1 0

/-- NOSE_SLOT_GRANT (R162): the slot of one FAB cycle. `ecc`: what the check bits of the entry it reads or moves show. -/
def noseSlotGrant (ecc : Ecc) (s : State) : State :=
  let r := noseSlot s
  if r.1 then State.noseChecked ecc s r.2 else r.2
def execNoseSlotGrant (ecc : Ecc) (s : State) : Out := s.onSv (noseSlotGrant ecc)
/-- SLOT_REQUEST_PROMOTE (R162). -/
def execSlotRequestPromote (s : State) : Out := s.onSv fun s => s.setNose { s.nose with reqs := promoteFirst s.nose.reqs }
/-- WIDE_WINDOW_RESET (R152). -/
def execWideWindowReset (s : State) : Out := s.onSv noseWindowReset

/-- NOSE_SCRUB (R175): a corrected error is counted, an uncorrectable one enters Fault with cause NOSE_UE. -/
def execNoseScrub (ecc : Ecc) (s : State) : Out :=
  s.onSv fun s => State.noseChecked ecc s s

/-- LEASH_SAMPLE (R177, R179): TEMP takes the highest reading, and the level follows it. -/
def leashSample (temp : BitVec 8) (s : State) : State :=
  let s := s.setFld rNoseLeash 15 8 temp.toNat
  let lvl := leashFrom s.nose.lvlTemp temp.toInt
  (s.setNose { s.nose with lvlTemp := lvl }).setLeash lvl
def execLeashSample (temp : BitVec 8) (s : State) : Out := s.onSv (leashSample temp)

/-- HANDOFF_CURSOR_EXPIRY (R188). -/
def handoffExpiry (id : Nat) (s : State) : State :=
  if s.nose.hcurs.any (·.id = id) then
    (s.setNose { s.nose with hcurs := s.nose.hcurs.filter (·.id != id) }).bump 0x10200408
  else s
def execHandoffCursorExpiry (id : Fin 64) (s : State) : Out := s.onSv (handoffExpiry id.val)

/-- NOSE_INIT_COMPLETE (R176). -/
def execNoseInitComplete (s : State) : Out :=
  s.onSv fun s => (s.setNose { s.nose with ready := true }).setFlag rNoseStatus 0 true

end Sys2Proof.Machine
end

