-- ==== Sys2Proof/Machine/Pack.lean ====
section
/-! DEFINITION. The pack link and Pack searches (R180 to R184, R192 to R203). -/
namespace Sys2Proof.Machine

def rPckCtl : Nat := 0x10800000

/-- The receiver is up and aligned (R200). -/
def State.pckUp (s : State) : Bool := s.flag rPckCtl 0 && s.flag rPckStatus 4

/-- The positions of the Pack but this one. -/
def State.others (s : State) : List Nat := (List.range (packN s.cfg.active)).filter (· != s.packPos)

def State.setPresent (s : State) (r : Nat) (b : Bool) : State := s.setFlag rPckStatus (16 + r) b

def State.packAbsentEvent (s : State) (r : Nat) : State := s.svEvent 0x0404 8 (leBytes 1 r ++ zeros 15)

/-- A position becomes absent (R201): recorded at the change. -/
def State.absent (s : State) (r : Nat) : State :=
  if s.memberPresent r then
    let p := s.pack
    ((s.setPresent r false).setPack { p with heard := p.heard.filter (· != r), segs := p.segs.filter (·.1 != r), parts := p.parts.filter (·.1 != r) }).packAbsentEvent r
  else s

/-- A member that loses the ring makes nothing visible under a granted version: RETRY, and the version is burnt (R202). -/
def failGranted (s : State) (e : Nat × Frame) : State :=
  match e.2.w, e.2.op with
  | some w, some op =>
    if w.version ≠ 0 ∧ (w.phase = .taken ∨ w.phase = .pending) then s.writeFail e.1 op w stRETRY else s
  | _, _ => s

/-- The ring is broken for this member: every other position is absent (R201). -/
def State.ringLost (s : State) : State :=
  let s := s.others.foldl State.absent s
  if s.underLead then s.ft.frames.foldl failGranted s else s

/-! Frames in. -/

/-- A frame that passes on: its trailer CRC, when wrong, stays wrong for the destination (R198). -/
def State.relayFrame (s : State) (f : LFrame) : State :=
  (if f.crcBad then s.bump 0x10800110 else s).linkSend f

/-- A frame of type `typ` addressed to this member: CRC, input buffer, repeated TAGs (R198, R199), then `k`. -/
def linkTake (typ : Nat) (resp : Bool) (i : LinkIn) (k : LFrame → State → State) (s : State) : State :=
  let f := i.f
  if !s.pckUp || f.typ != typ || f.resp != resp || f.bcast || f.dst != s.packPos then s
  else if f.crcBad then s.bump 0x10800110
  else if i.full then s.bump 0x10800128
  else
    let s := s.bump 0x10800108
    if resp || typ == 0x0B then k f s else
    match s.pack.kept.find? fun (e : Nat × Nat × LFrame) => e.1 = f.src && e.2.1 = f.tag with
    | some e => (s.bump 0x10800120).linkSend e.2.2
    | none => k f s

/-- A broadcast of type `typ`: taken, and relayed to the next member; the sender's own comes back and goes (R197). -/
def linkHear (typ : Nat) (i : LinkIn) (own k : LFrame → State → State) (s : State) : State :=
  let f := i.f
  if !s.pckUp || f.typ != typ || !f.bcast then s
  else if f.src = s.packPos then (if f.crcBad then s.bump 0x10800110 else own f s)
  else if f.crcBad then s.relayFrame f
  else if i.full then (s.relayFrame f).bump 0x10800128
  else k f ((s.relayFrame f).bump 0x10800108)

/-- The request a response answers leaves the list; its owner. -/
def State.answered (s : State) (f : LFrame) (typ : Nat) : Option (LReq × State) :=
  match s.pack.reqs.find? fun (r : LReq) => r.f.tag = f.tag && r.f.dst = f.src && r.f.typ = typ with
  | some r => some (r, s.setPack { s.pack with reqs := s.pack.reqs.erase r })
  | none => none

/-! LINK_FRAME_RELAY (R197). -/

def knownLinkType (t : Nat) : Bool := decide (1 ≤ t) && decide (t ≤ 0x0B)

/-- A frame that this member takes off the ring, drops, or sends on (R197, R198); every wrong CRC is counted. -/
def linkRelay (f : LFrame) (s : State) : State :=
  let bad := fun (s : State) => if f.crcBad then s.bump 0x10800110 else s
  if !s.pckUp then s
  else if f.src = s.packPos then (if f.bcast then s else (bad s).bump 0x10800130)
  else if f.dst = s.packPos ∨ f.bcast = true then (if knownLinkType f.typ then s else (bad s).bump 0x10800130)
  else s.relayFrame f

def execLinkFrameRelay (flits : Bytes) (s : State) : Out := s.onSv (linkRelay (frameOf flits))

/-! Forwarded operations (R87). -/

def State.memberFrame (s : State) (pos tag : Nat) : Bool :=
  s.ft.frames.any fun e => match e.2.origin with
    | .member p t _ _ _ => p == pos && t == tag
    | .client => false

/-- FWD_REQ: the operation becomes a frame of its own that answers over the link. -/
def takeFwdReq (q : LFrame) (s : State) : State :=
  let ctx := slice q.data 16 16
  let inner := q.data.drop 32
  if s.memberFrame q.src q.tag then s
  else match (if byteAt q.data 0 = 0x32 then parseOps 2 1 inner else none) with
    | none => s.linkResp q 0x02 0 (opBytes (byteAt inner 0) 0 stMALFORMED 0 [] [] 0)
    | some ops =>
      let fr : Frame :=
        { sess := 0, seq := 0, clientTag := 0, port := 0, epoch := s.cfg.active.epoch, phase := .executing,
          origin := .member q.src q.tag (leAt ctx 0 2) (byteAt ctx 2) (leAt ctx 8 8), raw := [], ops := ops, res := [], status := 0,
          w := none, writes := [], seg := none, cont := none, plain := [], arrived := s.now, old := false, thread := none, waits := none,
          place := none, far := none, scan := none }
      s.setFt { s.ft with frames := mset s.ft.frames s.ft.nextFrame (skipBad 2 fr), nextFrame := s.ft.nextFrame + 1 }

def execFwdReq (i : LinkIn) (s : State) : Out := s.onSv (linkTake 0x01 false i takeFwdReq)

/-- The entries of a page: key, and the bytes of the entry (Table 3-7). -/
def pageEntries : Nat → Bytes → List (Bytes × Bytes)
  | 0, _ => []
  | n + 1, b =>
    let kl := beAt b 8 2
    let vl := beAt b 10 2
    let len := 12 + kl + (if vl = 0xFFFF then 0 else vl)
    (slice b 12 kl, b.take len) :: pageEntries n (b.drop len)

/-- A member's entries go on in the client's page as far as it has room (R123). -/
def refillPage (maxKeys room : Nat) : List (Bytes × Bytes) → PageAcc → PageAcc
  | [], a => a
  | (k, e) :: t, a =>
    let fits := decide (a.body.length + e.length ≤ room)
    let bare := e.take 10 ++ [0xFF, 0xFF] ++ k
    if maxKeys ≤ a.count ∨ (fits = false ∧ (a.count ≠ 0 ∨ room < bare.length)) then { a with stopped := true }
    else refillPage maxKeys room t { count := a.count + 1, body := a.body ++ (if fits then e else bare), last := some k, stopped := false }

/-- The client's page from a member's page: what fits, and whether entries were left over. -/
def State.farPage (s : State) (f : Frame) (x : Session) (op : OpReq) (k : Cursor) (page : Bytes) : PageAcc :=
  let es := pageEntries (beAt page 4 2) (page.drop 8)
  let es := match es with
    | e :: t => if k.last = some e.1 then t else e :: t
    | [] => []
  let keep := if bit (byteAt page 6) 1 || (s.scanAhead (s.setOf f.epoch) k).isSome then 24 else 8
  let a0 : PageAcc := { count := 0, body := [], last := none, stopped := true }
  if s.valueRoom f x < keep then a0 else refillPage (op.arg % 65536) (s.valueRoom f x - keep) es { a0 with stopped := false }

/-- A page of a scan another member has filled (R88, R122): the cursor is this member's. What the client's frame has no room for is asked
for again; when the member's keys are exhausted the scan goes on at the next one. -/
def State.scanReply (s : State) (id cid : Nat) (f : Frame) (x : Session) (op : OpReq) (from_ : Nat) (r : OpRes) : State :=
  let s := s.updFrame id fun f => { f with scan := none }
  match s.ks.cursors.find? fun (k : Cursor) => k.id = cid with
  | none => s.opDone id r
  | some k =>
    if r.status ≠ stOK then (if op.opcode = 8 then s.closeCursor cid else s).opDone id r
    else
      let put := fun (k2 : Cursor) (s : State) => s.setKs { s.ks with cursors := s.ks.cursors.map fun (y : Cursor) => if y.id = cid then k2 else y }
      let flags := byteAt r.val 6
      let a := s.farPage f x op k r.val
      let k := { k with last := a.last.or k.last }
      let page := fun (fl : Nat) => beBytes 4 cid ++ beBytes 2 a.count ++ beBytes 1 fl ++ zeros 1 ++ a.body
      if a.stopped then (put { k with far := some (from_, none) } s).opDone id { r with val := page 0 }
      else if flags = 0 then (put { k with far := some (from_, some (beAt r.val 0 4)) } s).opDone id { r with val := page 0 }
      else if flags = 3 then (s.closeCursor cid).opDone id { r with val := page 3 ++ r.val.drop (r.val.length - 16) }
      else match State.scanNextMember (s.setOf f.epoch) k from_ with
        | some p => (put { k with far := some (p, none) } s).opDone id { r with val := page 0 }
        | none => (s.closeCursor cid).opDone id { r with val := page 1 }

/-- The result of a trick service's operation that another member executed. -/
def State.invokeFwd (s : State) (tag : Nat) (r : FwdRes) : State :=
  let l := s.tricks.invokes.map fun (e : Nat × Invoke) => if e.2.fwd = some (tag, none) then (e.1, { e.2 with fwd := some (tag, some r) }) else e
  s.setTricks { s.tricks with invokes := l }

/-- The next part of a value that crosses the link in parts (log entry 27): a SEG with the bytes that follow, or, of a value that is read,
one that asks for them. -/
def State.nextPart (s : State) (id pos : Nat) (x : Session) (op : OpReq) (t : FarVal) : State :=
  let off := t.data.length
  let d := if op.opcode = 1 then [] else slice op.val off 7936
  let o : OpReq := { opcode := 0x10, flags := 0, ns := 0, key := [], val := d, arg := t.tag * 2 ^ 32 + off }
  (s.fwdReq id pos x o 0).updFrame id fun f => { f with far := some { t with data := t.data ++ d } }

/-- What a FWD_RESP carries: opcode, flags and the rest of the result. -/
def respOf (op : OpReq) (b : Bytes) : OpRes :=
  let kl := beAt b 3 3 % 1024
  { resOf op (byteAt b 2) (beAt b 8 8) (slice b (16 + kl) (beAt b 6 2)) 0 with
    flags := (resOf op 0 0 [] 0).flags ||| (byteAt b 1 &&& 0x03) }

/-- A result of a forwarded operation that was no scan: a part of a value on its way either way, a MIRROR_FWD applied in its turn, or the
operation's result (R87, R137). -/
def State.fwdResult (s : State) (id : Nat) (f : Frame) (x : Session) (op : OpReq) (q : LFrame) : State :=
  let b := q.data
  let r := respOf op b
  let more := bit (byteAt b 1) 4
  match f.far with
  | some t =>
    if byteAt b 0 ≠ 0x10 then (if op.opcode = 0x31 ∧ r.status = stOK then (s.followTo op.ns op.arg).mirrorDone id op else s.relayResult id f x op r)
    else if r.status ≠ stOK then s.opDone id (resOf op stRETRY 0 [] 0)
    else if op.opcode ≠ 1 then s.nextPart id q.src x op t
    else
      let t := { t with data := t.data ++ r.val }
      if more then s.nextPart id q.src x op t else s.answerGet id f x op t.version t.data
  | none =>
    if op.opcode = 0x31 ∧ r.status = stOK then (s.followTo op.ns op.arg).mirrorDone id op
    else if op.opcode = 1 && r.status = stOK && more then
      let total := beAt r.val 0 4
      if f.ops.length ≠ 1 ∧ s.valueRoom f x < total then s.opDone id (tooLarge op r.arg total)
      else s.nextPart id q.src x op { tag := q.tag, total := total, version := r.arg, data := r.val.drop 8 }
    else s.relayResult id f x op r

/-- FWD_RESP: the result is relayed in the client's frame. -/
def takeFwdResp (q : LFrame) (s : State) : State :=
  match s.answered q 0x01 with
  | none => s
  | some (r, s) => match r.owner with
    | none =>
      let b := q.data
      let val := slice b (16 + beAt b 3 3 % 1024) (beAt b 6 2)
      let head := bit (byteAt b 1) 4 && byteAt b 0 != 0x10
      s.invokeFwd q.tag { first := q.tag, status := byteAt b 2, arg := beAt b 8 8, val := if head then val.drop 8 else val,
                          whole := if head then beAt val 0 4 else val.length }
    | some id => match s.frame id with
      | none => s
      | some f => match f.op, s.frameSess f with
        | some op, some x =>
          if f.waits ≠ some 2 then s else
          match f.scan with
          | some cid => s.scanReply id cid f x op q.src (respOf op q.data)
          | none => s.fwdResult id f x op q
        | _, _ => s

def execFwdResp (i : LinkIn) (s : State) : Out := s.onSv (linkTake 0x02 true i takeFwdResp)

/-! Versions (R88, R202). -/

/-- Position 0 grants COUNT consecutive versions, READ_ONLY past the last one; while the lease ends short of them the request
is not executed. -/
def takeVerReq (q : LFrame) (s : State) : State :=
  let ns := q.arg % 4096
  let count := bits q.arg 16 6
  let s := s.leaseDue ns
  let n := s.nsOf ns
  if s.packPos ≠ 0 ∨ count = 0 ∨ 32 < count then s
  else if lastVersion < n.counter + count then s.linkResp q 0x04 stREADONLY []
  else if n.lease ≠ lastVersion ∧ n.lease ≤ n.counter + count then s
  else
    let first := n.counter + 1
    let vs := (List.range count).map fun i => (q.src, first + i)
    ((s.setNs ns { n with counter := n.counter + count, granted := n.granted ++ vs }).leaseDue ns).linkResp q 0x04 stOK (leBytes 8 first)

def execVerReq (i : LinkIn) (s : State) : Out := s.onSv (linkTake 0x03 false i takeVerReq)

/-- A version granted for a write that no longer waits for it is burnt (R54). -/
def State.burnGrant (s : State) (ns v : Nat) : State := (s.burn ns v).oweSettle ns v 2

/-- VER_GRANT: the waiting write takes its version, or fails with READ_ONLY. -/
def takeVerGrant (q : LFrame) (s : State) : State :=
  match s.answered q 0x03 with
  | none => s
  | some (r, s) =>
    let ok := q.arg % 256 = stOK
    let v := leAt q.data 0 8
    let ns := r.f.arg % 4096
    match r.owner with
    | none =>
      let t := s.tricks
      if t.invokes.any fun e => e.2.grant == some (q.tag, none) then
        let s := if ok then s.setNs ns ((s.nsOf ns).take v) else s
        s.setTricks { t with invokes := t.invokes.map fun e =>
          if e.2.grant = some (q.tag, none) then (e.1, { e.2 with grant := some (q.tag, some (if ok then v else 0)) }) else e }
      else if ok then s.burnGrant ns v else s
    | some id => match s.frame id with
      | none => if ok then s.burnGrant ns v else s
      | some f => match f.w, f.op with
        | some w, some op =>
          if w.phase ≠ .waitGrant then (if ok then s.burnGrant ns v else s)
          else if ok then (s.setNs ns ((s.nsOf ns).take v)).writeTook id op w v
          else s.writeDrop id op w stREADONLY
        | _, _ => if ok then s.burnGrant ns v else s

def execVerGrant (i : LinkIn) (s : State) : Out := s.onSv (linkTake 0x04 true i takeVerGrant)

/-- The entries of a SETTLE: version and namespace. -/
def settleEntries : Nat → Bytes → List (Nat × Nat)
  | 0, _ => []
  | n + 1, b => (leAt b 0 8, leAt b 8 2) :: settleEntries n (b.drop 16)

def State.settleGranted (s : State) (pos : Nat) (e : Nat × Nat) : State :=
  let n := s.nsOf e.2
  (s.setNs e.2 { n with granted := n.granted.erase (pos, e.1) }).pruneKeys e.2

/-- SETTLE: the granted versions count toward the horizon from now on. -/
def takeSettle (q : LFrame) (s : State) : State :=
  if s.packPos ≠ 0 then s else
  ((settleEntries (q.arg % 128) q.data).foldl (fun s e => s.settleGranted q.src e) s).linkResp q 0x06 0 []

def execSettle (i : LinkIn) (s : State) : Out := s.onSv (linkTake 0x05 false i takeSettle)
def execSettleAck (i : LinkIn) (s : State) : Out := s.onSv (linkTake 0x06 true i fun q s => match s.answered q 0x05 with
  | some (_, s) => s
  | none => s)

/-! Horizons and snapshots. -/

/-- HORIZON_REQ: the horizon; with SNAPSHOT a snapshot opens here, toward the limits of R68. -/
def takeHorizonReq (q : LFrame) (s : State) : State :=
  let ns := q.arg % 4096
  let h := (s.nsOf ns).horizon
  if s.packPos ≠ 0 then s
  else if !bit q.arg 16 then s.linkResp q 0x08 stOK (leBytes 8 h)
  else if !nsFlag s.cfg.active ns 3 then s.linkResp q 0x08 stDENIED []
  else if 1024 ≤ s.ks.snaps.length then s.linkResp q 0x08 stBUSY []
  else (s.openSnap ns h).2.linkResp q 0x08 stOK (leBytes 8 h)

def execHorizonReq (i : LinkIn) (s : State) : Out := s.onSv (linkTake 0x07 false i takeHorizonReq)

/-- HORIZON: the waiting scan starts at V, here or at the member that holds its first key. -/
def takeHorizon (q : LFrame) (s : State) : State :=
  match s.answered q 0x07 with
  | none => s
  | some (r, s) => match r.owner with
    | none => s
    | some id => match s.frame id with
      | none => s
      | some f => match f.op, s.frameSess f with
        | some op, some x =>
          if f.waits ≠ some 3 then s else
          let s := s.updFrame id fun f => { f with waits := none }
          let st := q.arg % 256
          let s := if st = stOK then s.hearHorizon op.ns (leAt q.data 0 8) else s
          if st ≠ stOK then s.opDone id (resOf op st 0 [] 0)
          else match s.scanPlace (s.setOf f.epoch) x { op with key := if op.val.isEmpty then op.key else op.val } with
            | .fail st val s => s.opDone id (resOf op st 0 val 0)
            | .proxy _ s => s
            | .search s => s
            | .member p s => s.scanOpen id f x op (leAt q.data 0 8) (some p) false
            | .pass s => s.scanOpen id f x op (leAt q.data 0 8) none false
        | _, _ => s

def execHorizon (i : LinkIn) (s : State) : Out := s.onSv (linkTake 0x08 true i takeHorizon)

/-- SNAP_NOTE: a snapshot of position 0 opens or is released. Several may stand at one V: the versions are kept until the last of them
is released. -/
def takeSnapNote (q : LFrame) (s : State) : State :=
  let ns := leAt q.data 0 2 % 4096
  let v := leAt q.data 8 8
  let put := fun (y : Snap) (n : Nat) (s : State) => s.setKs { s.ks with snaps := s.ks.snaps.map fun (z : Snap) => if z.id = y.id then { z with refs := n } else z }
  match s.ks.snaps.find? fun (y : Snap) => y.ns = ns && y.v = v with
  | some y =>
    if bit q.arg 0 then (if y.refs ≤ 1 then s.releaseSnap y.id else put y (y.refs - 1) s)
    else (put y (y.refs + 1) s).hearHorizon ns v
  | none => if bit q.arg 0 then s else (s.newSnap ns v 1).hearHorizon ns v

def execSnapNote (i : LinkIn) (s : State) : Out := s.onSv (linkHear 0x09 i (fun _ s => s) takeSnapNote)

/-! Bring-up and presence (R200, R201). -/

def State.packDigest (s : State) : Nat := crc32c (padTo 148 (s.cfg.active.get secPack 0))

/-- Step 6 of Table 4-22: the serving program sets NOSE_CTL.PACK_EN. -/
def State.packStep6 (s : State) : State := if s.packUp then s.setFlag rNoseCtl 2 true else s

/-- RING_UP once every other position and the member's own HELLO have been heard. -/
def State.ringCheck (s : State) : State :=
  if s.pack.ownHello && s.others.all s.pack.heard.contains then (s.setFlag rPckStatus 5 true).packStep6 else s

/-- One round of TRAIN toward the previous position, a step for each tap of each lane (Table 4-22, step 5). The steps follow this receiver's
eye: free values. After 32 rounds it is trained (log entry 47). -/
def State.trainRound (s : State) : State :=
  if !(s.ringUp && s.flag rPckCtl 1) || s.flag rPckStatus 6 then s
  else if 32 ≤ s.pack.trainRounds then (s.setFlag rPckStatus 6 true).packStep6
  else
    let n := max (packN s.cfg.active) 1
    let send := fun (s : State) (lane : Nat) =>
      let (steps, s) := s.drawBytes 3
      s.linkSend { typ := 0x0B, resp := false, bcast := false, dst := (s.packPos + n - 1) % n, src := s.packPos, tag := 0, arg := lane,
                   data := steps ++ zeros 1, crcBad := false }
    let s := [0, 1, 2, 3].foldl send s
    s.setPack { s.pack with trainRounds := s.pack.trainRounds + 1 }

/-- HELLO from another position. -/
def takeHello (q : LFrame) (s : State) : State :=
  if byteAt q.data 3 = packN s.cfg.active ∧ leAt q.data 4 4 = s.packDigest then
    let p := s.pack
    let s := s.setPack { p with heard := if p.heard.contains q.src then p.heard else q.src :: p.heard, devices := mset p.devices q.src (leAt q.data 0 2 % 16384) }
    (s.setPresent q.src true).ringCheck
  else ((s.setFlag rPckStatus 5 false).setPresent q.src false).setPack { s.pack with heard := s.pack.heard.filter (· != q.src) } |>.packAbsentEvent q.src

def execHello (i : LinkIn) (s : State) : Out :=
  s.onSv (linkHear 0x0A i (fun _ s => (s.setPack { s.pack with ownHello := true }).ringCheck) takeHello)

/-- HELLO_SEND; while training goes on, a round of it with each HELLO. -/
def helloSend (s : State) : State :=
  if !s.pckUp then s else
  State.trainRound <| s.linkCast 0x0A 0 (leBytes 2 (selfId s.cfg.active) ++ leBytes 1 s.packPos ++ leBytes 1 (packN s.cfg.active) ++
    leBytes 4 s.packDigest ++ leBytes 4 s.cfg.active.epoch ++ zeros 4)
def execHelloSend (s : State) : Out := s.onSv helloSend

/-- HELLO_TIMEOUT: 1 ms without a HELLO from a position, while the ring runs. -/
def execHelloTimeout (pos : Fin 8) (s : State) : Out :=
  s.onSv fun s => if pos.val = s.packPos then s else s.absent pos.val

/-- A tap moved by a signed number of steps; a value the field cannot hold is left open by R200 (log entry 4). -/
def State.tapStep (s : State) (a lo : Nat) (d : BitVec 8) : State :=
  let n : Int := (bits (s.rd a) lo 6 : Int) + d.toInt
  if 0 ≤ n ∧ n < 64 then s.setFld a (lo + 5) lo n.toNat
  else let (v, s) := s.draw; s.setFld a (lo + 5) lo (v.toNat % 64)

/-- TRAIN: the steps apply at the next alignment marker. `last`: this member's own receiver ends its rounds. -/
def takeTrain (last : Bool) (q : LFrame) (s : State) : State :=
  if !s.flag rPckCtl 1 then s else
  let a := 0x10800020 + 4 * (q.arg % 4)
  let b := fun (i : Nat) => BitVec.ofNat 8 (byteAt q.data i)
  let s := ((s.tapStep a 0 (b 0)).tapStep a 8 (b 1)).tapStep a 16 (b 2)
  if last then (s.setFlag rPckStatus 6 true).packStep6 else s

def execTrain (i : LinkIn) (last : Bool) (s : State) : Out := s.onSv (linkTake 0x0B false i (takeTrain last))

/-- The operation that needed an unanswered request fails with RETRY (R198). -/
def State.reqFailed (s : State) (r : LReq) : State :=
  match r.owner with
  | none =>
    let l := s.tricks.invokes.map fun (e : Nat × Invoke) =>
      if e.2.grant = some (r.f.tag, none) then (e.1, { e.2 with grant := some (r.f.tag, some 0) }) else e
    (s.setTricks { s.tricks with invokes := l }).invokeFwd r.f.tag { first := 0, status := stRETRY, arg := 0, val := [], whole := 0 }
  | some id => match s.frame id with
    | none => s
    | some f => match f.op with
      | none => s
      | some op =>
        let s := match f.scan with
          | some cid => (if op.opcode = 8 then s.closeCursor cid else s).updFrame id fun f => { f with scan := none }
          | none => s
        match f.w with
        | some w => if w.phase = .waitGrant then s.writeDrop id op w stRETRY else s
        | none => if f.waits.isSome then s.opDone id (resOf op stRETRY 0 [] 0) else s

/-- PCK_RETRY_EXPIRY: the request is sent again, or the destination becomes absent. -/
def pckRetry (tag : Nat) (s : State) : State :=
  match s.pack.reqs.find? fun (r : LReq) => r.f.tag = tag with
  | none => s
  | some r =>
    if r.tries < s.fld 0x1080000C 19 16 then
      let put := fun (y : LReq) => if y.f.tag = tag then { y with tries := y.tries + 1 } else y
      ((s.setPack { s.pack with reqs := s.pack.reqs.map put }).bump 0x10800118).linkSend r.f
    else ((s.setPack { s.pack with reqs := s.pack.reqs.erase r }).reqFailed r).absent r.f.dst
def execPckRetryExpiry (tag : Word) (s : State) : Out := s.onSv (pckRetry tag.toNat)

/-- PACK_LANE_LOCK_LOST (R194, R201): a lane that had lock loses it. -/
def laneLost (lane : Nat) (s : State) : State :=
  if !(s.flag rPckCtl 0 && s.flag rPckStatus lane) then s else
  let s := (((s.setFlag rPckStatus lane false).setFlag rPckStatus 4 false).setFlag rPckStatus 5 false).bump 0x10800138
  (s.setPack { s.pack with ownHello := false }).ringLost
def execPackLaneLockLost (lane : Fin 4) (s : State) : Out := s.onSv (laneLost lane.val)

/-- PACK_LINK_ENABLE (R200): from step 4 of Table 6-6 on, in a Pack that has this position, the transmitters start; the receivers have
locked nothing yet. Outside a Pack the link stays down. -/
def packEnable (s : State) : State :=
  if packN s.cfg.active < 2 ∨ packN s.cfg.active ≤ s.packPos ∨ s.power.step < 4 then s
  else ((s.setFlag rPckCtl 0 true).setFld rPckStatus 6 0 0).setPack { s.pack with ownHello := false, heard := [], trainRounds := 0 }
def execPackLinkEnable (s : State) : Out := s.onSv packEnable

/-- PACK_ALIGNED (Table 4-22, step 2). -/
def packAligned (s : State) : State :=
  if s.flag rPckCtl 0 then ((s.setFld rPckStatus 3 0 15).setFlag rPckStatus 4 true).setPresent s.packPos true else s
def execPackAligned (s : State) : Out := s.onSv packAligned

/-- PACK_UP_TIMEOUT: the positions not heard are recorded, and the sequence starts again. -/
def packUpTimeout (s : State) : State :=
  if !s.flag rPckCtl 0 || s.ringUp then s else
  let quiet := s.others.filter fun r => !s.pack.heard.contains r
  packEnable (quiet.foldl State.packAbsentEvent s)
def execPackUpTimeout (s : State) : Out := s.onSv packUpTimeout

/-- PACK_ABSENT_BURN: at position 0 the unsettled versions of a member absent for 1 ms are burnt (R202). -/
def State.burnMember (s : State) (pos : Nat) (e : Nat × NsState) : State :=
  let mine := e.2.granted.filter fun (g : Nat × Nat) => g.1 = pos
  let s := s.setNs e.1 { s.nsOf e.1 with granted := e.2.granted.filter fun (g : Nat × Nat) => g.1 != pos }
  mine.foldl (fun s g => s.burn e.1 g.2) s
def execPackAbsentBurn (pos : Fin 8) (s : State) : Out :=
  s.onSv fun s => if s.leadsPack && !s.memberPresent pos.val then s.ks.ns.foldl (fun s e => s.burnMember pos.val e) s else s

/-! PACK_SYNC and Pack searches. -/

/-- PACK_SYNC_PULSE (R180, R183): the slot counters start anew; position 0 drives the pulse. -/
def execPackSyncPulse (s : State) : Out :=
  s.onSv fun s => (s.setNose { s.nose with slotCtr := 0, syncOut := s.packPos == 0 }).setFlag rNoseStatus 2 true

/-- PACK_SYNC_LOSS (R183, R201). -/
def execPackSyncLoss (s : State) : Out :=
  s.onSv fun s => if s.flag rNoseStatus 2 then (s.setFlag rNoseStatus 2 false).ringLost else s

/-- The search of a message, at this member. -/
def State.messageSearch (s : State) (m : Bytes) : NRes × Option Nat :=
  searchPlain s.nose.ents (maskOfPlen (byteAt m 28) (byteAt m 29)) (leNat (slice m 7 9 ++ slice m 17 11)) s.packPos

/-- A Pack search ends at its requester. -/
def State.psearchDone (s : State) (q : PSearch) : State :=
  s.setNose { s.nose with psearch := s.nose.psearch.erase q }

def State.psearchOf (s : State) (m : Bytes) (off : Nat) : Option PSearch :=
  if leAt m off 2 / 8192 = s.packPos then s.nose.psearch.find? fun (q : PSearch) => q.num = leAt m off 2 % 8192 else none

/-- A Pack search of the serving program has found its key's member (R89, R184): the lower position that shows the key; where none does, the
boundary's new place. -/
def State.searchPlace (s : State) (id word : Nat) : State :=
  match s.frame id with
  | none => s
  | some f => match f.op with
    | none => s
    | some op =>
      let p := if bit word 0 then bits word 47 3 else packHolder (s.setOf f.epoch) op.ns (headOf op.key)
      s.updFrame id fun f => { f with waits := none, place := some (op.ns, op.key, p) }

/-- The result of a Pack search as it stands in the message: rd and rd + 1 of the thread asleep in the NPSRCH. The thread's own cursor
stays as it was, since the winner may be another member's entry (DESIGN CHOICE, log entry 82). -/
def State.psearchResult (s : State) (q : PSearch) (word ad : Nat) : State :=
  match q.frame with
  | some id => (s.psearchDone q).searchPlace id word
  | none =>
  (s.psearchDone q).nosePair q.thread q.rd (BitVec.ofNat 64 word) (BitVec.ofNat 64 ad)

/-- A message's two flits carry their FLIT_TYPEs (R195). -/
def flitTypes (a b : Nat) (m : Bytes) : Bool := byteAt m 0 == a && byteAt m 16 == b

/-- SEARCH_MESSAGE: relayed unless its own has come back; the member searches at the release slot, drives MATCH_OUT_N, and
answers when it wins, or when nobody matches and it is the highest. `matchIn`: MATCH_IN_N is low there. `ecc`: what the check bits of the
entry it finds show (R175). -/
def searchMessage (m : Bytes) (matchIn late : Bool) (ecc : Ecc) (s : State) : State :=
  if !s.pckUp || m.length != 32 then s else
  if !flitTypes 0xE1 0xE2 m then s.bump 0x10800110 else
  let mine := leAt m 1 2 / 8192 == s.packPos
  let s := if mine then s else s.sendMsg m
  let ok := checkOk m
  let s := if ok then s else s.bump 0x10800110
  if !s.flag rNoseStatus 2 || !s.flag rNoseCtl 2 || !s.nose.ready || !s.flag rNoseCtl 0 then s.setNose { s.nose with matchOut := matchIn }
  else if late || !ok then (s.setNose { s.nose with matchOut := matchIn }).bump 0x10100250
  else
    let (r, _) := s.messageSearch m
    let s := State.noseChecked (if r.found then ecc else .good) s
      ((s.setNose { s.nose with matchOut := matchIn || r.found, packSlots := s.nose.packSlots + 1 }).bump 0x10100248)
    if s.power.fault then s else
    let answers := !matchIn && (r.found || s.packPos + 1 == packN s.cfg.active)
    if !answers then s
    else if mine then match s.psearchOf m 1 with
      | some q => s.psearchResult q r.word (if r.found then r.ad else 0)
      | none => s
    else s.sendMsg (resultMsg (leAt m 1 2) (leAt m 3 4) r)
def execSearchMessage (m : Bytes) (matchIn late : Bool) (ecc : Ecc) (s : State) : Out := s.onSv (searchMessage m matchIn late ecc)

/-- A search without a good result is issued once more, then ends with PACK_ABSENT (R196). -/
def State.psearchRetry (s : State) (q : PSearch) : State :=
  if q.again then match q.frame with
    | some id => match (s.frame id).bind (·.op) with
      | some op => (s.psearchDone q).opDone id (resOf op stRETRY 0 [] 0)
      | none => s.psearchDone q
    | none => (s.psearchDone q).noseDone q.thread q.rd (failRes 6 s.packPos) false
  else
    let q2 := { q with again := true }
    (s.setNose { s.nose with psearch := s.nose.psearch.map fun (x : PSearch) => if x = q then q2 else x }).psearchSend q2

/-- RESULT_MESSAGE: relayed to its requester, which ends its NPSRCH with it. -/
def resultMessage (m : Bytes) (s : State) : State :=
  if !s.pckUp || m.length != 32 then s else
  if !flitTypes 0xE3 0xE4 m then s.bump 0x10800110 else
  let ok := checkOk m
  let s := if ok then s else s.bump 0x10800110
  if leAt m 2 2 / 8192 ≠ s.packPos then s.sendMsg m
  else match s.psearchOf m 2 with
    | none => s
    | some q => if ok then s.psearchResult q (leAt m 8 8) (leAt m 17 8) else s.psearchRetry q
def execResultMessage (m : Bytes) (s : State) : Out := s.onSv (resultMessage m)

/-- PACK_RESULT_TIMEOUT: no result by the end of step 10 of Table 4-9. -/
def execPackResultTimeout (num : BitVec 13) (s : State) : Out :=
  s.onSv fun s => match s.nose.psearch.find? fun (q : PSearch) => q.num = num.toNat with
    | some q => s.psearchRetry q
    | none => s

end Sys2Proof.Machine
end

