-- ==== Sys2Proof/Machine/Test.lean ====
section
/-! DEFINITION. Test mode: loopbacks, PRBS lanes, the frame generator and checker, self-test, and the test access port
(chapter 15). -/
namespace Sys2Proof.Machine

/-- TST_CTL.ARM (R550): while it is 0 every other TST register ignores writes. -/
def State.armed (s : State) : Bool := s.flag 0x10900000 0
/-- PWR_STATUS.MODE reads Test (R550): what the operator plane's test registers wait for. -/
def State.testShown (s : State) : Bool := s.modeNow == .test && s.power.testSeen

/-! Loopback depths (R553 to R556). -/

/-- TST_LB_NETp: another depth takes the link down; at 1 and 2 LINK_UP reads 1; 0 restarts it. -/
def netLoop (p depth : Nat) (s : State) : State :=
  let a := 0x10900010 + 4 * p
  if !s.armed || decide (4 < depth) || s.fld a 2 0 == depth then s else
  let s := s.setFld a 2 0 depth
  if depth = 0 then linkRestart p s
  else
    let s := s.linkFalls p
    if depth ≤ 2 then (s.setFlag (macBase p + 4) 0 true).setFld (macBase p + 4) 7 6 2
    else if depth = 3 then s.linkTries p else s

/-- TST_LB_PCK: a lane's depth 0, 3 or 4; the ring breaks at any but 0. -/
def pckLoop (lane depth : Nat) (s : State) : State :=
  let a := 0x10900018
  if !s.armed || !(depth = 0 || depth = 3 || depth = 4) || s.fld a (4 * lane + 2) (4 * lane) == depth then s else
  let s := s.setFld a (4 * lane + 2) (4 * lane) depth
  if depth = 0 then (if s.rd a = 0 then packEnable s else s) else laneLost lane s

/-- TST_LB_DRAM: a looped channel has lost its contents; READY stays 0 until it is trained and initialised again. -/
def dramLoop (mask : Nat) (s : State) : State :=
  if !s.armed then s else
  let old := s.fld 0x1090001C 7 0
  let s := s.wr 0x1090001C (mask % 256)
  if old ||| mask % 256 = 0 then s else s.setFlag rDrcStatus 0 false

/-- TST_LB_FLASH: a channel put back on its packages starts its interface again (R294). -/
def flashLoop (mask : Nat) (s : State) : State :=
  if !s.armed then s else
  let old := s.fld 0x10900020 15 0
  let m := mask % 65536
  let back := (List.range 16).filter fun c => bit old c && !bit m c && !s.st.initing.contains c
  let s := s.wr 0x10900020 m
  let s := if back.isEmpty then s else s.setFlag rFlcStatus 0 false
  s.setSt { s.st with initing := s.st.initing ++ back }

def execNetLoopbackSelect (p : Fin 2) (depth : BitVec 3) (s : State) : Out := s.onSvM (netLoop p.val depth.toNat)
def execPckLoopbackSelect (lane : Fin 4) (depth : BitVec 3) (s : State) : Out := s.onSv (pckLoop lane.val depth.toNat)
def execDramLoopbackSelect (mask : Byte) (s : State) : Out := s.onSv (dramLoop mask.toNat)
def execFlashLoopbackSelect (mask : Half) (s : State) : Out := s.onSv (flashLoop mask.toNat)

/-- MGT_TEST: DEPTH and TIMEOUT_S keep their values where the written one is not legal (R13). -/
def mgtLoop (depth timeout : Nat) (s : State) : State :=
  if !s.testShown then s else
  let s := if timeout = 0 then s else s.setFld 0x50030 15 8 timeout
  if !(depth = 0 || depth = 2 || depth = 3 || depth = 4) then s
  else
    if depth = 0 ∧ s.mgtDepth = 0 then s else
    let s := s.setFld 0x50030 2 0 depth
    let s := mgtLinkSet false s
    if depth = 2 then mgtLinkSet true s else s
/-- MGT_TEST_TIMEOUT (R555): depth 0 again, the link down until the port has restarted. -/
def mgtTestTimeout (s : State) : State := if s.mgtDepth = 0 then s else mgtLinkSet false (s.setFld 0x50030 2 0 0)

def execMgtLoopbackSelect (depth : BitVec 3) (timeout : Byte) (s : State) : Out := s.onOp (mgtLoop depth.toNat timeout.toNat)
def execMgtTestTimeout (s : State) : Out := s.onOp mgtTestTimeout

/-- The boot NOR is in use: a lookup, a persist or a fuse-independent program runs (R556). -/
def State.norBusy (s : State) : Bool := s.trail.looking || !s.cfg.persisting.isEmpty || s.trail.leaseNext.isSome

/-- GLB_NOR_LB.GO (R556). -/
def norLoop (s : State) : State :=
  if !s.testShown || s.flag 0x200 0 then s
  else if s.norBusy then s.setFlag 0x200 3 true
  else s.setFlag 0x200 0 true
def norLoopDone (failbits : Nat) (s : State) : State :=
  if !s.flag 0x200 0 then s else
  (((s.setFlag 0x200 0 false).setFlag 0x200 1 true).setFlag 0x200 2 (failbits % 512 != 0)).setFld 0x200 16 8 failbits

def execNorLoopback (s : State) : Out := s.onOp norLoop
def execNorLoopbackDone (failbits : BitVec 9) (s : State) : Out := s.onOp (norLoopDone failbits.toNat)

/-! PRBS lanes (R557 to R559). Lane 36 is the management lane. -/

def prbsCtl (l : Nat) : Nat := if l < 36 then 0x10901000 + 0x40 * l else 0x50034
def prbsStat (l : Nat) : Nat × Nat := if l < 36 then (0x10901004 + 0x40 * l, 0) else (0x50034, 17)
def prbsBits (l : Nat) : Nat := if l < 36 then 0x10901008 + 0x40 * l else 0x50140

/-- A lane that runs PAM4: a network lane at a speed of 50G a lane or more. -/
def State.pam4 (s : State) (l : Nat) : Bool := decide (l < 8) && decide (s.fld (macBase (l / 4) + 4) 11 9 ≤ 3)
def serialLane (l : Nat) : Bool := decide (l < 12) || l == 36

/-- A pattern the lane runs (R558). -/
def State.patOk (s : State) (l pat : Nat) : Bool :=
  (decide (1 ≤ pat) && decide (pat ≤ 6)) || (pat == 7 && s.pam4 l) || (pat == 8 && serialLane l)

def State.laneArmed (s : State) (l : Nat) : Bool := if l < 36 then s.svUp && s.armed else s.opUp && s.testShown

def State.prbsLocked (s : State) (l : Nat) : Bool := s.flag (prbsStat l).1 (prbsStat l).2

/-- The lane's transmit data returns inside the device: depth 3 of a serial lane, depth 5 of a parallel one. -/
def State.laneLoops (s : State) (l : Nat) : Bool :=
  if l < 8 then s.fld (0x10900010 + 4 * (l / 4)) 2 0 == 3
  else if l < 12 then s.fld 0x10900018 (4 * (l - 8) + 2) (4 * (l - 8)) == 3
  else if l < 20 then bit (s.rd 0x1090001C) (l - 12)
  else if l < 36 then bit (s.rd 0x10900020) (l - 20)
  else s.fld 0x50030 2 0 == 3

/-- PRBS_LOCK: 128 consecutive bits without error. -/
def prbsLock (l : Nat) (s : State) : State :=
  let c := s.rd (prbsCtl l)
  if s.laneArmed l && bit c 9 && s.patOk l (bits c 4 4) then s.setFlag (prbsStat l).1 (prbsStat l).2 true else s

/-- What a locked checker has counted: bits in error, and which bits erred. -/
def State.prbsCount (s : State) (l errs fail : Nat) : State :=
  let s := s.bump (prbsBits l + 8) errs
  if l < 36 then let a := 0x10901018 + 0x40 * l; s.wr a (s.rd a ||| fail % 2 ^ 18) else s

/-- PRBS_LOCK_LOST: 64 or more errors within 1,024 bits. -/
def prbsLost (l errs fail : Nat) (s : State) : State :=
  if !s.laneArmed l || !s.prbsLocked l then s else
  let (a, b) := prbsStat l
  ((s.prbsCount l errs fail).setFlag a b false).setFlag a (b + 1) true

/-- PRBS_INJECT: the generator inverts one bit; where the lane loops inside and its checker is locked, that counts one error. -/
def prbsInject (l : Nat) (s : State) : State :=
  let c := s.rd (prbsCtl l)
  if s.laneArmed l && bit c 8 && s.patOk l (bits c 0 4) && s.laneLoops l && s.prbsLocked l then s.prbsCount l 1 1 else s

/-- A checker whose pattern, inversion or enable has changed, or that is off, is no longer locked: lane `l`, its control word before. -/
def prbsRetune (l old : Nat) (s : State) : State :=
  let c := s.rd (prbsCtl l)
  if bit c 9 && s.patOk l (bits c 4 4) && bits c 4 4 == bits old 4 4 && bit c 10 == bit old 10 then s
  else s.setFlag (prbsStat l).1 (prbsStat l).2 false

/-- Bits a lane carries in 20 µs (Table 9-1, R193, Tables 7-3 and 8-1b, R585), every checked bit of a parallel lane counted. -/
def State.laneBits (s : State) (l : Nat) : Nat :=
  if l < 8 then
    let v := s.fld (macBase (l / 4) + 4) 11 9
    if v ≤ 2 then 2125000 else if v = 3 then 1062500 else 515625
  else if l < 12 then 640000
  else if l < 20 then 18 * s.drcKhz * 8 / 50
  else if l < 36 then
    let c := s.rd (0x10400100 + 16 * (l - 20))
    let mts := if bits c 0 3 = 1 then [800, 1200, 1600, 2400] else if bits c 0 3 = 2 then [1600, 2400, 3200, 3600] else []
    8 * (mts[bits c 3 3]?).getD 0 * 20
  else if s.flag 0x50000 1 then 206250 else 25000

/-- 20 µs pass on a lane: a locked checker counts the bits compared (R559). -/
def State.prbsTick (s : State) (l : Nat) : State := if s.laneArmed l && s.prbsLocked l then s.bump (prbsBits l) (s.laneBits l) else s
def State.prbsTicks (s : State) : State :=
  if s.now % 30000 = 0 && (s.armed || s.testShown) then (List.range 37).foldl State.prbsTick s else s

def execPrbsLock (l : Fin 37) (s : State) : Out := s.onAny (prbsLock l.val)
def execPrbsLockLost (l : Fin 37) (errs : DWord) (fail : BitVec 18) (s : State) : Out :=
  s.onAny (prbsLost l.val errs.toNat fail.toNat)
def execPrbsInject (l : Fin 37) (s : State) : Out := s.onAny (prbsInject l.val)

/-! Frame generator and checker (R560, R561). -/

def fgBase (p : Nat) : Nat := 0x10900100 + 0x40 * p

/-- FG_FRAME_SEND: the next generator frame enters its queue. -/
def fgSend (p : Nat) (s : State) : State :=
  let a := fgBase p
  let n := mgetD s.tst.fgSent p 0
  let count := s.rd (a + 4)
  let seq := mgetD s.tst.fgSeq p 0
  let len := s.fld a 13 0
  let mac := s.portMac p
  let b : Bytes := mac ++ mac ++ beBytes 2 0x88B5 ++ beBytes 4 seq ++ padTo (len - 22) (Config.fgPayload seq (len - 22))
  if !s.armed || !s.flag a 14 || (count != 0 && decide (count ≤ n)) || !s.portTakes p || !(s.port p).txRoom b.length then s
  else
    let f : TxFrame := { bytes := b, prio := s.fld a 18 16, emit := none, stamp := none, bad := false, quick := false, sess := none }
    let t := s.tst
    let t := { t with fgSeq := mset t.fgSeq p ((seq + 1) % 2 ^ 32), fgSent := mset t.fgSent p (n + 1) }
    ((s.setTst t).txPush p f).bump (a + 8)

def execFgFrameSend (p : Fin 2) (s : State) : Out := s.onSv (fgSend p.val)

/-- A generator frame that reaches row 8 of Table 9-3 (R561). -/
def fgCheck (p : Nat) (raw : Bytes) (s : State) : State :=
  let a := fgBase p
  if !s.flag a 15 then s else
  let seq := beAt raw 14 4
  let n := raw.length - 22
  let want := mgetD s.tst.fgExpect p 0
  let s := if slice raw 18 n = padTo n (Config.fgPayload seq n) then s.bump (a + 0x10) else s.bump (a + 0x18)
  let s := if want < seq then s.bump (a + 0x20) (seq - want) else s
  s.setTst { s.tst with fgExpect := mset s.tst.fgExpect p ((seq + 1) % 2 ^ 32) }

/-! Self-test (R565 to R567). -/

/-- A target whose users have not stopped (R566). The lead engine is engine 0 of team 0. -/
def State.targetBusy (s : State) (t : Nat) : Bool :=
  if t < 8 then ((List.range 32).any fun i => !(t = 0 && decide (i < 4)) && (s.th (32 * t + i)).run)
  else if t = 8 ∨ t = 9 then s.flag rNoseCtl 0 else false

def rBistCtl : Nat := 0x10900030
def rBistStatus : Nat := 0x10900034

/-- Every slot and collar page goes as by KEY_ERASE_NOW (R567). -/
def State.eraseKeys (s : State) : State :=
  let s := (s.cph.slots.map (·.1)).foldl State.eraseNow s
  let s := (s.cph.collars.map (·.1)).foldl (fun s c => revokeJobs (4096 + c) s.cph.jobs s) s
  s.setCph { s.cph with slots := [], collars := [] }

/-- GO: targets in use fail with USER_ACTIVE and are not tested; the key store is emptied first. -/
def bistStart (targets : Nat) (s : State) : State :=
  let on := (List.range 15).filter (bit targets)
  let busy := on.filter s.targetBusy
  let s := (s.setTst { s.tst with bist := targets }).setFlag rBistCtl 31 true
  let s := s.wr rBistStatus ((busy.map (2 ^ ·)).sum + (if busy.isEmpty then 0 else 2 ^ 17))
  if on.contains 14 then s.eraseKeys else s

/-- TST_BIST_CTL is written: TARGETS holds what is written (R11), and GO starts a test unless one runs. -/
def bistWrite (targets : Nat) (go : Bool) (s : State) : State :=
  if !s.armed then s else
  let s := s.setFld rBistCtl 15 0 targets
  if go && !s.flag rBistCtl 31 then bistStart targets s else s

def bistGo (targets : Nat) (s : State) : State := bistWrite targets true s

/-- The poison marks of a range of lines of one space end with what stood there. -/
def State.cleanLines (s : State) (sp lo hi : Nat) : State :=
  s.setMem { s.mem with poison := s.mem.poison.filter fun (k : Nat × Nat) => !(k.1 == sp && decide (lo ≤ k.2) && decide (k.2 < hi)) }

/-- A tested target is left zeroed. Team stores are keyed as in `Mems`; the lead engine's own are not tested. -/
def State.zeroTarget (s : State) (t : Nat) : State :=
  if t < 8 then
    let e0 := if t = 0 then 1 else 8 * t
    let e1 := 8 * t + 8
    let s := { s with engines := s.engines.map fun (e : Nat × Engine) =>
      if e0 ≤ e.1 ∧ e.1 < e1 then (e.1, { e.2 with badData := [], badInsn := [] }) else e }
    let s := (s.cleanLines 0 (e0 * 0x800) (e1 * 0x800)).cleanLines 1 (t * 2 ^ 14) ((t + 1) * 2 ^ 14)
    s.setMem { s.mem with dstore := memZero s.mem.dstore (e0 * 0x20000) (e1 * 0x20000), istore := memZero s.mem.istore (e0 * 0x10000) (e1 * 0x10000),
                          team := memZero s.mem.team (t * 2 ^ 20) ((t + 1) * 2 ^ 20) }
  else if t = 8 ∨ t = 9 then
    let k := { s.ks with keys := s.ks.keys.map fun (r : KeyRec) => { r with nose := none } }
    (s.setKs k).setNose { s.nose with ents := [], cursors := [], hcurs := [], seqn := none, rsp := [] }
  else if t = 10 then (s.cleanLines 2 0 (2 ^ 32)).setMem { s.mem with vcache := [], poison := (s.cleanLines 2 0 (2 ^ 32)).mem.poison }
  else if t = 11 then s.setFt FetchSt.reset
  else if t = 12 then ((s.cleanLines 4 0 (2 ^ 32)).setPort 0 { s.port 0 with rx := [], txq := [], sending := none }).setPort 1 { s.port 1 with rx := [], txq := [], sending := none }
  else if t = 13 then s.setDrc { s.drc with chans := s.drc.chans.map fun (c : Nat × DChan) => (c.1, { c.2 with staging := [] }) }
  else if t = 14 then s.eraseKeys
  else s

/-- BIST_COMPLETE: the failing targets among those tested, and the first failing word. -/
def bistComplete (fail addr : Nat) (s : State) : State :=
  if !s.flag rBistCtl 31 then s else
  let busy := s.fld rBistStatus 15 0
  let tested := (List.range 15).filter fun t => bit s.tst.bist t && !bit busy t
  let bad := tested.filter (bit fail)
  let s := tested.foldl State.zeroTarget s
  let s := s.setFlag rBistCtl 31 false
  let s := s.wr rBistStatus (busy + (bad.map (2 ^ ·)).sum + 2 ^ 16 + (if busy = 0 then 0 else 2 ^ 17))
  if bad.isEmpty then s else s.wr 0x10900038 (addr % 2 ^ 28)

def execBistGo (targets : BitVec 15) (s : State) : Out := s.onSv (bistGo targets.toNat)
def execBistComplete (fail : BitVec 15) (addr : BitVec 28) (s : State) : Out := s.onSv (bistComplete fail.toNat addr.toNat)

/-! The test access port (R562 to R564). -/

/-- An instruction enters the instruction register. After a pin-driving one the functional state stays undefined until PORST_N
has been low with none in the register. -/
def State.tapIr (s : State) (ir : Nat) (t : Tap) : State :=
  if !s.power.aon then s else
  let t := { t with ir := ir }
  { s with jtag := t, corrupt := t.drives || (s.corrupt && s.power.porstHigh) }

/-- The update stage drives the cells. -/
def Tap.drive (t : Tap) : Tap := { t with driven := t.cells }

def execExtest (s : State) : Out := .next (s.tapIr 0 s.jtag.drive)
/-- IDCODE reads 0xB964_0C3D. -/
def execIdcode (s : State) : Out := .next { (s.tapIr 1 s.jtag) with readData := if s.power.aon then [0xB9640C3D] else [] }
/-- SAMPLE/PRELOAD: the pins' levels are captured, and the cells loaded. -/
def execSamplePreload (pins load : Bytes) (s : State) : Out :=
  .next { (s.tapIr 2 { s.jtag with cells := padTo 356 load }) with readData := if s.power.aon then (padTo 356 pins).map (·.toNat) else [] }
def execClamp (s : State) : Out := .next (s.tapIr 3 s.jtag.drive)
def execHighz (s : State) : Out := .next (s.tapIr 4 s.jtag)
def execExtestPulse (s : State) : Out := .next (s.tapIr 5 s.jtag.drive)
def execExtestTrain (s : State) : Out := .next (s.tapIr 6 s.jtag.drive)
/-- BYPASS, and every code not listed. -/
def execBypass (s : State) : Out := .next (s.tapIr 0xFF s.jtag)
/-- TRST_N low resets the test access port alone. -/
def execTrst (s : State) : Out :=
  .next (if s.power.aon then { s with jtag := Tap.reset, corrupt := s.corrupt && s.power.porstHigh } else s)

/-- MAC_RX_FRAME (R380): from the line in service; in a loopback of depth 1 to 3 the port receives what it sent itself, oldest first, and at
depth 4 nothing (R553). -/
def rxFrame (p : Nat) (raw : Bytes) (w : RxIn) (s : State) : State :=
  let x := s.port p
  if s.loopDepth p = 0 then macRxFrame p raw w fgCheck s
  else match x.looped with
    | (b, bad) :: t =>
      if s.loopDepth p < 4 ∧ raw.take (raw.length - 4) = b then
        macRxFrame p raw { w with good := w.good && !bad } fgCheck (s.setPort p { x with looped := t })
      else s
    | [] => s

def execMacRxFrame (p : Fin 2) (raw : Bytes) (w : RxIn) (s : State) : Out := s.onSv (rxFrame p.val raw w)

end Sys2Proof.Machine
end

