-- ==== Sys2Proof/Machine/Registers.lean ====
section
/-! DEFINITION. Reads and writes of the register map: the access codes (R10 to R16), the registers that show live state, and the
writes that start something. -/
namespace Sys2Proof.Machine

/-! What a register shows. -/

/-- PWR_STATUS (Table 11-11). MODE shows Test once the Keeper has seen it (R550). -/
def State.pwrStatus (s : State) : Nat :=
  let m := s.modeNow
  let shown := if m == .test && !s.power.testSeen then Mode.heel else m
  let b := fun (x : Bool) (i : Nat) => b2n x * 2 ^ i
  shown.code + 16 * s.power.prev.code + b s.power.svPgood 9 + b s.power.senseOk 10 + b s.power.warn 11 + b s.power.pfail 12 +
    b s.brace.done 13 + b s.brace.count.isSome 14 + b s.svPresent 15

def State.sysMode (s : State) : Nat :=
  s.modeNow.code + 16 * s.power.prev.code + (if s.power.fault then 256 * s.fld rPwrFault 7 0 else 0)

def wordOf (b : Bytes) (i : Nat) : Nat := leAt b (4 * i) 4

/-- UPD_ANCHORk: vendor anchors 0 to 3, then the operator's two. -/
def State.anchor (s : State) (k : Nat) : Bytes :=
  if k < 4 then Config.vendorAnchor k else if k = 4 then s.upd.fuses.opImage else s.upd.fuses.opHandler

def State.anchorWord (s : State) (a : Nat) : Nat := wordOf (s.anchor ((a - 0x40100) / 0x40)) ((a - 0x40100) % 0x40 / 4)

def State.liveOperator (s : State) (a : Nat) : Nat :=
  let busy := b2n s.power.reqBusy
  if a = 0x10004 then s.pwrStatus
  else if a = rPwrModeReq then setBits (s.rd a) 31 1 busy
  else if a = rPwrModeSt then setBits (s.rd a) 0 1 busy
  else if a = 0x20004 then s.fenStatus
  else if 0x20200 ≤ a ∧ a < 0x20240 then
    (match s.fence.toK with
      | p :: _ => wordOf (padTo 64 p.bytes) ((a - 0x20200) / 4)
      | [] => 0)
  else if a = rTrlStatus then s.rd a ||| s.trlStatusBits
  else if a = 0x30088 then s.trlShown.1
  else if 0x300A0 ≤ a ∧ a < 0x300C0 then wordOf s.trlShown.2 ((a - 0x300A0) / 4)
  else if 0x30100 ≤ a ∧ a < 0x30200 then
    (match s.trail.lastWords[(a - 0x30100) / 32]? with
      | some r => wordOf r.bytes ((a - 0x30100) % 32 / 4)
      | none => 0)
  else if a = 0x40004 then s.updStatus
  else if a = 0x4000C then s.probationLeft
  else if a = 0x40010 then (s.upd.claim.map fun (c : Claim) => c.next).getD 0
  else if a = 0x40014 then s.claimAge
  else if a = 0x40038 then s.updSvn
  else if a = 0x40044 then s.fuseStatus
  else if 0x40100 ≤ a ∧ a < 0x40280 then s.anchorWord a
  else if a = 0x58004 then setBits (s.rd a) 9 1 (b2n !s.keeper.i3cOut.isEmpty)
  else s.rd a

/-- The registers of the port at `b`. -/
def State.liveMac (s : State) (p a : Nat) : Nat :=
  let o := a - macBase p
  if o = 0x20 then s.macPaused p else if o = 0x3C then s.macCells p else if o = 0x608 then s.tsLevel p else s.rd a

def State.liveServing (s : State) (a : Nat) : Nat :=
  if a = 0x10000010 then s.sysMode
  else if a = 0x10000024 then s.cfgStatus
  else if a = 0x10003004 then s.dspStatus
  else if 0x10003100 ≤ a ∧ a < 0x10003200 then s.dspEng ((a - 0x10003100) / 4)
  else if a = 0x10100004 then
    setBits (setBits (s.rd a) 1 1 (b2n s.nose.seqn.isSome)) 3 1 (b2n s.flushNeeded)
  else if a = 0x10100014 then s.noseFill
  else if a = 0x10100018 then s.noseDirty
  else if a = 0x10200004 then s.nose.hcurs.length
  else if a = rDrcStatus then s.drcStatus
  else if a = 0x10300084 then s.drcHowl
  else if a = 0x10400004 then s.flcStatus
  else if 0x10500000 ≤ a ∧ a < 0x10501000 then s.liveMac 0 a
  else if 0x10600000 ≤ a ∧ a < 0x10601000 then s.liveMac 1 a
  else if a = 0x10700024 then s.slotInfo
  else if a = 0x10700028 then (s.slot (s.fld 0x10700020 11 0)).gen
  else if a = 0x10700034 then s.laneStatus
  else if a = rPckStatus then setBits (setBits (s.rd a) 8 3 s.packPos) 12 3 (packN s.cfg.active - 1)
  else s.rd a

/-- A 32-bit register as it stands. -/
def State.live (s : State) (a : Nat) : Nat := if a < 0x10000000 then s.liveOperator a else s.liveServing a

/-- A 64-bit register as it stands. -/
def State.live64 (s : State) (a : Nat) : Nat :=
  if a = 0x40020 then s.upd.active.version
  else if a = 0x40028 then s.upd.backup.version
  else if a = 0x40030 then s.upd.kennel.version
  else if a = 0x40300 then Config.mgtMac % 2 ^ 48
  else if a = 0x10500900 then s.phcNs % 2 ^ 64
  else s.c64 a

/-! Reads (R12, R14 to R16). -/

/-- A low-word read copies both words into the snapshot; it clears a clear-on-read counter. The PHC's also takes the fraction. -/
def State.snapshot (s : State) (clear : Bool) (a : Nat) : State :=
  let v := s.live64 a
  let c : Ctr := { value := if clear then 0 else s.c64 a, snap := v }
  let s := { s with csr := { s.csr with ctrs := mset s.csr.ctrs a c } }
  if a = 0x10500900 then s.wr 0x10500908 (s.phc % 2 ^ 32) else s

def State.snapOf (s : State) (a : Nat) : Nat := match mget s.csr.ctrs a with
  | some c => c.snap
  | none => 0

/-- The thread and the number of the engine CSR at address `a` of the team blocks (R34, R215). -/
def teamCsr (a : Nat) : Option (Nat × Nat) :=
  let o := a % 0x100000
  if 0x11000000 ≤ a ∧ a < 0x11800000 ∧ 0x10000 ≤ o ∧ o < 0x90000 then
    let e := (a - 0x11000000) / 0x100000 * 8 + (o / 0x10000 - 1)
    some (e * 4 + o % 0x10000 / 0x4000, o % 0x4000 / 4)
  else none

/-- A read of the register at `a`: its value, and the state with what the read clears and snapshots. -/
def State.readReg (s : State) (a : Nat) : Nat × State :=
  match lookupReg a with
  | some (r, b) =>
    if r.kind = .word then
      let m := rcMask r.flds 0
      (readFlds r.flds (s.live b) 0, if m = 0 then s else s.wr b ((s.rd b) &&& (2 ^ 32 - 1 - m)))
    else if a = b then (s.live64 b % 2 ^ 32, s.snapshot (r.kind == .ctr) b)
    else (s.snapOf b / 2 ^ 32, s)
  | none => match teamCsr a with
    | some (t, n) => ((s.csrGet t n).getD 0, s.csrTouch t n)
    | none => (0, s)

/-! Writes (R11, R13, R14). -/

/-- The bits a 64-bit register keeps. -/
def mask64 (a : Nat) : Nat :=
  if a = rTrlRdSeq then 2 ^ 48 - 1
  else if a = 0x50008 then 2 ^ 48 - 1
  else if a = 0x10500028 ∨ a = 0x10600028 ∨ a = 0x10700010 then 0xFFFFFFF000
  else 2 ^ 64 - 1

/-- A plain write under the access codes; a write to a read-only or 64-bit read-only register is ignored. -/
def State.plainWrite (s : State) (a v : Nat) : State :=
  match lookupReg a with
  | some (r, b) =>
    if r.kind = .word then s.wr b (r.afterWrite (s.rd b) v 0)
    else if r.kind = .rw64 then
      let old := s.c64 b
      s.setC64 b ((if a = b then setBits old 0 32 v else setBits old 32 32 v) &&& mask64 b)
    else s
  | none => match teamCsr a with
    | some (t, n) => s.csrPutOutside t n v
    | none => s

/-- PWR_CTL (Table 11-10). -/
def State.writePwrCtl (s : State) (i : WriteIn) (v : Nat) : State :=
  let s := s.setFlag rPwrCtl 2 (bit v 2)
  let s := if bit v 3 then pwrLock s else s
  let was := s.flag rPwrCtl 0
  let s := if bit v 0 == was then s else if bit v 0 then svPwrEnSet s else svPwrEnClear s
  let down := was && !s.flag rPwrCtl 0
  let s := if bit v 1 then (if s.flag rPwrCtl 1 then s else svResetSet s) else if down then s else svResetClear s
  if bit v 4 then s.fullReset 4 i.rom else s

/-- PWR_WARN and PWR_RESET (R468, R471); the Keeper sends the levels in force to the serving plane. -/
def State.writeLevels (s : State) (a v : Nat) : State :=
  let t := s.plainWrite a v
  let w := t.fld rPwrWarn 11 0
  let r := t.fld rPwrReset 11 0
  let ok := fun (x : Nat) => decide (200 ≤ x) && decide (x ≤ 1150)
  if s.flag rPwrCtl 3 || !(ok w && ok r && decide (r + 50 ≤ w)) then s
  else if s.keeper.running then t.keeperSend 0x31 false 0 (leBytes 2 w ++ leBytes 2 r) else t

/-- TRL_APP_GO (R592). -/
def appGo (s : State) : State :=
  let h := s.rd 0x30040
  let args := (List.range 4).flatMap fun i => leBytes 4 (s.rd (0x30050 + 4 * i))
  s.keeperAppend (bits h 0 16) (bits h 16 7) (s.c64 0x30048) (s.rd 0x30044) args

/-- TRL_WALL is written low word first; the high word's write loads both (R521). -/
def State.writeWall (s : State) (a v : Nat) : State :=
  if a = rTrlWall then s.wr rTrlWall v else trailWallWrite (v * 2 ^ 32 + s.rd rTrlWall) s

/-- A register of the operator plane. -/
def State.writeOperator (s : State) (i : WriteIn) (a v : Nat) : State :=
  if a = 0x10 then
    let t := s.plainWrite a v
    if t.flag a 31 && !s.flag a 31 then t.setKeeper { t.keeper with kickAt := t.now } else t
  else if a = 0x14 then s.setKeeper { s.keeper with kickAt := s.now }
  else if a = 0x200 then
    let t := s.plainWrite a (setBits v 0 1 0)
    if bit v 0 then norLoop t else t
  else if a = rPwrCtl then s.writePwrCtl i v
  else if a = rPwrModeReq then
    if bit v 31 then s.request (bits v 0 4) (bits v 4 4) (bits v 8 4) else s.plainWrite a v
  else if a = rPwrWarn ∨ a = rPwrReset then s.writeLevels a v
  else if a = 0x10018 then (if s.flag rPwrCtl 3 then s else s.plainWrite a v)
  else if a = 0x20040 then fenTxPush s
  else if a = 0x20044 then fenRxPop s
  else if a = rTrlCtl then
    let t := s.plainWrite a (setBits v 2 1 0)
    if bit v 2 then trailNorRetry i.nor t else t
  else if a = 0x30060 then appGo s
  else if a = rTrlWall ∨ a = rTrlWall + 4 then s.writeWall a v
  else if a = rTrlRdSeq ∨ a = rTrlRdSeq + 4 then
    let t := s.plainWrite a v
    trailLookup (t.c64 rTrlRdSeq) i.ecc t
  else if a = 0x40000 then
    let s := if bit v 0 then updConfirm i.nor s else s
    let s := if bit v 1 then updAbort s else s
    if bit v 2 then updFuseNow i.nor s else s
  else if a = 0x40040 then (if bit v 31 then fuseCommand (bits v 0 4) (bits v 4 2) s else s)
  else if 0x40080 ≤ a ∧ a < 0x400B0 then s.setUpd { s.upd with fuseData := mset s.upd.fuseData ((a - 0x40080) / 4) v }
  else if a = 0x50030 then mgtLoop (bits v 0 3) (bits v 8 8) s
  else if a = 0x50034 then
    if !s.testShown then s
    else
      let t := prbsRetune 36 (s.rd a) (s.plainWrite a (setBits v 16 1 0))
      if bit v 16 then prbsInject 36 t else t
  else s.plainWrite a v

/-! The serving plane. -/

/-- DRC_TRAIN: windows open and close (R354, R360). -/
def State.writeTrain (s : State) (v : Nat) : State :=
  let s := s.setFlag rTrain 16 (bit v 16)
  let old := s.fld rTrain 7 0
  let chs := List.range 8
  if s.flag rFspCtl 31 && chs.any (fun c => bit v c && !bit old c) then s
  else
    let step := fun (s : State) (c : Nat) =>
      if bit v c && !bit old c then trainOpen c s
      else if !bit v c && bit old c then trainClose c (bit v 16) s else s
    chs.foldl step s

def State.writeDrc (s : State) (a v : Nat) : State :=
  if a = rDrcCtl then
    let sr := s.flag rDrcCtl 3
    let t := s.plainWrite a (setBits v 3 1 (b2n sr))
    if bit v 3 && !sr then selfRefreshEnter t else if !bit v 3 && sr then selfRefreshExit t else t
  else if a = rDrcMap then (if s.flag rDrcCtl 0 then s else s.plainWrite a v)
  else if a = rFspCtl then
    if bit v 31 then fspChange (bits v 0 2) s else s.plainWrite a v
  else if a = rTrain then s.writeTrain v
  else if a = 0x10300024 then trainCmd (bits v 0 3) (bits v 3 1) (bits v 4 3) (bits v 8 8) (bits v 16 8) s
  else if a = rQos then
    let t := s.plainWrite a v
    if t.fld rQos 31 24 < t.fld rQos 23 16 then t else s
  else if 0x10301000 ≤ a ∧ a < 0x10309000 ∧ a % 0x1000 < 0x300 then (if s.delayWritable a then s.plainWrite a v else s)
  else s.plainWrite a v

/-- FLC_CH_CFG: a change of MODE or RATE starts the interface again (R294). -/
def State.writeFlc (s : State) (a v : Nat) : State :=
  let t := s.plainWrite a v
  if 0x10400100 ≤ a ∧ a < 0x10400200 ∧ a % 16 = 0 ∧ bits (t.rd a) 0 6 ≠ bits (s.rd a) 0 6 then
    let ch := (a - 0x10400100) / 16
    let l := if t.st.initing.contains ch then t.st.initing else t.st.initing ++ [ch]
    (t.setSt { t.st with initing := l }).setFlag 0x10400004 0 false
  else t

/-- The admin registers of the gate list, which hold while COMMIT is 1 (R403). -/
def gateAdmin (o : Nat) : Bool := o == 0x304 || o == 0x308 || o == 0x310 || o == 0x314 || decide (0x400 ≤ o ∧ o < 0x500)

/-- The block of port `p`. -/
def State.writeMac (s : State) (p a v : Nat) : State :=
  let o := a - macBase p
  if o = 0 then
    let t := s.plainWrite a v
    let part := fun (x : Nat) => (bits x 0 1, bits x 3 7)
    if part (t.rd a) = part (s.rd a) then t else linkRestart p t
  else if o = 0x38 then rxFree p (bits v 0 23) s
  else if o = 0x200 then
    if s.flag a 31 then s
    else if bit v 31 then
      (moduleStart p (bits v 0 8) (bits v 16 8) (bits v 24 3 + 1) (bit v 29) (bit v 30) s).setFld a 15 8 (bits v 8 8)
    else s.plainWrite a v
  else if o = 0x300 then
    let s := gateEntryChange p (s.setFlag a 0 (bit v 0))
    let s := if bit v 1 then tgCommit p s else s
    if bit v 2 then tgCancel p s else s
  else if s.flag (macBase p + 0x300) 1 && gateAdmin o then s
  else if a = 0x10500918 then (if bit v 0 then phcStep s else s)
  else s.plainWrite a v

/-- PCK_CTL: ENABLE starts the transmitters or stops them. -/
def State.writePck (s : State) (a v : Nat) : State :=
  let t := s.plainWrite a v
  if a = rPckCtl ∧ t.flag a 0 = true ∧ s.flag a 0 = false then packEnable t
  else if a = rPckCtl ∧ t.flag a 0 = false ∧ s.flag a 0 = true then (t.setFld rPckStatus 6 0 0).ringLost
  else t

/-- The test unit: nothing is written while it is not armed (R550). -/
def State.writeTst (s : State) (a v : Nat) : State :=
  if !s.armed then s
  else if a = 0x10900010 ∨ a = 0x10900014 then netLoop ((a - 0x10900010) / 4) (bits v 0 3) s
  else if a = 0x10900018 then (List.range 4).foldl (fun (s : State) (l : Nat) => pckLoop l (bits v (4 * l) 3) s) s
  else if a = 0x1090001C then dramLoop v s
  else if a = 0x10900020 then flashLoop v s
  else if a = rBistCtl then bistWrite (bits v 0 16) (bit v 31) s
  else if a = 0x10900100 ∨ a = 0x10900140 then
    let p := (a - 0x10900100) / 0x40
    let t := s.plainWrite a v
    if t.flag a 14 && !s.flag a 14 then t.setTst { t.tst with fgSeq := mset t.tst.fgSeq p 0, fgSent := mset t.tst.fgSent p 0 } else t
  else if 0x10901000 ≤ a ∧ a < 0x10901900 ∧ a % 0x40 = 0 then
    let l := (a - 0x10901000) / 0x40
    let t := prbsRetune l (s.rd a) (s.plainWrite a (setBits v 16 1 0))
    if bit v 16 then prbsInject l t else t
  else s.plainWrite a v

/-- A register of the serving plane. -/
def State.writeServing (s : State) (a v : Nat) : State :=
  if a = 0x10003008 then roleAssign (bits v 16 6) (bits v 0 4) s
  else if a = 0x10003010 then (sessionRelease (bits v 0 16) s).commitRelease
  else if a = rRtvCtl ∧ s.power.base = .test then s.plainWrite a (setBits v 0 1 0)
  else if a = rNoseLeash then (s.plainWrite a v).setLeash s.nose.lvlTemp
  else if 0x10300000 ≤ a ∧ a < 0x10400000 then s.withSit fun s => s.writeDrc a v
  else if 0x10400000 ≤ a ∧ a < 0x10500000 then s.writeFlc a v
  else if 0x10500000 ≤ a ∧ a < 0x10600000 then s.writeMac 0 a v
  else if 0x10600000 ≤ a ∧ a < 0x10700000 then s.writeMac 1 a v
  else if a = 0x10700010 ∨ a = 0x10700014 then (if s.flag rCphCtl 3 then s else s.plainWrite a v)
  else if a = rCphPool then
    let t := s.plainWrite a v
    if t.fld a 11 0 + t.fld a 28 16 ≤ 4096 then t else s
  else if 0x10800000 ≤ a ∧ a < 0x10900000 then s.writePck a v
  else if 0x10900000 ≤ a ∧ a < 0x10A00000 then s.writeTst a v
  else s.plainWrite a v

/-- A write of `v` to the register at `a`. -/
def State.writeReg (s : State) (i : WriteIn) (a v : Nat) : State :=
  if a < 0x10000000 then s.writeOperator i a v else s.track (s.writeServing a v)

/-! Commands. -/

/-- REGISTER_WRITE (R11, R13): by the Keeper to its own plane, by an engine to the serving plane. -/
def execRegisterWrite (i : WriteIn) (a v : Word) (s : State) : Out :=
  let f := fun (s : State) => if a.toNat % 4 = 0 then s.writeReg i a.toNat v.toNat else s
  if a.toNat < 0x10000000 then s.onOp f else s.onSv f

/-- A read of the register at `a`, its value left in `readData`. -/
def State.readInto (s : State) (a : Nat) : State :=
  let r := s.readReg a
  { r.2 with readData := [r.1] }

def readCmd (a : Nat) (p : Reg → Nat → Bool) (s : State) : Out :=
  let f := fun (s : State) => match lookupReg a with
    | some (r, b) => if p r b then s.readInto a else s
    | none => s
  if a < 0x10000000 then s.onOp f else s.onSv f

/-- RC_READ (R12): a register with clear-on-read bits. -/
def execRcRead (a : Word) (s : State) : Out := readCmd a.toNat (fun r _ => r.kind = .ctr || rcMask r.flds 0 != 0) s
/-- COUNTER_LOW_READ (R15, R16). -/
def execCounterLowRead (a : Word) (s : State) : Out := readCmd a.toNat (fun r b => r.kind != .word && a.toNat == b) s
/-- COUNTER_HIGH_READ (R15). -/
def execCounterHighRead (a : Word) (s : State) : Out := readCmd a.toNat (fun r b => r.kind != .word && a.toNat == b + 4) s

/-- Where IORD and IOWR may reach (R224): a multiple of 4 below 2^32. -/
def ioTrap (a : Nat) : Option Nat := if a % 4 ≠ 0 then some cMISALIGN else if 2 ^ 32 ≤ a then some cACCESS else none

/-- IORD (R224): an address of the operator plane reads as unassigned (R27). -/
def execIord (t : Fin 256) (rd rs1 : Fin 32) (imm : Half) (s : State) : Out :=
  onThread t (encI 0x30 rd rs1 imm.toNat) false (fun s h =>
    let a := (h.g rs1 + sext16 imm).toNat
    match ioTrap a with
    | some c => .trap c 0 a
    | none =>
      if a < 0x10000000 then .next (wrG s t rd 0)
      else
        let r := s.readReg a
        .next (wrG r.2 t rd (BitVec.ofNat 64 r.1))) s

/-- IOWR (R224): a write below 0x1000_0000 is ignored (R27). -/
def execIowr (t : Fin 256) (rs2 rs1 : Fin 32) (imm : Half) (s : State) : Out :=
  onThread t (encI 0x31 rs2 rs1 imm.toNat) false (fun s h =>
    let a := (h.g rs1 + sext16 imm).toNat
    match ioTrap a with
    | some c => .trap c 0 a
    | none => .next (if a < 0x10000000 then s else s.track (s.writeServing a ((h.g rs2).toNat % 2 ^ 32)))) s

end Sys2Proof.Machine
end

