-- ==== Sys2Proof/Machine/KeeperCmds.lean ====
section
/-! DEFINITION. The Keeper's commands: its channels, the Fence queues as registers, diagnostics reads, the Trail's clocked events
and the forwarding of image operations (chapters 12 to 14). -/
namespace Sys2Proof.Machine

/-- MGT_RX_FRAME (R415): the ring takes the frame, and the Keeper reads its ring. -/
def execMgtRxFrame (raw : Bytes) (good : Bool) (s : State) : Out := s.onOp fun s => (mgtRxFrame raw good s).keeperGo

/-! Keeper-local messages (R485, Table 12-8). `i3c`: the 64 bytes of an I3C private write that brings the message; none where it
stands at the front of the Keeper's inbox. -/

def State.i3cIn (s : State) (i3c : Option Bytes) : State := match i3c with
  | some b => s.i3cWrite b
  | none => s

def readMany : Nat → Nat → State → Bytes × State
  | 0, _, s => ([], s)
  | n + 1, a, s =>
    let r := if a < 0x10000000 then s.readReg a else (0, s)
    let t := readMany n (a + 4) r.2
    (leBytes 4 r.1 ++ t.1, t.2)

/-- KEEPER_RD: a COUNT outside 1 to 10 is DENIED (log entry 29). -/
def keeperRd (i3c : Option Bytes) (s : State) : State :=
  let s := s.i3cIn i3c
  match s.takeOwn 0x80 with
  | none => s
  | some (m, s) =>
    let a := leAt m.data 0 4
    let n := byteAt m.data 4
    let s := if n = 0 ∨ 10 < n then s.keeperReply m.src m.tag 1 a [] else
      let r := readMany n a s
      r.2.keeperReply m.src m.tag 0 a r.1
    s.keeperGo

/-- KEEPER_WR: the write acts as a Keeper write; an address of the serving plane is unassigned (R27). -/
def keeperWr (i : WriteIn) (i3c : Option Bytes) (s : State) : State :=
  let s := s.i3cIn i3c
  match s.takeOwn 0x81 with
  | none => s
  | some (m, s) =>
    let a := leAt m.data 0 4
    let s := s.keeperReply m.src m.tag 0 a []
    let s := if a < 0x10000000 then s.writeReg i a (leAt m.data 4 4) else s
    s.keeperGo

/-- KEEPER_CFG (R499): the record is persisted; the reply waits for it. -/
def keeperCfg (i3c : Option Bytes) (s : State) : State :=
  let s := s.i3cIn i3c
  match s.takeOwn 0x82 with
  | none => s
  | some (m, s) => (s.setCfg { s.cfg with persisting := s.cfg.persisting ++ [.record (m.data.take 64) m.src m.tag] }).keeperGo

def execKeeperRd (i3c : Option Bytes) (s : State) : Out := s.onOp (keeperRd i3c)
def execKeeperWr (i : WriteIn) (i3c : Option Bytes) (s : State) : Out := s.onOp (keeperWr i i3c)
def execKeeperCfg (i3c : Option Bytes) (s : State) : Out := s.onOp (keeperCfg i3c)

/-- I3C_PRIVATE_READ (R488): the next reply of 64 bytes, or one 0x00; on SMBus its packet error code follows. -/
def i3cRead (s : State) : State :=
  if !s.flag 0x58000 0 then s else
  match s.keeper.i3cOut with
  | b :: t => { s.setKeeper { s.keeper with i3cOut := t } with readData := (s.withPec true (padTo 64 b)).map (·.toNat) }
  | [] => { s with readData := (s.withPec true [0]).map (·.toNat) }
def execI3cPrivateRead (s : State) : Out := s.onOp i3cRead

/-- I3C_DYNAMIC_ADDRESS (R488): by ENTDAA or SETDASA, on an I3C bus. -/
def execI3cDynamicAddress (da : BitVec 7) (s : State) : Out :=
  s.onOp fun s => if s.flag 0x58000 0 && !s.flag 0x58000 1 then (s.setFld 0x58004 6 0 da.toNat).setFlag 0x58004 7 true else s

/-- WDOG_KICK (R475). -/
def execWdogKick (s : State) : Out := s.onOp fun s => s.setKeeper { s.keeper with kickAt := s.now }

/-! The Fence queues (R478 to R482). -/

/-- NAK (R482): the receiver discards the bad message at its front; where a NAK stands there instead, the Keeper hands it to the
channel that asked and the lead engine discards it. `ecc`: a word of the front message is uncorrectable, and whether its type can be read. -/
def nak (atKeeper : Bool) (ecc : Option Bool) (s : State) : State :=
  if ecc.isSome then fenceNak atKeeper ecc s
  else if atKeeper then
    match s.takeK 0x7E with
    | some (m, s) => s.relay m
    | none => fenceNak true none s
  else match s.takeLead 0x7E with
    | some (_, s) => s
    | none => fenceNak false none s
def execNak (atKeeper : Bool) (ecc : Option Bool) (s : State) : Out :=
  if atKeeper then s.onOp (nak true ecc) else s.onSvM fun s => (nak false ecc s).bringUpNext

def execFenTxPush (s : State) : Out := s.onOp fenTxPush
def execFenRxPop (s : State) : Out := s.onOp fenRxPop
def execFenceHoldTimeout (s : State) : Out := s.onAny fenceHoldTimeout

/-! Diagnostics reads (R492). -/

def inRanges (l : List (Nat × Nat)) (a : Nat) : Bool := l.any fun r => decide (r.1 ≤ a) && decide (a ≤ r.2)

/-- Table 12-9. -/
def diagRanges : List (Nat × Nat) :=
  [(0x10000000, 0x100001FF), (0x10002000, 0x1000204F), (0x10003000, 0x1000341F), (0x10005000, 0x10005057), (0x10006000, 0x100060FF),
   (0x10100000, 0x1010025F), (0x10200000, 0x1020057F), (0x10300000, 0x1030003F), (0x10300080, 0x10308FFF), (0x10400000, 0x104004FF),
   (0x10500000, 0x10500FFF), (0x10600000, 0x10600FFF), (0x10700000, 0x107001FF), (0x10800000, 0x10800FFF)]

def diagAllowed (a : Nat) : Bool :=
  let o := a % 0x100000
  inRanges diagRanges a ||
    (decide (0x11000000 ≤ a) && decide (a < 0x11800000) &&
      (decide (o < 0x1000) || (decide (0x10000 ≤ o) && decide (o < 0x90000) && decide (o % 0x4000 < 0x100))))

/-- A word as it stands, with nothing cleared and no snapshot but the read's own. -/
def State.peek (s : State) (a : Nat) : Nat :=
  match lookupReg a with
  | some (r, b) =>
    if r.kind = .word then readFlds r.flds (s.live b) 0
    else if a = b then s.live64 b % 2 ^ 32 else s.live64 b / 2 ^ 32
  | none => match teamCsr a with
    | some (t, n) =>
      if n = 0x031 then (s.en (engineOf t)).cycles / 2 ^ 32 % 2 ^ 32
      else if n = 0x033 then (s.th t).issued / 2 ^ 32 % 2 ^ 32
      else (s.csrGet t n).getD 0
    | none => 0

/-- DIAG_READ: a COUNT outside 1 to 10, or an ADDR that is no multiple of 4, is DENIED_ADDR (log entry 29). -/
def diagRead (s : State) : State :=
  match s.takeS 0x50 with
  | none => s
  | some (m, s) =>
    let a := leAt m.data 0 4
    let n := byteAt m.data 4
    let words := (List.range n).map fun i => a + 4 * i
    let data := fun (st : Nat) (b : Bytes) => leBytes 1 st ++ leBytes 1 n ++ zeros 2 ++ leBytes 4 a ++ padTo 40 b
    let answer := fun (st : Nat) (b : Bytes) => s.toKeeper 0x51 true m.tag (data st b)
    if n = 0 ∨ 10 < n ∨ a % 4 ≠ 0 ∨ words.all diagAllowed = false then answer 1 []
    else if !s.svUp then answer 2 []
    else answer 0 (words.flatMap fun w => leBytes 4 (s.peek w))
def execDiagRead (s : State) : Out := s.onAny fun s => if s.svPresent then diagRead s else s

/-! Image operations of operator sessions (R139, R531). -/

/-- The lead engine forwards frame `id`'s IMAGE operation. -/
def imageForward (id : Nat) (s : State) : State :=
  match s.turn id opImage with
  | none => s
  | some (f, x, op) =>
    if !isOperator x then s.opDone id (resOf op stDENIED 0 [] 0)
    else if f.ops.length ≠ 1 ∨ op.ns ≠ 0 ∨ op.key ≠ [] then s.opDone id (resOf op stMALFORMED 0 [] 0)
    else
      let d := leBytes 2 f.sess ++ zeros 2 ++ leBytes 4 f.seq ++ leBytes 8 op.arg ++ leBytes 2 op.val.length ++ zeros 6 ++ op.val
      (s.toKeeper 0x70 false 0 d).updFrame id fun f => { f with waits := some 4 }

/-- The Keeper takes IMAGE_FWD in the order it reaches it (R533). -/
def imageFwdTaken (s : State) : State :=
  match s.takeK 0x70 with
  | none => s
  | some (m, s) =>
    let src : OpSrc := { chan := 2, addr := [], port := 0, sess := leAt m.data 0 2, seq := leAt m.data 4 4 }
    let o : OpMsg := { src := src, typ := 0x70, tag := m.tag, arg := leAt m.data 8 8, data := slice m.data 24 (leAt m.data 16 2) }
    (s.setKeeper { s.keeper with inbox := s.keeper.inbox ++ [o] }).keeperGo

/-- IMAGE_FWD: `frame` where the lead engine sends it, none where the Keeper takes it. -/
def execImageFwd (frame : Option Nat) (s : State) : Out := match frame with
  | some id => s.onSv (imageForward id)
  | none => s.onOp imageFwdTaken

/-- IMAGE_REPLY: the lead engine answers the operation that waits for it. -/
def imageReply (s : State) : State :=
  match s.takeLead 0x71 with
  | none => s
  | some (m, s) =>
    let sid := leAt m.data 0 2
    let seq := leAt m.data 4 4
    match s.ft.frames.find? fun e => e.2.sess = sid && e.2.seq = seq && e.2.waits == some 4 && e.2.isClient with
    | none => s
    | some (id, f) => match f.op with
      | some op => s.opDone id (resOf op (byteAt m.data 8) (leAt m.data 16 8) (slice m.data 32 (leAt m.data 24 2)) 0)
      | none => s
def execImageReply (s : State) : Out := s.onSv imageReply

/-! The Trail (R505 to R520). `ok`: the NOR takes the program or erase. -/

def execTrlAppGo (s : State) : Out := s.onOp appGo
def execEventClose (s : State) : Out := s.onOp trailEventClose
def execTrailPageProgram (ok : Bool) (s : State) : Out := s.onOp fun s => if s.norFree then trailPageProgram ok s else s
def execTrailHalfErase (ok : Bool) (s : State) : Out := s.onOp fun s => if s.norFree then trailHalfErase ok s else s
def execTrailScrub (e : Ecc) (addr : BitVec 19) (s : State) : Out := s.onOp fun s => s.ringRead e addr.toNat
def execTrailLookup (seq : BitVec 48) (e : Ecc) (s : State) : Out := s.onOp (trailLookup seq.toNat e)
def execTrailLookupDone (s : State) : Out := s.onOp fun s => if s.norFree then trailLookupDone s else s
def execTrlWallWrite (v : DWord) (s : State) : Out := s.onOp (trailWallWrite v.toNat)
def execNorRetry (ok : Bool) (s : State) : Out := s.onOp (trailNorRetry ok)
/-- ALARM_CLEAR (R520): the W1C of TRL_STATUS.ALARM. -/
def execAlarmClear (s : State) : Out := s.onOp fun s => s.setFlag rTrlStatus 2 false

end Sys2Proof.Machine
end

