-- ==== Sys2Proof/Machine/Fetch.lean ====
section
/-! DEFINITION. Fetch frames from the port to the response: acceptance (R96 to R105), Retriever (R185 to R188), intake messages
(R250, R251), restores (R431), responses and replays (R106 to R110, R129, R137), REKEY and CLOSE (R111 to R114), the dispatcher's
commands, and FEMIT (R232). -/
namespace Sys2Proof.Machine

/-! Steps 1 to 4 of Table 3-5. -/

/-- What steps 1 to 4 make of a frame: a drop and its counter, a saved session, or the session and the operation bytes, verified
under CUR or (`old`) under SHADOW. -/
inductive Verify
  | drop (counter : Nat)
  | saved (sid : Nat)
  | pass (sid : Nat) (u : Parsed) (plain : Bytes) (old : Bool)
deriving DecidableEq, Repr

def cDropHdr : Nat := 0x10002008
def cDropSession : Nat := 0x10002010
def cAuthFail : Nat := 0x10002018
/-- Frames that passed step 4; an old-key frame passes it where R112 answers it. -/
def cRxFrames : Nat := 0x10002000
def cReplays : Nat := 0x10002020
def cStale : Nat := 0x10002028

/-- R393: the tags a session's requests must carry. -/
def tagsOk (x : Session) (raw : Bytes) : Bool :=
  let m := byteAt x.link 0
  let vid := fun (v : Nat) => v % 4096
  !bit (byteAt x.link 6) 0 || m == 3 ||
    (rawTags raw == m &&
      (m == 0 || (vid (beAt raw 14 2) == vid (leAt x.link 2 2) && (m != 2 || vid (beAt raw 18 2) == vid (leAt x.link 4 2)))))

/-- The tag verifies under CUR, or within REKEY_GRACE_MS under SHADOW (R108, R109, R432). -/
def openFetch (k : Slot) (seq : Nat) (hdr ct : Bytes) : Option (Bytes × Bool) :=
  let dec := fun (m : KMat) => Config.gcmDec m.key (reqNonce (padTo 4 m.salt) seq) hdr ct
  if k.erasing ∨ ct.length < 16 then none
  else match k.cur.bind dec with
    | some b => some (b, false)
    | none => if k.grace then (k.shadow.bind fun (m : KMat × Nat) => dec m.1).map fun b => (b, true) else none

def State.verify (s : State) (raw : Bytes) : Verify :=
  match parseUdp raw with
  | none => .drop cDropHdr
  | some u =>
    let b := u.payload
    if u.dstPort ≠ s.proto 0 2 ∨ (s.isPortAddr 0 u.dstIp || s.isPortAddr 1 u.dstIp) = false then .drop cDropHdr
    else if b.length < 32 ∨ byteAt b 0 ≠ 1 ∨ bit (byteAt b 1) 0 = true ∨ beAt b 6 2 ≠ b.length then .drop cDropHdr
    else
      let sid := beAt b 4 2
      match s.sess sid with
      | none => .drop cDropSession
      | some x =>
        if x.closing ∨ u.srcIp ≠ x.addr ∨ u.srcPort ≠ x.port ∨ bit (byteAt b 1) 1 ≠ (x.cipher != 0) ∨ tagsOk x raw = false then .drop cDropSession
        else if x.cipher = 0 then .pass sid u (b.drop 32) false
        else match x.slot with
          | none => .saved sid
          | some n => match openFetch (s.slot n) (beAt b 8 4) (b.take 32) (b.drop 32) with
            | some (plain, old) => .pass sid u plain old
            | none => .drop cAuthFail

/-- A request passes step 4 by port `p`: its tags are kept for the answers (Table 9-5), and LEARN writes its source address into the DMAC of
the port (R393). -/
def learn (p : Nat) (raw : Bytes) (x : Session) : Session :=
  let x := { x with tags := mset x.tags p (slice raw 12 (4 * rawTags raw)) }
  if bit (byteAt x.link 6) 2 then { x with link := patch x.link (8 + 6 * p) (slice raw 6 6) } else x

/-! Steps 5 to 7 (R99, R102 to R105, R132). -/

def segWrite (o : OpReq) : Bool := bit o.flags 4 && (o.opcode == 2 || o.opcode == 4 || o.opcode == 6 || o.opcode == 0x0B || o.opcode == 0x31)
def soleOp (o : OpReq) : Bool := segWrite o || o.opcode == 0x10 || o.opcode == 0x20 || o.opcode == 0x21

/-- The operations where step 6 passes. -/
def tiled (count : Nat) (plain : Bytes) : Option (List OpReq) :=
  if count = 0 ∨ 32 < count then none
  else match parseOps 33 count plain with
    | some ops => if ops.length ≠ 1 && ops.any soleOp then none else some ops
    | none => none

/-- Where SEQ stands (step 5): a refusal, a number already executed or skipped, one that may execute, one above H + 1. -/
inductive SeqAt | refuse (st : Nat) | executed | skipped | go | above
deriving DecidableEq, Repr

def Session.seqAt (x : Session) (seq : Nat) (ops : Option (List OpReq)) : SeqAt :=
  let last := match ops with
    | some [o] => o.opcode == 0x20 || o.opcode == 0x21
    | _ => false
  if seq = 0 then .refuse stMALFORMED
  else if seq + 256 ≤ x.h then .refuse stSTALE
  else if x.done.contains seq then .executed
  else if x.skipped.contains seq then .skipped
  else if x.h + 256 < seq then .refuse stRETRY
  else if seq = 0xFFFFFFFF ∧ last = false then .refuse stREKEYREQ
  else if seq ≤ x.h + 1 then .go else .above

/-- SEQ is marked executed and H advances; what leaves the window goes (R107, R596). -/
def State.markDone (s : State) (sid seq : Nat) : State :=
  match s.sess sid with
  | none => s
  | some x =>
    let h := max x.h seq
    let cut := fun (l : List Nat) => l.filter fun n => decide (h < n + 256)
    let s := s.updSess sid fun x => { x with h := h, done := cut (seq :: x.done.filter (· != seq)), skipped := cut x.skipped, refused := cut (x.refused.filter (· != seq)) }
    s.setFt { s.ft with replays := s.ft.replays.filter fun (r : Replay) => r.sess != sid || decide (h < r.seq + 256) || x.old.any fun o => o.gen == r.gen }

/-! Sending (R93, R108 to R110, R391, R397). -/

/-- A session's frame around a payload by port `p`, by the addresses of the request. -/
def frameFor (x : Session) (raw payload : Bytes) : Nat → Bytes → Bytes → Bytes := fun p dmac smac =>
  match parseUdp raw with
  | some u => buildUdp dmac smac (sessTagBytes x p) u.v6 u.dstIp u.srcIp u.dstPort u.srcPort u.dscp payload
  | none => payload

/-- The material a session's frames use: none where it has lost its key, or its slot is being erased (R114). -/
def State.txKey (s : State) (sid : Nat) (x : Session) : Option KMat :=
  if x.cipher = 0 then some { key := [], salt := [] }
  else if (x.slot.any fun n => (s.slot n).erasing) = true then none else (s.sessKey sid x).map (·.1)

def State.genOf (s : State) (sid : Nat) (x : Session) : Nat := if x.cipher = 0 then 0 else ((s.sessKey sid x).map (·.2)).getD 0

/-- REKEY_REQUIRED (R105, R110). -/
def rekeyFlag (h counter : Nat) : Nat := if 0xFFFF0000 ≤ h ∨ 0x80000000 ≤ counter then 8 else 0

/-- One Fetch frame to send: its header's fields and result bytes. -/
structure Reply where
  raw : Bytes
  port : Nat
  flags : Nat
  count : Nat
  status : Nat
  seq : Nat
  tag : Nat
  body : Bytes
  bad : Bool
  quick : Bool
deriving DecidableEq, Repr

/-- Does a session's frame named for port `p` leave the device (R397)? -/
def State.leaves (s : State) (p : Nat) (x : Session) : Bool := s.portTakes p || (x.steers p && s.portTakes (other p))

/-- A response with a FRAME_STATUS other than OK is counted as it is sent (R142). -/
def State.countRefused (s : State) (p : Nat) (x : Session) (status : Nat) : State :=
  if status ≠ stOK ∧ s.leaves p x = true then s.bump 0x10002048 else s

/-- Build and queue a frame under the material and counter given. -/
def State.emitFetch (s : State) (sid : Nat) (x : Session) (k : KMat) (counter : Nat) (r : Reply) (job : Option Nat) : State :=
  let status := if counter = 0xFFFFFFFF then stEXHAUSTED else r.status
  let flags := r.flags ||| rekeyFlag x.h counter
  let payload := sealFetch x.cipher k.key (padTo 4 k.salt) flags r.count status sid r.seq counter r.tag r.body
  let f : TxFrame := { bytes := [], prio := byteAt x.link 1 % 8, emit := job, stamp := none, bad := r.bad, quick := r.quick, sess := some sid }
  (s.countRefused r.port x status).txSession r.port x (frameFor x r.raw payload) (slice r.raw 6 6) f

/-- Send a frame of a session with its next transmit counter; the last one closes the session (R110). -/
def State.sendFetch (s : State) (sid : Nat) (r : Reply) : State :=
  match s.sess sid with
  | none => s
  | some x => if x.gone then s else
    match s.txKey sid x with
    | none => s
    | some k =>
      let s := s.updSess sid fun x => { x with tx := x.tx + 1 }
      let s := s.emitFetch sid x k x.tx r none
      if x.tx = 0xFFFFFFFF then s.closeNow sid else s

/-- Room for one more frame at the port that would send it (R395). -/
def State.canSend (s : State) (p : Nat) : Bool := (s.port p).txRoom 9216

/-! Replays (R103, R106, R107, R112). -/

def Replay.size (r : Replay) : Nat := (32 + 16 * r.res.length + 8 * (r.res.filter fun o => o.opcode = 5).length + 63) / 64 * 64

def evictReplays (limit : Nat) : Nat → State → State
  | 0, s => s
  | n + 1, s =>
    if (s.ft.replays.map Replay.size).sum ≤ limit then s
    else evictReplays limit n ((s.setFt { s.ft with replays := s.ft.replays.drop 1 }).bump 0x10002038)

def State.keepReplay (s : State) (r : Replay) : State :=
  let s := s.setFt { s.ft with replays := s.ft.replays ++ [r] }
  evictReplays (s.proto 16 4 * 1048576) s.ft.replays.length s

/-- An operation result as a replay carries it: the result bytes of an ADD that was done, no other value (R106). -/
def OpRes.replayed (r : OpRes) : OpRes :=
  if (r.opcode = 5 ∧ r.status = stOK) ∨ r.val = [] then r else { r with val := [], flags := r.flags ||| 0x40 }

/-- The reply a replay record makes, for a duplicate that came as `raw` by port `p`. -/
def Replay.reply (r : Replay) (raw : Bytes) (p : Nat) : Reply :=
  { raw := raw, port := p, flags := (byteAt r.hdr 1 &&& 0x0C) ||| 4, count := byteAt r.hdr 2, status := byteAt r.hdr 3, seq := r.seq,
    tag := beAt r.hdr 24 8, body := (r.res.map OpRes.replayed).flatMap OpRes.bytes, bad := false, quick := false }

/-- A frame refused at step 5, or given up: its response goes out, and nothing is recorded. -/
def State.refuseFrame (s : State) (id : Nat) (f : Frame) (st : Nat) (res : List OpRes) : State :=
  (s.sendFetch f.sess { raw := f.raw, port := f.port, flags := 0, count := res.length, status := st, seq := f.seq, tag := f.clientTag,
                        body := res.flatMap OpRes.bytes, bad := false, quick := false }).removeFrame id

/-- A duplicate is answered from its record, or refused where the record is gone (R103, R107). -/
def State.answerDuplicate (s : State) (id : Nat) (f : Frame) (x : Session) : State :=
  let s := s.bump cReplays
  let gen := s.genOf f.sess x
  match s.ft.replays.find? fun (r : Replay) => r.sess = f.sess && r.gen = gen && r.seq = f.seq with
  | some r => (s.sendFetch f.sess (r.reply f.raw f.port)).removeFrame id
  | none => (s.bump cStale).refuseFrame id f stSTALE []

/-- A duplicate under the old key, answered with the old transmit counter, or refused where its record is gone (R107, R112); any other
old-key frame is dropped. -/
def State.answerOld (s : State) (id : Nat) (f : Frame) (x : Session) : State :=
  let fail := (s.bump cAuthFail).removeFrame id
  match x.old, x.slot.bind fun n => (s.slot n).shadow with
  | some o, some (k, g) =>
    if o.done.contains f.seq then
      let s := s.bump cRxFrames
      let kept := s.ft.replays.find? fun (r : Replay) => r.sess = f.sess && r.gen = g && r.seq = f.seq
      let s := if kept.isSome then s else s.bump cStale
      let r : Reply := match kept with
        | some r => r.reply f.raw f.port
        | none => { raw := f.raw, port := f.port, flags := 0, count := 0, status := stSTALE, seq := f.seq, tag := f.clientTag, body := [],
                    bad := false, quick := false }
      let s := (s.bump cReplays).updSess f.sess fun x => { x with old := some { o with tx := o.tx + 1 } }
      (if o.tx ≤ 0xFFFFFFFF then s.emitFetch f.sess x k o.tx r none else s).removeFrame id
    else fail
  | _, _ => fail

/-! Intake messages (R250, R251). -/

/-- The cells of a frame return (R386). -/
def State.freeRx (s : State) (p : Nat) (r : RxFrame) : State :=
  (s.setPort p { s.port p with rx := (s.port p).rx.erase r }).flowCheck p

/-- A hand-off: why, the step reached, the check that failed, and what the Nose showed. -/
structure HandOff where
  reason : Nat
  stage : Nat
  check : Nat
  nres : Nat
  ad : Nat
  /-- The address a hand-off cursor points at. -/
  hit : Option Nat
deriving DecidableEq, Repr

def handOff (reason stage check : Nat) : HandOff := { reason := reason, stage := stage, check := check, nres := 0, ad := 0, hit := none }

/-- The binding entry of an intake message: ROLE and TYPE (R251). An opcode of 0x40 up fits no entry. -/
def State.binding (s : State) (hcur : Option Nat) (reason opcode : Nat) : Nat × Nat :=
  let i := if hcur.isSome then 0x40 + reason else if opcode < 0x40 then opcode else 0
  let w := s.rd (0x10003200 + 4 * i)
  let w := if bit w 31 then w else s.rd 0x10003200
  (bits w 16 4, bits w 8 8)

/-- A hand-off cursor for a hit, where one is free (R188). -/
def State.takeHcur (s : State) (a : Option Nat) : Option Nat × State :=
  match a with
  | none => (none, s)
  | some a => match (List.range 64).find? fun i => !s.nose.hcurs.any fun (c : HCur) => c.id == i with
    | none => (none, s)
    | some i => (some i, s.setNose { s.nose with hcurs := s.nose.hcurs ++ [{ id := i, addr := a }] })

/-- The frame is given to the dispatcher (R250): a frame of the device, and its intake message toward its role. `st`: the
status of a refusal at step 5, 0 for none. -/
def State.intake (s : State) (p : Nat) (r : RxFrame) (sid : Nat) (x : Session) (u : Parsed) (plain : Bytes) (old : Bool) (ho : HandOff) (st : Nat) : State :=
  let b := u.payload
  let (hc, s) := s.takeHcur ho.hit
  let id := s.ft.nextFrame
  let f : Frame :=
    { sess := sid, seq := beAt b 8 4, clientTag := beAt b 24 8, port := p, epoch := s.cfg.active.epoch, phase := .intake, origin := .client,
      raw := r.raw, ops := [], res := [], status := st, w := none, writes := [], seg := none, cont := none, plain := plain, arrived := s.now,
      old := old, thread := none, waits := none, place := none, far := none, scan := none }
  let (role, typ) := s.binding hc ho.reason (byteAt plain 0)
  let body := leBytes 2 sid ++ leBytes 1 p ++ leBytes 1 ho.reason ++ leBytes 4 (p * 0x800000 + r.addr) ++ leBytes 2 r.data.length ++
    leBytes 1 (14 + (if u.v6 then 40 else 20) + 8) ++ leBytes 1 ho.stage ++ leBytes 1 (hc.getD 0xFF) ++ leBytes 1 (byteAt plain 0) ++
    leBytes 2 (beAt plain 3 3 / 4096) ++ leBytes 4 f.seq ++ leBytes 2 x.tenant ++ leBytes 1 ho.check ++ zeros 1 ++ leBytes 8 f.clientTag ++
    leBytes 8 ho.ad ++ leBytes 8 ho.nres ++ leBytes 4 f.epoch ++ leBytes 4 r.at_
  let m : Msg := { route := routeWord typ 0 0 5 0 role 0 0, body := body }
  let r2 : RxFrame := { r with intake := m.bytes, fresh := false }
  let s := s.setPort p { s.port p with rx := (s.port p).rx.map fun y => if y = r then r2 else y }
  let s := (s.setFt { s.ft with frames := mset s.ft.frames id f, nextFrame := id + 1 }).toRole m (some id)
  if s.frameMayGo id then s else s.bump 0x10003418

/-- Frames of the session that the dispatcher holds for a lower number or for a busy session (R104, R254). -/
def State.heldFrames (s : State) (sid : Nat) : List (Nat × Frame) :=
  (s.framesOf sid).filter fun e => e.2.isIntake && e.2.status == 0 && !e.2.old && !s.frameMayGo e.1 &&
    s.disp.waiting.any fun (d : DMsg) => d.frame == some e.1 && d.flight == 0 && d.bounced.isNone

/-- What stands in the way of a frame handed off by Retriever: a duplicate of a frame that is held or still executing is discarded, a step
5 refusal goes along as CHECK 5 (R103, R104). -/
def State.handToDispatcher (s : State) (p : Nat) (r : RxFrame) (sid : Nat) (x : Session) (u : Parsed) (plain : Bytes) (old : Bool) (ho : HandOff) : State :=
  let seq := beAt u.payload 8 4
  let here := !old && seq != 0 && (s.framesOf sid).any fun e => e.2.seq = seq && !e.2.old &&
    (e.2.phase == .executing || (e.2.isIntake && e.2.status == 0 && !x.done.contains seq))
  let ops := tiled (byteAt u.payload 2) plain
  if here then (s.bump cReplays).freeRx p r
  else if old then s.intake p r sid x u plain true ho 0
  else match x.seqAt seq ops with
    | .refuse st =>
      let s := if st = stSTALE then s.bump cStale else s
      let s := if st = stRETRY then s.updSess sid fun x => { x with refused := seq :: x.refused } else s
      s.intake p r sid x u plain false { ho with check := 5 } st
    | .skipped => (s.bump cStale).intake p r sid x u plain false { ho with check := 5 } stSTALE
    | .executed => s.intake p r sid x u plain false ho 0
    | _ =>
      let waits := x.busy || !(List.range (seq - x.h - 1)).all fun i => (x.skipped ++ x.refused).contains (x.h + 1 + i)
      if waits && decide (s.proto 2 2 ≤ (s.heldFrames sid).length) then
        (s.updSess sid fun x => { x with refused := seq :: x.refused }).intake p r sid x u plain false { ho with check := 5 } stRETRY
      else s.intake p r sid x u plain false ho 0

/-! Retriever (R185 to R188). -/

/-- What the fast path finds: a hand-off, or the entry's version and value and what it charged. -/
inductive Fast
  | off (h : HandOff) (s : State)
  | hit (version : Nat) (value : Bytes) (bad : Bool) (op : OpReq) (s : State)
  /-- The entry found is beyond correction (R175). -/
  | broken
  /-- The Nose grants nothing: the frame waits. -/
  | stall
deriving DecidableEq, Repr

/-- Has the leash taken the slot of Retriever's search: the window's slots are used, or at level 3 its one slot in 8 cycles (R178)? -/
def State.leashTook (s : State) : Bool :=
  let lvl := s.fld rNoseLeash 1 0
  lvl != 0 && (decide (leashSlots lvl ≤ s.nose.used) || (lvl == 3 && decide (1 ≤ s.nose.rtvSearches)))

/-- Conditions 6 to 8, from the slot of the point search on; more than 4 searches in 15 FAB cycles wait (R163). `ecc`: what the check bits
of the entry found show (R175). -/
def State.fastSearch (s : State) (ecc : Ecc) (op : OpReq) : Fast :=
  if !s.noseOpen then .stall
  else if s.leashTook then .off (handOff 11 4 0) (s.bump 0x10100240)
  else if 4 ≤ s.nose.rtvFrames then .stall
  else
    let q := s.nose
    let s := (s.setNose { q with rtvSlots := q.rtvSlots + 1, rtvFrames := q.rtvFrames + 1, rtvSearches := q.rtvSearches + 1 }).bump 0x10100200
    let n := searchPoint s.nose.ents (orderWord op.ns op.key) s.packPos
    if !n.found then .off { handOff 6 5 0 with nres := n.word } s
    else if ecc = .bad then .broken
    else
      let s := State.noseChecked ecc s s
      let off := fun (reason stage : Nat) => Fast.off { reason := reason, stage := stage, check := 0, nres := n.word, ad := if stage = 6 then n.ad else 0, hit := some n.addr } s
      let cls := bits n.ad 6 4
      if n.kind ≠ 2 ∧ n.kind ≠ 1 then off 7 5
      else if 4 < cls then off 8 6
      else if bit n.ad 60 = false then off 9 6
      else
        let a := bits n.ad 42 18 * 64
        let h := memRead s.mem.vcache a 16
        let len := leAt h 8 4
        if leAt h 12 2 % 4096 ≠ op.ns ∨ 512 < len ∨ sizeClass len ≠ cls ∨ leAt h 0 8 % 64 ≠ n.ad % 64 then off 10 6
        else
          let lines := (List.range ((16 + len + 63) / 64)).map fun i => a / 64 + i
          .hit (leAt h 0 8) (memRead s.mem.vcache (a + 16) len) (lines.any fun l => s.mem.poison.contains (2, l)) op s

/-- Conditions 1 to 5. -/
def State.fastPath (s : State) (sid : Nat) (x : Session) (u : Parsed) (plain : Bytes) (old : Bool) (ecc : Ecc) : Fast :=
  let seq := beAt u.payload 8 4
  let ops := tiled (byteAt u.payload 2) plain
  let c := s.cfg.active
  if x.cipher ≠ 0 ∧ s.flag 0x10200000 1 = false then .off (handOff 12 3 0) s
  else if old || x.busy || seq != x.h + 1 || x.seqAt seq ops != .go || (s.framesOf sid).any (fun e => e.2.seq = seq && e.2.phase != .sent) then .off (handOff 2 3 0) s
  else match ops with
    | none => .off (handOff 4 4 6) s
    | some ops =>
      if !isOperator x && tenantState c x.tenant != 1 then .off (handOff 4 4 7) s
      else match ops with
        | [op] =>
          if op.opcode ≠ 1 then .off (handOff 1 4 0) s
          else if 16 < op.key.length ∨ keyOk op.key = false ∨ op.val ≠ [] then .off (handOff 3 4 0) s
          else if isOperator x || !hasRight x 0 || nsTenant c op.ns != x.tenant || !(nsStateOf c op.ns == 1 || nsStateOf c op.ns == 2) then .off (handOff 4 4 0) s
          else match s.charge c x.tenant op.key.length with
            | none => .off (handOff 4 4 0) s
            | some t =>
              let w := orderWord op.ns op.key
              if !(bit (s.rd (0x10200100 + 4 * (op.ns / 32))) (op.ns % 32) && s.inPart w) then .off (handOff 5 4 0) s
              else match s.fastSearch ecc op with
                | .hit v val bad op s2 => .hit v val bad op { s2 with ks := { s2.ks with buckets := t.ks.buckets } }
                | f => f
        | _ => .off (handOff 1 4 0) s

/-- A response's Fetch header as first sent, for its replay record. -/
def sentHeader (x : Session) (r : Reply) (sid counter : Nat) : Bytes :=
  let st := if counter = 0xFFFFFFFF then stEXHAUSTED else r.status
  fetchHeader (r.flags ||| rekeyFlag x.h counter ||| 1 ||| (if x.cipher = 0 then 0 else 2)) r.count st sid 0 r.seq counter r.tag

/-- Send a frame's response and keep its replay record (R106, R129). -/
def State.respond (s : State) (sid gen : Nat) (r : Reply) (res : List OpRes) : State :=
  match s.sess sid with
  | none => s
  | some x =>
    let rec_ : Replay := { sess := sid, gen := gen, seq := r.seq, hdr := sentHeader x r sid x.tx, res := res, raw := r.raw }
    let t := if x.gone then s else s.keepReplay rec_
    t.sendFetch sid r

/-- A frame Retriever answers (R186). -/
def State.fastAnswer (s : State) (p : Nat) (r : RxFrame) (sid : Nat) (x : Session) (u : Parsed) (v : Nat) (value : Bytes) (bad : Bool) (op : OpReq) : State :=
  let b := u.payload
  let s := s.markDone sid (beAt b 8 4)
  let s := if x.free then s else s.chargeBytes s.cfg.active x.tenant value.length
  let res := resOf op stOK v value 0
  let reply : Reply :=
    { raw := r.raw, port := p, flags := 0, count := 1, status := 0, seq := beAt b 8 4, tag := beAt b 24 8, body := res.bytes, bad := bad, quick := true }
  ((s.respond sid (s.genOf sid x) reply [res]).freeRx p r).bump 0x10200400

/-- Retriever's work on one frame, from step 1 of Table 3-5 on. `full`: its input is full. -/
def State.retrieve (s : State) (p : Nat) (r : RxFrame) (full : Bool) (ecc : Ecc) : State :=
  match s.verify r.raw with
  | .drop c => (s.bump c).freeRx p r
  | .saved _ => s
  | .pass sid u plain old =>
    match s.sess sid with
    | none => s
    | some _ =>
      let s1 := s.updSess sid (learn p r.raw)
      let s1 := if old then s1 else s1.bump cRxFrames
      let x := (s1.sess sid).getD (memberSession 0 0)
      let s1 := match x.slot with
        | some n => s1.setSlot n { s1.slot n with used := s1.now }
        | none => s1
      let off := fun (h : HandOff) (s : State) => (s.bump (0x10200500 + 8 * h.reason)).handToDispatcher p r sid x u plain old h
      if !s1.flag rRtvCtl 0 then off (handOff 13 2 0) s1
      else if full || !r.spill.isEmpty || !(s1.port p).quickRoom 9216 then off (handOff 0 2 0) s1
      else match s1.fastPath sid x u plain old ecc with
        | .stall => s
        | .broken => s.faultEnter 1 0
        | .off h s2 => off h s2
        | .hit v value bad op s2 => s2.fastAnswer p r sid x u v value bad op

/-- The oldest frame of port `p` that Retriever has not taken and that waits for no restore. -/
def State.nextFresh (s : State) (p : Nat) : Option RxFrame :=
  (s.port p).rx.find? fun r => r.fresh && !s.cph.queue.any fun (w : RestWait) => w.port = p && w.addr = r.addr

/-- RETRIEVER_FRAME. A frame of a saved session is CONTEXT_RESTORE's. -/
def retrieverFrame (p : Nat) (full : Bool) (ecc : Ecc) (s : State) : State :=
  if s.halted then s else match s.nextFresh p with
  | none => s
  | some r => s.retrieve p r full ecc
def execRetrieverFrame (p : Fin 2) (full : Bool) (ecc : Ecc) (s : State) : Out := s.onSv (retrieverFrame p.val full ecc)

/-! Restores (R431). -/

def contextRestore (p : Nat) (s : State) : State :=
  if s.halted then s else
  match s.nextFresh p with
  | none => s
  | some r => match s.verify r.raw with
    | .saved sid =>
      if 256 ≤ s.cph.queue.length then (s.bump 0x10700138).freeRx p r
      else (s.setCph { s.cph with queue := s.cph.queue ++ [{ port := p, addr := r.addr, sess := sid }] }).restoreNext
    | _ => s
def execContextRestore (p : Fin 2) (s : State) : Out := s.onSv (contextRestore p.val)

/-- The received frame a restore queue entry stands for. -/
def State.waitFrame (s : State) (w : RestWait) : Option RxFrame := (s.port w.port).rx.find? fun r => r.addr = w.addr

def reenter : List RestWait → State → State
  | [], s => s
  | w :: t, s => match s.waitFrame w with
    | some r => reenter t (s.retrieve w.port r false .good)
    | none => reenter t s

def dropWaits (counter : Nat) : List RestWait → State → State
  | [], s => s
  | w :: t, s => match s.waitFrame w with
    | some r => dropWaits counter t ((s.bump counter).freeRx w.port r)
    | none => dropWaits counter t s

/-- A restored record fills slot `n`. -/
def State.fillSession (s : State) (sid n : Nat) (x : Session) (k : KMat) (gen : Nat) (next : Option KMat) : State :=
  let y : Slot := { Slot.empty with typ := x.cipher, gen := gen, cur := some k, next := next, sess := some sid, used := s.now }
  ((s.setSlot n y).updSess sid fun x => { x with slot := some n }).bump 0x10700128

/-- CONTEXT_RESTORE_DONE: the waiting frames re-enter in their order of arrival, or the session closes (CTX_LOST). `ok`: the record
unwraps as it was wrapped. -/
def contextRestoreDone (sid : Nat) (ok : Bool) (s : State) : State :=
  match s.cph.restores.find? fun e => e.1 = sid with
  | none => s
  | some (_, n) =>
    let mine := s.cph.queue.filter fun (w : RestWait) => w.sess = sid
    let rest := s.cph.queue.filter fun (w : RestWait) => w.sess != sid
    let s := s.setCph { s.cph with restores := s.cph.restores.filter (·.1 != sid), queue := rest }
    match s.sess sid with
    | none => (dropWaits cDropSession mine s).restoreNext
    | some x => match (if ok then s.loadCtx sid x.cipher else none) with
      | some (k, g, next) => (reenter mine (s.fillSession sid n x k g next)).restoreNext
      | none =>
        let s := (dropWaits cDropSession mine s).svEvent 0x0405 8 (leBytes 2 sid ++ zeros 14)
        (s.closeAfter sid).restoreNext
def execContextRestoreDone (sid : Fin 65536) (ok : Bool) (s : State) : Out := s.onSv (contextRestoreDone sid.val ok)

/-- RESTORE_TIMEOUT: the oldest frame with no restore for its session is dropped. -/
def restoreTimeout (s : State) : State :=
  match s.cph.queue.find? fun (w : RestWait) => !s.cph.restores.any fun e => e.1 = w.sess with
  | none => s
  | some w => dropWaits 0x10700138 [w] (s.setCph { s.cph with queue := s.cph.queue.erase w })
def execRestoreTimeout (s : State) : Out := s.onSv restoreTimeout

/-! The dispatcher's commands (R226, R247 to R258). -/

def execDispatchDelivery (s : State) : Out := s.onSv dispatchDelivery
def execMessageArrival (e : Fin 64) (s : State) : Out := s.onSv (messageArrival e.val)
def execRoleAssign (e : Fin 64) (role : BitVec 4) (s : State) : Out := s.onSv (roleAssign e.val role.toNat)
def execRoleChange (e : Fin 64) (s : State) : Out := s.onSv (roleChange e.val)
def execRoleChangeAck (e : Fin 64) (s : State) : Out := s.onSv (roleChangeAck e.val)
def execSessionRelease (sid : Fin 65536) (s : State) : Out := s.onSv fun s => (sessionRelease sid.val s).commitRelease

/-- The lead engine's answer to a frame given up (R256): RETRY for every operation, none executed, the SEQ left as it was, the session
released. -/
def State.answerGivenUp (s : State) (id : Nat) (f : Frame) : State :=
  let s := sessionRelease f.sess s
  if f.status ≠ 0 then s.refuseFrame id f f.status []
  else match (s.sess f.sess).bind fun _ => (parseUdp f.raw).bind fun u => tiled (byteAt u.payload 2) f.plain with
    | some ops => s.refuseFrame id f 0 (ops.map fun o => resOf o stRETRY 0 [] 0)
    | none => s.refuseFrame id f stMALFORMED []

/-- The frame a thread serves. -/
def State.servedBy (s : State) (t : Nat) : Option (Nat × Frame) :=
  s.ft.frames.find? fun e => e.2.thread == some t && e.2.phase == .executing

/-- A sender whose message was given up (R256): the operation it was serving fails with RETRY, unless its write has a version. -/
def State.senderFails (t : Nat) (s : State) : State :=
  match s.servedBy t with
  | none => s
  | some (id, f) =>
    if f.waits.isSome then s else match f.op, f.w with
    | some op, some w => if w.version = 0 then s.writeDrop id op w stRETRY else s
    | some op, none => s.opDone id (resOf op stRETRY 0 [] 0)
    | none, _ => s

/-- DISPATCH_GIVE_UP (R256, R257). -/
def dispatchGiveUp (s : State) : State :=
  match s.giveUpCandidate with
  | none => s
  | some d => s.giveUp d State.senderFails
def execDispatchGiveUp (s : State) : Out := s.onSv fun s => (dispatchGiveUp s).commitRelease

/-- Step 3 of R259: the frame keeps the results it has; the operation in progress, its write burnt and its key as before, and every later
one end with INTERNAL. -/
def State.answerStopped (s : State) (id : Nat) (f : Frame) : State :=
  let s := match f.op, f.w with
    | some op, some w => s.writeFail id op w stINTERNAL
    | _, _ => s
  let ops := (f.op.map fun o => [o]).getD [] ++ f.ops.drop (f.res.length + 1)
  let s := s.setTricks { s.tricks with invokes := s.tricks.invokes.filter fun (e : Nat × Invoke) => e.2.frame != id }
  sessionRelease f.sess (s.updFrame id fun g =>
    { g with res := f.res ++ ops.map (fun o => resOf o stINTERNAL 0 [] 0), w := none, waits := none, seg := none, place := none,
             far := none, scan := none })

/-- An engine with a thread left stopped is withdrawn once its other threads serve nothing (R259). -/
def State.withdrawIdle (s : State) : State :=
  let idle := fun (e : Nat) => (List.range 4).all fun i => (s.servedBy (4 * e + i)).isNone && (mget s.tricks.invokes (4 * e + i)).isNone
  match s.disp.withdraw.find? idle with
  | none => s
  | some e => roleAssign e 0 (s.setDisp { s.disp with withdraw := s.disp.withdraw.filter (· != e) })

/-- Stops of one thread in the last second, the present one among them (R259). -/
def State.noteStop (s : State) (t : Nat) : State :=
  s.setDisp { s.disp with stops := (t, s.now) :: s.disp.stops.filter fun x => decide (s.now < x.2 + 1500000000) }

/-- The lead engine's work on a stop notice (R259): ENGINE_STOP, the answer to the frame whose record TEAM_SCRATCH0 names, and the restart,
or the withdrawal of an engine whose thread has stopped three times within 1 s. -/
def State.leadOnStop (s : State) (e k : Nat) : State :=
  let t := 4 * e + k
  let th := s.th t
  let s := s.svEvent 0x0301 8 (leBytes 1 e ++ leBytes 1 k ++ zeros 2 ++ leBytes 4 (th.csr cCAUSE) ++ leBytes 4 (th.csr cTVAL) ++ leBytes 4 (th.csr cEPC))
  let s := if th.csr 0x008 = 0 then s else match s.servedBy t with
    | some (id, f) => s.answerStopped id f
    | none => s
  let s := s.noteStop t
  if 3 ≤ (s.disp.stops.filter fun x => x.1 = t).length then
    (s.setDisp { s.disp with withdraw := s.disp.withdraw.filter (· != e) ++ [e] }).withdrawIdle
  else s.setRun t true

/-- STOPPED (R258): the notice reaches the dispatcher, which marks a thread that still stands stopped and tells the lead engine. A double trap
of the lead engine enters Fault with cause LEAD_STOP. -/
def stoppedNotice (s : State) : State :=
  match s.disp.notices with
  | [] => s
  | (e, k) :: rest =>
    let s := s.setDisp { s.disp with notices := rest }
    let th := s.th (4 * e + k)
    if e = 0 then s.faultEnter 2 0
    else if !th.double then s
    else
      let d := s.deng e
      let mask := setBits d.stopped k 1 1
      let s := s.setDEng e { d with stopped := mask, state := if mask = 15 then 3 else d.state }
      let body := leBytes 1 e ++ leBytes 1 k ++ zeros 2 ++ leBytes 4 (th.csr cCAUSE) ++ leBytes 4 (th.csr cTVAL) ++ leBytes 4 (th.csr cEPC)
      let s := if mask = 15 then
          let g := s.en e
          bounceAll (g.queue ++ g.mesh) (s.setEn e { g with queue := [], mesh := [] })
        else s
      (s.toLead 0xE0 (4 * e + k) (padTo 56 body)).leadOnStop e k
def execStopped (s : State) : Out := s.onAny fun s => if s.svUp then stoppedNotice s else s

/-! Acceptance by an engine (R100, steps 5 to 7). -/

/-- The engine of thread `t` has the frame's intake message, with it: it is taken from the queue, or the thread has received it. -/
def State.takeIntake (s : State) (t : Nat) (f : Frame) : Option (Msg × State) :=
  let e := engineOf t
  let g := s.en e
  let got : Msg := { route := leAt (s.th t).rslot 0 8, body := (s.th t).rslot.drop 8 }
  match g.queue.find? fun m => m.isIntakeOf f with
  | some m => some (m, s.setEn e { g with queue := g.queue.erase m ++ g.mesh.take 1, mesh := g.mesh.drop 1 })
  | none => if got.isIntakeOf f then some (got, s) else none

/-- The frame's cells are free once the engine has its data (R386). -/
def State.freeFrameRx (s : State) (f : Frame) : State :=
  match (s.port f.port).rx.find? fun r => r.raw = f.raw && !r.fresh with
  | some r => s.freeRx f.port r
  | none => s

/-- Steps 5 to 7 for a frame an engine holds. -/
def State.acceptFrame (s : State) (id : Nat) (f : Frame) (x : Session) (t : Nat) : State :=
  let count := match parseUdp f.raw with
    | some u => byteAt u.payload 2
    | none => 0
  let ops := tiled count f.plain
  if f.status ≠ 0 then s.refuseFrame id f f.status []
  else if f.old then s.answerOld id f x
  else match x.seqAt f.seq ops with
    | .executed => s.answerDuplicate id f x
    | .skipped => (s.bump cStale).refuseFrame id f stSTALE []
    | .refuse st => (if st = stSTALE then s.bump cStale else s).refuseFrame id f st []
    | _ =>
      let s := s.markDone f.sess f.seq
      let start := fun (st : Nat) (ops : List OpReq) =>
        s.setFrame id (skipBad 33 { f with phase := .executing, status := st, ops := ops, thread := some t })
      match ops with
      | none => start stMALFORMED []
      | some ops => if !isOperator x && tenantState (s.setOf f.epoch) x.tenant != 1 then start stDENIED [] else start 0 ops

/-- FETCH_FRAME_ACCEPT; a frame that the dispatcher gave up is the lead engine's to answer (R256). -/
def fetchFrameAccept (id : Nat) (t : Nat) (s : State) : State :=
  if s.halted then s else
  match s.frame id with
  | none => s
  | some f =>
    if !f.isIntake then s else
    match s.sess f.sess, s.takeIntake t f with
    | some x, some (m, s) =>
      if !s.canSend f.port then s
      else if 0xF0 ≤ m.typ ∧ f.old = false then ((s.freeFrameRx f).answerGivenUp id f).commitRelease
      else ((s.freeFrameRx f).acceptFrame id f x t).commitRelease
    | none, some (_, s) => (s.freeFrameRx f).removeFrame id
    | _, none => s
def execFetchFrameAccept (id : Nat) (t : Fin 256) (s : State) : Out := s.onSv (fetchFrameAccept id t.val)

/-- HOLD_TIMEOUT_EXPIRY (R104): the numbers missing below the oldest held frame are skipped. -/
def holdTimeout (sid : Nat) (s : State) : State :=
  match s.sess sid, (s.heldFrames sid).find? fun e => (s.sess sid).any fun x => decide (x.h + 1 < e.2.seq) with
  | some x, some (_, f) =>
    let here := (s.framesOf sid).map fun e => e.2.seq
    let miss := ((List.range (f.seq - x.h - 1)).map (x.h + 1 + ·)).filter fun n => !((x.skipped ++ x.refused ++ here).contains n)
    (s.updSess sid fun x => { x with skipped := miss ++ x.skipped }).bump 0x10002030 miss.length
  | _, _ => s
def execHoldTimeoutExpiry (sid : Fin 65536) (s : State) : Out := s.onSv fun s => (holdTimeout sid.val s).commitRelease

/-! Responses (R129, R137). -/

def Frame.finished (f : Frame) : Bool :=
  f.phase == .executing && f.res.length == f.ops.length && f.w.isNone && f.waits.isNone && f.writes.all (·.reached)

def Frame.reply (f : Frame) (bad : Bool) : Reply :=
  { raw := f.raw, port := f.port, flags := 0, count := f.res.length, status := f.status, seq := f.seq, tag := f.clientTag,
    body := f.res.flatMap OpRes.bytes, bad := bad, quick := false }

/-- The value bytes a response carries are charged as it is sent (R80). -/
def State.chargeSent (s : State) (f : Frame) (x : Session) (n : Nat) : State :=
  if x.free || n == 0 then s else s.chargeBytes (s.setOf f.epoch) x.tenant n

/-- The response of a client's frame leaves. -/
def State.clientResponse (s : State) (id : Nat) (f : Frame) (x : Session) : State :=
  let s := s.chargeSent f x ((f.res.map fun r => r.val.length).sum)
  let s := s.respond f.sess (s.genOf f.sess x) (f.reply false) f.res
  match s.sess f.sess with
  | none => s.removeFrame id
  | some y => if f.cont.isSome && !y.gone then s.updFrame id fun f => { f with phase := .sent } else s.removeFrame id

/-- FRAME_RESPONSE. A member's operation is answered over the link (R87). -/
def frameResponse (id : Nat) (s : State) : State :=
  match s.frame id with
  | none => s
  | some f =>
    if !f.finished || (f.isClient && s.power.brace) then s else
    match f.origin with
    | .member pos tag _ _ _ =>
      let q : LFrame := { typ := 1, resp := false, bcast := false, dst := 0, src := pos, tag := tag, arg := 0, data := [], crcBad := false }
      (s.linkResp q 0x02 0 (f.res.flatMap OpRes.bytes)).removeFrame id
    | .client => match s.sess f.sess with
      | none => s.removeFrame id
      | some x => if s.canSend f.port then s.clientResponse id f x else s
def execFrameResponse (id : Nat) (s : State) : Out := s.onSv fun s => (frameResponse id s).commitRelease

/-- GET_CONTINUATION (R137): the next part of the value. -/
def getContinuation (id : Nat) (s : State) : State :=
  match s.frame id with
  | none => s
  | some f => match f.cont, s.sess f.sess with
    | some (value, v, off), some x =>
      if f.phase ≠ .sent ∨ s.canSend f.port = false ∨ s.halted = true then s
      else
        let n := min (s.space f x - 16) (value.length - off)
        let more := decide (off + n < value.length)
        let res : OpRes := { opcode := 0x10, flags := (if more then 0x10 else 0), status := 0, ns := 0, arg := f.seq * 2 ^ 32 + off, val := slice value off n }
        let r : Reply := { f.reply false with count := 1, body := res.bytes }
        let s := (s.chargeSent f x n).sendFetch f.sess r
        match s.sess f.sess with
        | none => s.removeFrame id
        | some y =>
          if more && !y.gone then s.updFrame id fun f => { f with cont := some (value, v, off + n) } else s.removeFrame id
    | _, _ => s
def execGetContinuation (id : Nat) (s : State) : Out := s.onSv (getContinuation id)

/-! REKEY and CLOSE (R111 to R114, R432). -/

/-- A lower-numbered frame of the session, refused or not, has not sent its response (R111, R113). -/
def State.earlierFrames (s : State) (id : Nat) (f : Frame) : Bool :=
  (s.framesOf f.sess).any fun e => e.1 != id && decide (e.2.seq < f.seq) && !e.2.old

/-- A saved session's material is brought into a slot. -/
def State.makeResident (s : State) (sid : Nat) (x : Session) : Option State :=
  match x.slot with
  | some _ => some s
  | none => match s.loadCtx sid x.cipher, s.pickSlot with
    | some (k, g, next), some n => some ((s.evict n).fillSession sid n x k g next)
    | _, _ => none

/-- The sequence space starts afresh; held frames of the old key go (R111). -/
def State.freshWindow (s : State) (sid : Nat) (old : Option OldWindow) : State :=
  let late := (s.framesOf sid).filter fun e => e.2.isIntake
  let s := late.foldl (fun (s : State) e => ((s.freeFrameRx e.2).removeFrame e.1).bump cDropSession) s
  s.updSess sid fun x => { x with h := 0, done := [], skipped := [], refused := [], tx := 1, old := old }

/-- CUR to SHADOW, NEXT to CUR, GEN up by one; SHADOW is held for REKEY_GRACE_MS (R426, R432). -/
def Slot.rekey (k : Slot) (next : KMat) : Slot :=
  { k with shadow := k.cur.map fun m => (m, k.gen), cur := some next, next := none, gen := k.gen + 1, grace := true,
           inflightSh := k.inflight, inflight := 0, sealsSh := k.seals, seals := 0 }

/-- REKEY: its response leaves under the old key, then the switch. Fields it does not use end it with MALFORMED, and a key not yet staged is
found before a generation at its end (DESIGN CHOICE, log entry 81). -/
def rekeyOp (id : Nat) (s : State) : State :=
  match s.turn id 0x20 with
  | none => s
  | some (f, x, op) =>
    let no := fun (st : Nat) (s : State) => s.opDone id (resOf op st 0 [] 0)
    let sent := fun (gen arg : Nat) (s : State) =>
      let r := resOf op stOK arg [] 0
      let f : Frame := { f with res := [r] }
      ((s.respond f.sess gen (f.reply false) [r]).removeFrame id)
    if op.key ≠ [] ∨ op.val ≠ [] ∨ op.ns ≠ 0 ∨ op.arg ≠ 0 then no stMALFORMED s
    else if s.earlierFrames id f || !s.canSend f.port then s
    else match s.admitOp (s.setOf f.epoch) x 0 with
    | none => no stBUSY s
    | some s =>
    if x.cipher = 0 then
      let (g, s) := s.draw
      let s := (sent 0 g.toNat s).freshWindow f.sess none
      s.setFt { s.ft with replays := s.ft.replays.filter fun (r : Replay) => r.sess != f.sess }
    else match s.makeResident f.sess x with
      | none => no stRETRY s
      | some s => match (s.sess f.sess).bind (·.slot) with
        | none => no stRETRY s
        | some n =>
          let k := s.slot n
          match k.next with
          | none => no stRETRY s
          | some next =>
            if k.shadow.isSome ∨ k.erasing then no stRETRY s
            else if k.gen = 0xFFFFFFFF then no stDENIED s
            else
              let s := sent k.gen (k.gen + 1) s
              match s.sess f.sess with
              | none => s
              | some y =>
                if y.gone then s
                else (s.setSlot n ((s.slot n).rekey next)).freshWindow f.sess (some { gen := k.gen, tx := y.tx, done := y.done })
def execRekey (id : Nat) (s : State) : Out := s.onSv (rekeyOp id)

/-- REKEY_GRACE_EXPIRY (R112, R426). -/
def rekeyGrace (sid : Nat) (s : State) : State :=
  match s.sess sid with
  | none => s
  | some x => match x.old with
    | none => s
    | some o =>
      let s := s.updSess sid fun x => { x with old := none }
      let s := s.setFt { s.ft with replays := s.ft.replays.filter fun (r : Replay) => !(r.sess == sid && r.gen == o.gen) }
      match x.slot with
      | some n => (s.setSlot n { s.slot n with grace := false }).settleSlot n
      | none => s
def execRekeyGraceExpiry (sid : Fin 65536) (s : State) : Out := s.onSv (rekeyGrace sid.val)

/-- CLOSE (R113): after the earlier frames' responses; its own response is the session's last. Fields it does not use end it with MALFORMED
(DESIGN CHOICE, log entry 81). -/
def closeOp (id : Nat) (s : State) : State :=
  match s.turn id 0x21 with
  | none => s
  | some (f, x, op) =>
    if op.key ≠ [] ∨ op.val ≠ [] ∨ op.ns ≠ 0 ∨ op.arg ≠ 0 then s.opDone id (resOf op stMALFORMED 0 [] 0)
    else if s.earlierFrames id f || !s.canSend f.port then s
    else match s.admitOp (s.setOf f.epoch) x 0 with
    | none => s.opDone id (resOf op stBUSY 0 [] 0)
    | some s =>
      let r := resOf op stOK 0 [] 0
      let f : Frame := { f with res := [r] }
      ((s.respond f.sess (s.genOf f.sess x) (f.reply false) [r]).removeFrame id).closeNow f.sess
def execClose (id : Nat) (s : State) : Out := s.onSv fun s => (closeOp id s).commitRelease

/-! Sessions through the Fence (R113, R114, R425, R491). -/

/-- The first refusal of a SESSION_OPEN, reserved bits set aside (R17), in the order log entry 30 names; KS_OK where none holds. The material comes with it. -/
def State.sessionCheck (s : State) (b : Bytes) : Nat × Bytes :=
  let sid := leAt b 0 2
  let rights := byteAt b 4 &&& 0x8F
  let cipher := byteAt b 5
  let pinned := bit (byteAt b 6) 0
  let wrapped := bit (byteAt b 6) 1
  let pin := leAt b 8 2 % 4096
  let kek := leAt b 10 2 % 4096
  let tenant := leAt b 2 2 % 1024
  let c := s.cfg.active
  let op := bit rights 7
  let typ := if cipher = 1 then 1 else 2
  let m := s.material typ wrapped kek (b.drop 64)
  if (s.sess sid).isSome then (ksEXISTS, [])
  else if !op && tenantState c tenant = 0 then (ksNOTENANT, [])
  else if !op && decide (tenantSessLimit c tenant ≤ (s.ft.sessions.filter fun e => e.2.tenant = tenant && !isOperator e.2).length) then (ksLIMIT, [])
  else if 2 < cipher ∨ (pinned = true ∧ cipher ≠ 0 ∧ (s.inPool pin = true ∨ s.lockedSlot pin = true)) then (ksRANGE, [])
  else if cipher = 0 then (ksOK, [])
  else if pinned ∧ ((s.slot pin).typ ≠ 0 ∨ (s.slot pin).erasing = true) then (ksBUSY, [])
  else match m with
    | some k => (ksOK, k)
    | none => (ksUNWRAP, [])

def sessionOpen (s : State) : State :=
  match s.takeLead 0x10 with
  | none => s
  | some (m, s) =>
    let b := m.data
    let sid := leAt b 0 2
    let (st, key) := s.sessionCheck b
    if st ≠ ksOK then s.sessReply m.tag st sid
    else
      let cipher := byteAt b 5
      let pinned := bit (byteAt b 6) 0 && cipher != 0
      let pin := leAt b 8 2 % 4096
      let k : KMat := { key := key, salt := slice b 56 4 }
      let x : Session :=
        { tenant := leAt b 2 2 % 1024, rights := byteAt b 4 &&& 0x8F, cipher := cipher, addr := slice b 16 16, port := beAt b 12 2, link := slice b 32 24,
          h := 0, done := [], skipped := [], refused := [], tx := 1, tags := [], slot := if pinned then some pin else none, pinned := pinned, old := none,
          seg := none, busy := false, closing := false, gone := false, pack := false }
      let s := s.setFt { s.ft with sessions := mset s.ft.sessions sid x }
      let y := s.slot pin
      let s := if pinned then
          s.setSlot pin { Slot.empty with typ := cipher, gen := y.gen + 1, cur := some k, pinned := true, sess := some sid, used := s.now }
        else if cipher = 0 then s else s.saveCtx sid k 1 none
      s.sessReply m.tag ksOK sid
def execSessionOpen (s : State) : Out := s.onSv sessionOpen

/-- A SESSION_CLOSE at the front, with ERASE_NOW or without. -/
def State.takeClose (s : State) (now : Bool) : Option (FMsg × State) :=
  match frontMsg s.fence.toS with
  | some (m, _) => if m.typ = 0x11 ∧ bit (byteAt m.data 2) 0 = now then s.takeLead 0x11 else none
  | none => none

def sessionClose (s : State) : State :=
  match s.takeClose false with
  | none => s
  | some (m, s) =>
    let sid := leAt m.data 0 2
    match s.sess sid with
    | none => s.sessReply m.tag ksABSENT sid
    | some _ => (s.sessReply m.tag ksOK sid).closeAfter sid
def execSessionClose (s : State) : Out := s.onSv fun s => (sessionClose s).commitRelease

/-- ERASE_NOW: the session's material goes at once and the session with it (R114). -/
def sessionCloseNow (s : State) : State :=
  match s.takeClose true with
  | none => s
  | some (m, s) =>
    let sid := leAt m.data 0 2
    match s.sess sid with
    | none => s.sessReply m.tag ksABSENT sid
    | some x =>
      let s := s.sessReply m.tag ksOK sid
      let s := match x.slot with
        | some n => s.eraseNow n
        | none => if x.cipher = 0 then s else s.dramWr (s.ctxAddr sid) (zeros 128)
      (s.cutFrames sid).closeNow sid
def execSessionCloseEraseNow (s : State) : Out := s.onSv fun s => (sessionCloseNow s).commitRelease

/-- KEY_ERASE_NOW (R425, R428): the erase of a locked slot is the device's crypto-erase and enters Fault (XTS_ERASED). -/
def keyEraseNow (s : State) : State :=
  match s.takeS 0x15 with
  | none => s
  | some (m, s) =>
    let n := leAt m.data 0 2
    if 4096 ≤ n then s.slotReply m.tag ksRANGE n
    else
      let locked := s.lockedSlot n
      let s := (s.eraseNow n).slotReply m.tag ksOK n
      if locked then s.faultEnter 3 0 else s
def execKeyEraseNow (s : State) : Out := s.onAny fun s => if s.svUp then (keyEraseNow s).commitRelease else s

/-! Emit jobs (R232, R397) and the mover. -/

/-- The gather entries up to the first of length 0: space, length, address. -/
def gathers (d : Bytes) : List (Nat × Nat × Nat) :=
  ((List.range 5).map fun i =>
    let w := leAt d (24 + 8 * i) 8
    (bits w 61 3, bits w 47 14, bits w 0 36)).takeWhile fun g => g.2.1 != 0

def State.gatherOk (s : State) (g : Nat × Nat × Nat) : Bool :=
  let (sp, n, a) := g
  decide (sp ≤ 3) && (sp == 0 || a % 64 == 0) && s.spaceOk sp a n false

/-- The first address of the port in the family of the client's address. -/
def State.ownAddr (s : State) (p : Nat) (client : Bytes) : Bytes :=
  if client.take 12 = zeros 10 ++ [0xFF, 0xFF] then mapped ((s.portIpv4 p).headD (zeros 4)) else (s.portIpv6 p).headD (zeros 16)

/-- The frame of a session that answers no request still held: the device's own addresses and the session's DMAC (R391). -/
def State.ownFrame (s : State) (p : Nat) (x : Session) (payload : Bytes) : Nat → Bytes → Bytes → Bytes := fun q dmac smac =>
  let v6 := x.addr.take 12 != zeros 10 ++ [0xFF, 0xFF]
  buildUdp dmac smac (sessTagBytes x q) v6 (s.ownAddr p x.addr) x.addr (s.proto 0 2) x.port 0 payload

/-- An emit job whose descriptor, session and gather list are right sends its frame. `ce`, `ue`: lines of the gather data that the
transmit path finds correctable and uncorrectable (R25, R42). -/
def State.emitRun (s : State) (j : EmitJob) (sid p : Nat) (x : Session) (k : KMat) (ce ue : List Nat) : State :=
  let d := j.desc
  let e := engineOf j.thread
  let gs := gathers d
  let body := gs.flatMap fun (sp, n, a) => spaceRead s e sp a n
  let lines := gs.flatMap fun (sp, n, a) => s.linesOf sp a n
  let s := s.decodeLines (1 + p) e lines ce ue
  let bad := lines.zipIdx.filter fun x => s.lineLost e x.1
  let c := x.tx
  let status := if c = 0xFFFFFFFF then stEXHAUSTED else byteAt d 3
  let flags := (byteAt d 2 &&& 0xFC) ||| rekeyFlag x.h c
  let payload := sealFetch x.cipher k.key (padTo 4 k.salt) flags (byteAt d 4) status sid (leAt d 8 4) c (leAt d 16 8) body
  let req := (s.framesOf sid).find? fun f => f.2.seq = leAt d 8 4
  let (build, dmac) := match req with
    | some (_, f) => (frameFor x f.raw payload, slice f.raw 6 6)
    | none => (s.ownFrame p x payload, slice x.link (if p = 0 then 8 else 14) 6)
  let out := if s.portTakes p ∨ s.leaves p x = false then p else other p
  let size := (build out dmac (s.portMac out)).length + 4
  if s.maxFrame out < size then s.emitEnd (some j.id) 3
  else
    let mark := fun (y : EmitJob) => if y.id = j.id then { y with counter := c } else y
    let s := s.setJobs { s.jobs with emits := s.jobs.emits.map mark }
    let s := s.updSess sid fun x => { x with tx := x.tx + 1 }
    let f : TxFrame := { bytes := [], prio := byteAt x.link 1 % 8, emit := some j.id, stamp := none, bad := !bad.isEmpty, quick := false, sess := some sid }
    let s := if req.isNone && dmac.all (· == 0) then s.txDiscard p (some j.id) else (s.countRefused p x status).txSession p x build dmac f
    let s := match bad.find? fun x => !ue.contains x.2 with
      | some x => s.linePoisoned (1 + p) x.1.2
      | none => s
    let s := s.emitEnd (some j.id) (if bad.isEmpty then 0 else 1)
    if c = 0xFFFFFFFF then s.closeNow sid else s

/-- FEMIT_COMPLETE: the job sends its frame or ends. A full transmit buffer makes it wait (R395). -/
def femitComplete (id : Nat) (ce ue : List Nat) (s : State) : State :=
  match s.jobs.emits.find? fun j => j.id = id with
  | none => s
  | some j =>
    let d := j.desc
    let sid := leAt d 0 2
    let p := byteAt d 5
    let fault := s.emitEnd (some id) 3
    if s.halted then s
    else if 1 < p ∨ bits (byteAt d 2) 0 2 ≠ 0 ∨ (gathers d).all s.gatherOk = false then fault
    else match s.sess sid with
      | none => s.emitEnd (some id) 6
      | some x =>
        if x.gone then s.emitEnd (some id) 6
        else match s.txKey sid x with
          | none => s.emitEnd (some id) 2
          | some k => if s.canSend p then s.emitRun j sid p x k ce ue else s
def execFemitComplete (id : Nat) (ce ue : List Nat) (s : State) : Out := s.onSv fun s => s.withSit (femitComplete id ce ue)

/-- DMA_JOB_START (R262). -/
def execDmaJobStart (m : Fin 8) (s : State) : Out := s.onSv (dmaJobStart m.val)

end Sys2Proof.Machine
end

