-- ==== Sys2Proof/Machine/Clock.lean ====
section
/-! DEFINITION. Time: what one FAB cycle does while no command waits (log entry 10). -/
namespace Sys2Proof.Machine

/-- FAB cycles in an AON cycle of 40 ns and in a microsecond. -/
def aonPeriod : Nat := 60
def usPeriod : Nat := 1500

/-- The always-on block's clocks: TRL_TICK in microseconds (R506) and TRL_WALL, which advances once it has been written (R505). -/
def State.aonTick (s : State) : State :=
  if !s.power.aon then s else
  let s := s.setC64 rTrlTick (s.now / usPeriod % 2 ^ 48)
  if s.now % aonPeriod = 0 ∧ s.trail.wallSet = true then s.setC64 rTrlWall (s.c64 rTrlWall + 40) else s

/-- Two core cycles of engine `e` (TEAM_CYCLE). -/
def State.engineTick (s : State) (e : Nat) : State := s.setEn e { s.en e with cycles := (s.en e).cycles + 2 }

/-- The ports' millisecond (MACn_UTIL). -/
def State.utilTicks (s : State) : State := if s.now % 1500000 = 0 then (s.utilTick 0).utilTick 1 else s

/-- The serving plane's clocks: the PHC (R405), the Pack's slot counter and position 0's PACK_SYNC (R180), the token buckets (R80), the engines, the muzzle budgets; a
commit that waits for frames of the old epoch goes on (R497), and full page-sets of the hard log are programmed (R288); the
lead engine goes on with withdrawals (R259) and with the update of the handler areas (R267). -/
def State.servingTick (s : State) : State :=
  let s := { s with phc := (s.phc + s.rd 0x1050090C) % 2 ^ 96, threads := s.threads.map fun (e : Nat × Thread) => (e.1, e.2.mzSpend 2) }
  let c := (s.nose.slotCtr + 1) % syncPeriod
  let s := s.setNose { s.nose with slotCtr := c, syncOut := c == 0 && s.packPos == 0 }
  (((List.range 64).foldl State.engineTick s).hardProgram true).refill.utilTicks.prbsTicks.commitRelease.withdrawIdle.rollTick

/-- One FAB cycle with no command waiting. -/
def State.tick (s : State) : State :=
  let t := ({ s with now := s.now + 1 } : State).aonTick
  { (if s.svUp then t.servingTick else t) with pending := s.pending, jtag := s.jtag, corrupt := s.corrupt }

end Sys2Proof.Machine
end

