-- ==== Sys2Proof/Machine/IcdinAlu.lean ====
section
/-! DEFINITION. The integer, load, store and control-transfer instructions (Tables 5-6 to 5-9, R210, R211, R217 to R222). -/
namespace Sys2Proof.Machine

/-- Signed quotient toward zero; by zero all ones; -2^63 by -1 gives -2^63 (R219). -/
def divS (a b : DWord) : DWord := if b = 0 then BitVec.allOnes 64 else a.sdiv b
/-- Signed remainder; by zero the dividend; 0 for -2^63 by -1 (R219). -/
def remS (a b : DWord) : DWord := if b = 0 then a else a.srem b

/-- One bits among the low `n` bits of `v`. -/
def ones : Nat → Nat → Nat
  | 0, _ => 0
  | n + 1, v => v % 2 + ones n (v / 2)
/-- Zero bits below the lowest one, of `n`. -/
def trailing : Nat → Nat → Nat
  | 0, _ => 0
  | n + 1, v => if v % 2 = 1 then 0 else trailing n (v / 2) + 1
/-- Zero bits above the highest one of an `n`-bit number. -/
def leading : Nat → Nat → Nat
  | 0, _ => 0
  | n + 1, v => if 2 ^ n ≤ v then 0 else leading n v + 1
def popc64 (a : DWord) : DWord := BitVec.ofNat 64 (ones 64 a.toNat)
def ctz64 (a : DWord) : DWord := BitVec.ofNat 64 (trailing 64 a.toNat)
def clz64 (a : DWord) : DWord := BitVec.ofNat 64 (leading 64 a.toNat)

/-! Results of Table 5-6, as functions of rs1 (a) and rs2 (b). -/

def opAdd (a b : DWord) : DWord := a + b
def opSub (a b : DWord) : DWord := a - b
def opAnd (a b : DWord) : DWord := a &&& b
def opOr (a b : DWord) : DWord := a ||| b
def opXor (a b : DWord) : DWord := a ^^^ b
def opAndn (a b : DWord) : DWord := a &&& ~~~b
def opSll (a b : DWord) : DWord := a <<< (b.toNat % 64)
def opSrl (a b : DWord) : DWord := a >>> (b.toNat % 64)
def opSra (a b : DWord) : DWord := a.sshiftRight (b.toNat % 64)
def opSlt (a b : DWord) : DWord := if a.slt b then 1 else 0
def opSltu (a b : DWord) : DWord := if a.ult b then 1 else 0
def opMin (a b : DWord) : DWord := if a.slt b then a else b
def opMax (a b : DWord) : DWord := if a.slt b then b else a
def opMinu (a b : DWord) : DWord := if a.ult b then a else b
def opMaxu (a b : DWord) : DWord := if a.ult b then b else a
def opMul (a b : DWord) : DWord := a * b
def opMulh (a b : DWord) : DWord := BitVec.ofInt 64 (a.toInt * b.toInt / 2 ^ 64)
def opMulhu (a b : DWord) : DWord := BitVec.ofNat 64 (a.toNat * b.toNat / 2 ^ 64)
def opDiv (a b : DWord) : DWord := divS a b
def opDivu (a b : DWord) : DWord := if b = 0 then BitVec.allOnes 64 else a / b
def opRem (a b : DWord) : DWord := remS a b
def opRemu (a b : DWord) : DWord := if b = 0 then a else a % b
def opClz (a : DWord) : DWord := clz64 a
def opCtz (a : DWord) : DWord := ctz64 a
def opPopc (a : DWord) : DWord := popc64 a
def opBswap (a : DWord) : DWord := BitVec.ofNat 64 (beNat (leBytes 8 a.toNat))
def opBswapw (a : DWord) : DWord := BitVec.ofNat 64 (beNat (leBytes 4 a.toNat))
def opBswaph (a : DWord) : DWord := BitVec.ofNat 64 (beNat (leBytes 2 a.toNat))
def opSextb (a : DWord) : DWord := (a.truncate 8).signExtend 64
def opSexth (a : DWord) : DWord := (a.truncate 16).signExtend 64
def opSextw (a : DWord) : DWord := (a.truncate 32).signExtend 64
def opZextw (a : DWord) : DWord := (a.truncate 32).zeroExtend 64

def execAdd (t : Fin 256) (rd rs1 rs2 : Fin 32) (s : State) : Out := alu t rd rs1 rs2 0 opAdd s
def execSub (t : Fin 256) (rd rs1 rs2 : Fin 32) (s : State) : Out := alu t rd rs1 rs2 1 opSub s
def execAnd (t : Fin 256) (rd rs1 rs2 : Fin 32) (s : State) : Out := alu t rd rs1 rs2 2 opAnd s
def execOr (t : Fin 256) (rd rs1 rs2 : Fin 32) (s : State) : Out := alu t rd rs1 rs2 3 opOr s
def execXor (t : Fin 256) (rd rs1 rs2 : Fin 32) (s : State) : Out := alu t rd rs1 rs2 4 opXor s
def execAndn (t : Fin 256) (rd rs1 rs2 : Fin 32) (s : State) : Out := alu t rd rs1 rs2 5 opAndn s
def execSll (t : Fin 256) (rd rs1 rs2 : Fin 32) (s : State) : Out := alu t rd rs1 rs2 6 opSll s
def execSrl (t : Fin 256) (rd rs1 rs2 : Fin 32) (s : State) : Out := alu t rd rs1 rs2 7 opSrl s
def execSra (t : Fin 256) (rd rs1 rs2 : Fin 32) (s : State) : Out := alu t rd rs1 rs2 8 opSra s
def execSlt (t : Fin 256) (rd rs1 rs2 : Fin 32) (s : State) : Out := alu t rd rs1 rs2 9 opSlt s
def execSltu (t : Fin 256) (rd rs1 rs2 : Fin 32) (s : State) : Out := alu t rd rs1 rs2 10 opSltu s
def execMin (t : Fin 256) (rd rs1 rs2 : Fin 32) (s : State) : Out := alu t rd rs1 rs2 11 opMin s
def execMax (t : Fin 256) (rd rs1 rs2 : Fin 32) (s : State) : Out := alu t rd rs1 rs2 12 opMax s
def execMinu (t : Fin 256) (rd rs1 rs2 : Fin 32) (s : State) : Out := alu t rd rs1 rs2 13 opMinu s
def execMaxu (t : Fin 256) (rd rs1 rs2 : Fin 32) (s : State) : Out := alu t rd rs1 rs2 14 opMaxu s
def execMul (t : Fin 256) (rd rs1 rs2 : Fin 32) (s : State) : Out := alu t rd rs1 rs2 16 opMul s
def execMulh (t : Fin 256) (rd rs1 rs2 : Fin 32) (s : State) : Out := alu t rd rs1 rs2 17 opMulh s
def execMulhu (t : Fin 256) (rd rs1 rs2 : Fin 32) (s : State) : Out := alu t rd rs1 rs2 18 opMulhu s
def execDiv (t : Fin 256) (rd rs1 rs2 : Fin 32) (s : State) : Out := alu t rd rs1 rs2 20 opDiv s
def execDivu (t : Fin 256) (rd rs1 rs2 : Fin 32) (s : State) : Out := alu t rd rs1 rs2 21 opDivu s
def execRem (t : Fin 256) (rd rs1 rs2 : Fin 32) (s : State) : Out := alu t rd rs1 rs2 22 opRem s
def execRemu (t : Fin 256) (rd rs1 rs2 : Fin 32) (s : State) : Out := alu t rd rs1 rs2 23 opRemu s
def execClz (t : Fin 256) (rd rs1 : Fin 32) (s : State) : Out := alu1 t rd rs1 32 opClz s
def execCtz (t : Fin 256) (rd rs1 : Fin 32) (s : State) : Out := alu1 t rd rs1 33 opCtz s
def execPopc (t : Fin 256) (rd rs1 : Fin 32) (s : State) : Out := alu1 t rd rs1 34 opPopc s
def execBswap (t : Fin 256) (rd rs1 : Fin 32) (s : State) : Out := alu1 t rd rs1 35 opBswap s
def execBswapw (t : Fin 256) (rd rs1 : Fin 32) (s : State) : Out := alu1 t rd rs1 36 opBswapw s
def execBswaph (t : Fin 256) (rd rs1 : Fin 32) (s : State) : Out := alu1 t rd rs1 37 opBswaph s
def execSextb (t : Fin 256) (rd rs1 : Fin 32) (s : State) : Out := alu1 t rd rs1 38 opSextb s
def execSexth (t : Fin 256) (rd rs1 : Fin 32) (s : State) : Out := alu1 t rd rs1 39 opSexth s
def execSextw (t : Fin 256) (rd rs1 : Fin 32) (s : State) : Out := alu1 t rd rs1 40 opSextw s
def execZextw (t : Fin 256) (rd rs1 : Fin 32) (s : State) : Out := alu1 t rd rs1 41 opZextw s

/-! Immediate forms (Table 5-7). -/

def opAddi (imm : Half) (a : DWord) : DWord := a + sext16 imm
def opAndi (imm : Half) (a : DWord) : DWord := a &&& zext16 imm
def opOri (imm : Half) (a : DWord) : DWord := a ||| zext16 imm
def opXori (imm : Half) (a : DWord) : DWord := a ^^^ zext16 imm
def opSlti (imm : Half) (a : DWord) : DWord := if a.slt (sext16 imm) then 1 else 0
def opSltiu (imm : Half) (a : DWord) : DWord := if a.ult (sext16 imm) then 1 else 0
def opSlli (sh : Fin 64) (a : DWord) : DWord := a <<< sh.val
def opSrli (sh : Fin 64) (a : DWord) : DWord := a >>> sh.val
def opSrai (sh : Fin 64) (a : DWord) : DWord := a.sshiftRight sh.val
def execAddi (t : Fin 256) (rd rs1 : Fin 32) (imm : Half) (s : State) : Out := aluI t rd rs1 1 imm.toNat (opAddi imm) s
def execAndi (t : Fin 256) (rd rs1 : Fin 32) (imm : Half) (s : State) : Out := aluI t rd rs1 2 imm.toNat (opAndi imm) s
def execOri (t : Fin 256) (rd rs1 : Fin 32) (imm : Half) (s : State) : Out := aluI t rd rs1 3 imm.toNat (opOri imm) s
def execXori (t : Fin 256) (rd rs1 : Fin 32) (imm : Half) (s : State) : Out := aluI t rd rs1 4 imm.toNat (opXori imm) s
def execSlti (t : Fin 256) (rd rs1 : Fin 32) (imm : Half) (s : State) : Out := aluI t rd rs1 5 imm.toNat (opSlti imm) s
def execSltiu (t : Fin 256) (rd rs1 : Fin 32) (imm : Half) (s : State) : Out := aluI t rd rs1 6 imm.toNat (opSltiu imm) s
def execSlli (t : Fin 256) (rd rs1 : Fin 32) (sh : Fin 64) (s : State) : Out := aluI t rd rs1 7 (0 + sh.val) (opSlli sh) s
def execSrli (t : Fin 256) (rd rs1 : Fin 32) (sh : Fin 64) (s : State) : Out := aluI t rd rs1 7 (64 + sh.val) (opSrli sh) s
def execSrai (t : Fin 256) (rd rs1 : Fin 32) (sh : Fin 64) (s : State) : Out := aluI t rd rs1 7 (128 + sh.val) (opSrai sh) s
def opLui (imm : Half) : DWord := sext16 imm <<< 16
def execLui (t : Fin 256) (rd : Fin 32) (imm : Half) (s : State) : Out := aluI t rd 0 8 imm.toNat (fun _ => opLui imm) s

/-! Loads and stores (Table 5-8). -/

def execLb (t : Fin 256) (rd rs1 : Fin 32) (imm : Half) (up : Upset) (s : State) : Out :=
  load t rd rs1 imm up 16 1 (fun v => (BitVec.ofNat 8 v).signExtend 64) s
def execLbu (t : Fin 256) (rd rs1 : Fin 32) (imm : Half) (up : Upset) (s : State) : Out :=
  load t rd rs1 imm up 17 1 (fun v => BitVec.ofNat 64 v) s
def execLh (t : Fin 256) (rd rs1 : Fin 32) (imm : Half) (up : Upset) (s : State) : Out :=
  load t rd rs1 imm up 18 2 (fun v => (BitVec.ofNat 16 v).signExtend 64) s
def execLhu (t : Fin 256) (rd rs1 : Fin 32) (imm : Half) (up : Upset) (s : State) : Out :=
  load t rd rs1 imm up 19 2 (fun v => BitVec.ofNat 64 v) s
def execLw (t : Fin 256) (rd rs1 : Fin 32) (imm : Half) (up : Upset) (s : State) : Out :=
  load t rd rs1 imm up 20 4 (fun v => (BitVec.ofNat 32 v).signExtend 64) s
def execLwu (t : Fin 256) (rd rs1 : Fin 32) (imm : Half) (up : Upset) (s : State) : Out :=
  load t rd rs1 imm up 21 4 (fun v => BitVec.ofNat 64 v) s
def execLd (t : Fin 256) (rd rs1 : Fin 32) (imm : Half) (up : Upset) (s : State) : Out :=
  load t rd rs1 imm up 22 8 (fun v => BitVec.ofNat 64 v) s
def execSb (t : Fin 256) (rs2 rs1 : Fin 32) (imm : Half) (s : State) : Out := store t rs2 rs1 imm 24 1 s
def execSh (t : Fin 256) (rs2 rs1 : Fin 32) (imm : Half) (s : State) : Out := store t rs2 rs1 imm 25 2 s
def execSw (t : Fin 256) (rs2 rs1 : Fin 32) (imm : Half) (s : State) : Out := store t rs2 rs1 imm 26 4 s
def execSd (t : Fin 256) (rs2 rs1 : Fin 32) (imm : Half) (s : State) : Out := store t rs2 rs1 imm 27 8 s

/-! Control transfer (Table 5-9). -/

def execBeq (t : Fin 256) (rs1 rs2 : Fin 32) (imm : Half) (s : State) : Out := branch t rs1 rs2 imm 32 (fun a b => a == b) s
def execBne (t : Fin 256) (rs1 rs2 : Fin 32) (imm : Half) (s : State) : Out := branch t rs1 rs2 imm 33 (fun a b => a != b) s
def execBlt (t : Fin 256) (rs1 rs2 : Fin 32) (imm : Half) (s : State) : Out := branch t rs1 rs2 imm 34 (fun a b => a.slt b) s
def execBge (t : Fin 256) (rs1 rs2 : Fin 32) (imm : Half) (s : State) : Out := branch t rs1 rs2 imm 35 (fun a b => !a.slt b) s
def execBltu (t : Fin 256) (rs1 rs2 : Fin 32) (imm : Half) (s : State) : Out := branch t rs1 rs2 imm 36 (fun a b => a.ult b) s
def execBgeu (t : Fin 256) (rs1 rs2 : Fin 32) (imm : Half) (s : State) : Out := branch t rs1 rs2 imm 37 (fun a b => !a.ult b) s

def execJal (t : Fin 256) (rd : Fin 32) (imm : BitVec 21) (s : State) : Out :=
  let word := encJ 0x26 rd imm.toNat
  onThread t word true (fun s h =>
    let off : DWord := imm.signExtend 64
    if h.muzzled && backward off then illegal s t word h
    else match jumpTo s (pcRel h.pc off) with
      | .jump s2 a => .jump (wrG s2 t rd (BitVec.ofNat 64 (h.pc + 4))) a
      | e => e) s

def execJalr (t : Fin 256) (rd rs1 : Fin 32) (imm : Half) (s : State) : Out :=
  onThread t (encI 0x27 rd rs1 imm.toNat) false (fun s h =>
    match jumpTo s (effAddr h rs1 imm) with
    | .jump s2 a => .jump (wrG s2 t rd (BitVec.ofNat 64 (h.pc + 4))) a
    | e => e) s

/-- LOOP: `cnt` is the field CNT - 1. -/
def execLoop (t : Fin 256) (cnt : BitVec 12) (len : BitVec 10) (s : State) : Out :=
  let word := encL 0x28 cnt.toNat len.toNat
  onThread t word true (fun s h => loopPush s t word h (cnt.toNat + 1) len.toNat) s

def execLoopr (t : Fin 256) (rs : Fin 32) (len : BitVec 10) (s : State) : Out :=
  let word := encLR 0x29 rs len.toNat
  onThread t word false (fun s h => loopPush s t word h ((h.g rs).toNat % 2 ^ 32) len.toNat) s

end Sys2Proof.Machine
end

