-- ==== Sys2Proof/Machine/Tricks.lean ====
section
/-! DEFINITION. Tricks: the verifier (R269, R270, Table 6-8), loading and unloading (R271), an invocation (R272, R273), the
services (R274 to R276, Table 6-11) and its end (R277, Table 6-12). -/
namespace Sys2Proof.Machine

/-! The verifier. -/

/-- An instruction word as the trick profile sees it (Table 5-25, R217). -/
inductive TWord
  | refused
  | plain
  /-- A branch or JAL, its offset in instructions. -/
  | jump (off : Int)
  | loop (len : Nat)
  | call (n : Nat)
  | exit
deriving DecidableEq, Repr

def sextInt (v w : Nat) : Int := if v < 2 ^ (w - 1) then (v : Int) else (v : Int) - (2 ^ w : Nat)

def trickWord (w : Nat) : TWord :=
  let m := bits w 26 6
  let rd := bits w 21 5; let rs1 := bits w 16 5; let rs2 := bits w 11 5; let rs3 := bits w 6 5
  let imm := bits w 0 16
  let only := fun (b : Bool) => if b then TWord.plain else .refused
  if m = 0 then only (aluWord (bits w 0 11) rs2)
  else if m ≤ 6 then .plain
  else if m = 7 then only (decide (imm < 0xC0))
  else if m = 8 then only (rs1 == 0)
  else if 0x10 ≤ m ∧ m ≤ 0x16 ∨ 0x18 ≤ m ∧ m ≤ 0x1B then .plain
  else if 0x20 ≤ m ∧ m ≤ 0x25 then .jump (sextInt imm 16)
  else if m = 0x26 then .jump (sextInt (bits w 0 21) 21)
  else if m = 0x28 then (if bits w 10 4 = 0 then .loop (bits w 0 10) else .refused)
  else if m = 0x3D then only (decide (bits w 0 6 ≤ 3) && keyWord rd rs1 rs2 rs3 (bits w 0 6))
  else if m = 0x3E then
    let f := bits w 0 6
    only ((f == 0 && rs2 == 0 && rs3 == 0 && rd != 31) || (f == 1 && rd == 0))
  else if m = 0x3F then
    let f := bits w 12 4; let i := bits w 0 12
    if f = 0 then only (rd == 0 && rs1 == 0 && i == 0)
    else if f = 5 then (if rd = 0 ∧ i = 0 then .exit else .refused)
    else if f = 6 then (if rd = 0 ∧ rs1 = 0 then .call i else .refused)
    else .refused
  else .refused

def knownService (n : Nat) : Bool := (decide (1 ≤ n) && decide (n ≤ 6)) || (decide (0x10 ≤ n) && decide (n ≤ 0x12)) || n == 0x20 || n == 0x21

/-- The code's words with their indices. -/
def trickWords (len : Nat) (code : Bytes) : List (Nat × TWord) := (List.range len).map fun i => (i, trickWord (leAt code (4 * i) 4))

/-- The first word that breaks a LOOP rule: `open_` holds the last words of the bodies around it, innermost first. -/
def badLoop (len : Nat) : List (Nat × TWord) → List Nat → Option Nat
  | [], _ => none
  | (i, w) :: t, open_ =>
    let open_ := open_.filter fun e => i ≤ e
    match w with
    | .loop n =>
      let last := i + n
      if n = 0 ∨ len ≤ last ∨ 4 ≤ open_.length ∨ (open_.any fun e => decide (e < last)) = true then some i else badLoop len t (last :: open_)
    | _ => badLoop len t open_

/-- The first failing code of Table 6-8, 0x02 to 0x07, and the index of its first failing word. -/
def verifyWords (len : Nat) (code : Bytes) : Option (Nat × Nat) :=
  let ws := trickWords len code
  let first := fun (c : Nat) (p : Nat → TWord → Bool) => (ws.find? fun e => p e.1 e.2).map fun e => (c, e.1)
  let back := fun (_ : Nat) (w : TWord) => match w with
    | .jump o => decide (o ≤ 0)
    | _ => false
  let target := fun (i : Nat) (w : TWord) => match w with
    | .jump o => decide ((len : Int) ≤ i + o)
    | _ => false
  let service := fun (_ : Nat) (w : TWord) => match w with
    | .call n => !knownService n
    | _ => false
  ((((first 2 fun _ w => w == .refused) <|> first 3 back) <|> first 4 target) <|> ((badLoop len ws []).map fun i => (5, i))) <|>
    ((if (trickWord (leAt code (4 * (len - 1)) 4)) = .exit then none else some (6, len - 1)) <|> first 7 service)

/-- R270: the code of Table 6-8 and the failing word's index. OWNER 0x3FF grants a slot to no tenant (Table 12-10). -/
def State.verifyTrick (s : State) (image : Bytes) : Nat × Nat :=
  let slot := byteAt image 0
  let tn := leAt image 2 2
  let len := leAt image 4 2
  let entry := leAt image 6 2
  let budget := leAt image 8 4
  let ks := leAt image 12 4
  let reserved := byteAt image 1 ≠ 0 ∨ 1024 ≤ tn ∨ 0 < bits ks 12 3 ∨ 65536 ≤ ks ∨ 0 < leNat (slice image 16 16)
  if reserved ∨ image.length ≠ 32 + 4 * len ∨ len = 0 ∨ 512 < len ∨ len ≤ entry ∨ budget = 0 ∨ 200000 < budget ∨
     tenantState s.cfg.active tn = 0 ∨ (bit ks 15 = true ∧ (s.ownerOf (bits ks 0 12) ≠ tn ∨ tn = 0x3FF)) then (1, 0)
  else match verifyWords len (image.drop 32) with
    | some e => e
    | none => match mget s.tricks.slots slot with
      | some t => if t.tenant = tn then (0, 0) else (8, 0)
      | none => (0, 0)

/-- LOAD_RESULT (Table 12-3). -/
def State.loadResult (s : State) (tag kind code slot word : Nat) : State :=
  s.toKeeper 0x24 true tag (leBytes 1 kind ++ leBytes 1 code ++ leBytes 1 slot ++ zeros 1 ++ leBytes 4 word)

/-- TRICK_LOAD (R269 to R271). -/
def trickLoad (s : State) : State :=
  match s.takeLead 0x22 with
  | none => s
  | some (m, s) =>
    let b := m.data
    let (code, word) := s.verifyTrick b
    let slot := byteAt b 0
    let ks := leAt b 12 4
    let t : Trick := { tenant := leAt b 2 2, entry := leAt b 6 2, budget := leAt b 8 4,
                       keyslot := if bit ks 15 then some (bits ks 0 12) else none, code := b.drop 32 }
    let s := if code = 0 then s.setTricks { s.tricks with slots := mset s.tricks.slots slot t } else s
    (s.loadResult m.tag 1 code slot word).bringUpNext
def execTrickLoad (s : State) : Out := s.onSvM trickLoad

/-- TRICK_UNLOAD (R271): the slot is emptied; another tenant's slot is refused. -/
def trickUnload (s : State) : State :=
  match s.takeLead 0x23 with
  | none => s
  | some (m, s) =>
    let slot := byteAt m.data 0
    let other := match mget s.tricks.slots slot with
      | some t => t.tenant != leAt m.data 2 2
      | none => false
    if other then s.loadResult m.tag 2 8 slot 0
    else (s.setTricks { s.tricks with slots := mdel s.tricks.slots slot }).loadResult m.tag 2 0 slot 0
def execTrickUnload (s : State) : Out := s.onSv trickUnload

/-! The end of a trick. -/

/-- The data window of thread `t` (Table 6-9). -/
def trickWin (t : Nat) : Nat := 0x8000 + 0x6000 * (t % 4)

/-- The class the trick's writes achieved: mirrored only where every one was (R71); 0 where it made none (R98). -/
def Frame.trickClass (f : Frame) (cls : Nat) : Nat :=
  match f.writes.filter fun w => w.idx = f.res.length with
  | [] => 0
  | ws => if cls = 2 ∧ (ws.any fun w => w.cls != 2) = true then 0 else cls

/-- The invocation on thread `t` ends with a result (Table 6-12). -/
def State.trickEnd (s : State) (t : Nat) (v : Invoke) (status : Nat) (out : Bytes) : State :=
  let h := s.th t
  let s := s.setTricks { s.tricks with invokes := mdel s.tricks.invokes t }
  let s := if status = stTRICKFAULT ∨ status = stMUZZLED then
      s.svEvent 0x0302 (0x40 + engineOf t) (leBytes 1 v.slot ++ leBytes 1 (h.csr cMZCAUSE % 256) ++ zeros 2 ++ leBytes 4 (h.csr cMZTVAL))
    else s
  match s.turn v.frame 0x0B with
  | none => s
  | some (f, x, op) =>
    if status ≠ stOK then s.opDone v.frame (resOf op status 0 [] 0)
    else if s.valueRoom f x < out.length then s.opDone v.frame (tooLarge op v.lastVersion out.length)
    else s.opDone v.frame (resOf op stOK v.lastVersion out (f.trickClass (bits op.flags 0 2)))

/-- Statuses a trick may ask for besides OK (Table 6-12). -/
def mayAsk (st : Nat) : Bool :=
  st == stNOTFOUND || st == stEXISTS || st == stVERSION || st == stNOSPACE || st == stBUSY || st == stREADONLY || st == stDENIED

/-- The result of a trick that has left muzzled mode, by its cause. -/
def State.trickLeft (s : State) (t : Nat) (v : Invoke) : State :=
  let h := s.th t
  let cause := h.csr cMZCAUSE % 256
  let w := h.csr cMZTVAL
  if cause = mCALL then s
  else if cause = mEXIT then
    let st := bits w 16 8
    if 7936 < bits w 0 16 ∨ bits w 24 8 ≠ 0 then s.trickEnd t v stTRICKFAULT []
    else if st = stOK then s.trickEnd t v stOK (s.dread t (trickWin t + 0x2100) (bits w 0 16))
    else if mayAsk st then s.trickEnd t v st []
    else s.trickEnd t v stTRICKFAULT []
  else if cause = mSETUP then s.trickEnd t v stINTERNAL []
  else if cause = mILLEGAL ∨ cause = mFAULT then s.trickEnd t v stTRICKFAULT []
  else s.trickEnd t v stMUZZLED []

/-! The start of a trick. -/

/-- R126 and the common checks; a completed segmented value has its rights and rate behind it (R135). -/
def State.trickChecks (s : State) (c : CfgSet) (f : Frame) (x : Session) (op : OpReq) : Chk :=
  let slotOk := match mget s.tricks.slots (bits op.arg 0 8) with
    | some k => k.tenant == x.tenant
    | none => false
  let place := fun (s : State) => if op.key.isEmpty then Chk.pass s else s.placeCheck c x op false
  if (!op.key.isEmpty && !keyOk op.key) || bits op.flags 0 2 = 3 || (f.seg.isNone && decide (7936 < op.val.length)) then .fail stMALFORMED [] s
  else if !hasRight x 3 || !nsAllowed c x op.ns || !nsFlag c op.ns 2 || !slotOk then .fail stDENIED [] s
  else if f.seg.isSome then place s
  else match s.admitOp c x (op.key.length + op.val.length) with
    | none => .fail stBUSY [] s
    | some s => place s

/-- The member a TRICK's or a service's key is at (R184); an operation without a key is at home. -/
def State.trickPlace (s : State) (f : Frame) (c : CfgSet) (op : OpReq) (r : Chk) : Chk := if op.key = [] then r else s.findPlace f c op r

/-- Bytes into the instruction store of thread `t`'s engine, each word good again. -/
def State.frameWrite (s : State) (t : Nat) (slot : Nat) (code : Bytes) : State :=
  let a := 0xE000 + 0x800 * (t % 4)
  let e := s.en (engineOf t)
  let s := s.setEn (engineOf t) { e with badInsn := e.badInsn.filter fun w => decide (w < a / 8) || decide ((a + code.length) / 8 ≤ w) }
  (s.setMem { s.mem with istore := memWrite s.mem.istore (engineOf t * 0x10000 + a) code }).setTricks
    { s.tricks with frames := mset s.tricks.frames t (slot, code) }

/-- Information block (Table 6-9). -/
def State.infoBlock (s : State) (f : Frame) (x : Session) (op : OpReq) : Bytes :=
  leBytes 2 x.tenant ++ leBytes 2 op.ns ++ leBytes 1 (bits op.arg 0 8) ++ leBytes 1 (bits op.flags 0 2) ++ leBytes 2 op.key.length ++
    leBytes 4 op.val.length ++ leBytes 4 (min op.val.length 8192) ++ leBytes 8 s.phcNs ++ leBytes 4 f.seq ++ zeros 36

/-- Steps 1 to 5 of R272. -/
def State.trickEnter (s : State) (id t : Nat) (f : Frame) (x : Session) (op : OpReq) (k : Trick) : State :=
  let slot := bits op.arg 0 8
  let s := if mget s.tricks.frames t = some (slot, k.code) then s else s.frameWrite t slot k.code
  let h := s.th t
  let s := s.setTh t ({ h with kwin := patch h.kwin 0 op.key }.setCsr cKWLEN op.key.length)
  let w := trickWin t
  let s := s.dwrite t w (s.infoBlock f x op)
  let s := s.dwrite t (w + 0x100) (op.val.take 8192)
  let s := s.dwrite t (w + 0x2100) (zeros 8192)
  let lo := 0xE000 + 0x800 * (t % 4)
  let h := ((((((s.th t).setCsr cMZLO lo).setCsr cMZHI (lo + k.code.length)).setCsr cMZENTRY (lo + 4 * k.entry)).setCsr cMZWLO w).setCsr cMZWHI
    (w + 0x6000)).setCsr cMZBUDGET k.budget
  let s := s.setTh t h
  let v : Invoke := { frame := id, slot := slot, trick := k, calls := 0, writes := 0, lastVersion := 0, input := op.val, grant := none,
                      lines := 0, fwd := none, part := none, wait := 0, job := none }
  let s := s.setTricks { s.tricks with invokes := mset s.tricks.invokes t v }
  match mzEnter s t (s.th t) false with
  | .set s2 => s2
  | .next s2 => s2.trickEnd t v stINTERNAL []
  | _ => s

/-- May thread `t` take an invocation: a running, idle, unmuzzled thread of a trick-role engine? -/
def State.trickThread (s : State) (t : Nat) : Bool :=
  let h := s.th t
  h.ready && !h.muzzled && !h.intrap && (s.en (engineOf t)).role % 16 == 5 && (mget s.tricks.invokes t).isNone

/-- TRICK: the operation in turn begins on thread `t`, or the invocation that has left muzzled mode there ends. -/
def trickOp (id t : Nat) (s : State) : State :=
  match mget s.tricks.invokes t with
  | some v => if v.frame = id ∧ (s.th t).muzzled = false ∧ (s.th t).run = true then s.trickLeft t v else s
  | none => match s.turn id 0x0B with
    | none => s
    | some (f, x, op) =>
      if (s.tricks.invokes.any fun e => e.2.frame == id) then s
      else match s.trickPlace f (s.setOf f.epoch) op (s.trickChecks (s.setOf f.epoch) f x op) with
        | .fail st val s => s.opDone id (resOf op st 0 val 0)
        | .proxy d s => s.sendProxy id d op
        | .member p s => s.sendMember id p x op 0
        | .search _ => s.packSearch id op
        | .pass s2 => match mget s.tricks.slots (bits op.arg 0 8) with
          | some k => if s.trickThread t then s2.trickEnter id t f x op k else s
          | none => s
def execTrick (id : Nat) (t : Fin 256) (s : State) : Out := s.onSv (trickOp id t.val)

/-! Services. -/

/-- The trick goes on after its MZCALL (R274): g2 is the status, g3 and g4 the results given. The serving program's own place in
its code is unchanged. -/
def State.resumeTrick (s : State) (t : Nat) (v : Invoke) (status : Nat) (g3 g4 : Option DWord) : State :=
  let h := s.th t
  let h1 := h.setG 2 (BitVec.ofNat 64 status)
  let h2 := (g3.map (h1.setG 3)).getD h1
  let h3 := (g4.map (h2.setG 4)).getD h2
  let s := (s.setTh t h3).setTricks { s.tricks with invokes := mset s.tricks.invokes t { v with grant := none, lines := 0, fwd := none, part := none, wait := 0, job := none } }
  match mzEnter s t (s.th t) true with
  | .set s2 => s2.setTh t { s2.th t with mzRet := h.pc, sysLoops := h.sysLoops }
  | _ => s

/-- A service that fails: where the spec gives its results no value they are free. `n`: how many results it has. -/
def State.failService (s : State) (t : Nat) (v : Invoke) (status n : Nat) : State :=
  let (a, s) := s.draw
  let (b, s) := s.draw
  s.resumeTrick t v status (if n = 2 ∨ n = 3 then some a else none) (if n = 2 ∨ n = 4 then some b else none)

/-- Does [a, a + n) lie wholly within the data window or the key window (R276)? -/
def Thread.inWindow (h : Thread) (a n : Nat) : Bool :=
  (decide (h.csr cMZWLO ≤ a) && decide (a + n ≤ h.csr cMZWHI)) || (decide (0x20000 ≤ a) && decide (a + n ≤ 0x20200))

/-- MZCALL of service `n` on thread `t` and the service: the call leaves muzzled mode, and the service is performed, or goes on where
it waited. `writes`: a write service. A 257th call or a 33rd write ends the trick (R276). -/
def service (t : Fin 256) (n : Nat) (writes : Bool) (f : State → Invoke → Thread → State) (s : State) : Out :=
  let word := encY 0 0 6 n
  let pending := fun (s : State) => (s.th t).muzzled == false && (s.th t).run && (s.th t).csr cMZCAUSE == n * 256 + mCALL
  s.onSv fun s =>
    if (mget s.tricks.invokes t).isSome && pending s then
      match mget s.tricks.invokes t with
      | some v => f s v (s.th t)
      | none => s
    else
      let s2 := issue t word true (fun s h => if !h.muzzled then .trap cILLEGAL 0 word else .set (mzCall s t n)) s
      if (s.th t).muzzled && pending s2 then match mget s2.tricks.invokes t with
        | some v =>
          let v := { v with calls := v.calls + 1, writes := v.writes + b2n writes }
          let s3 := s2.setTricks { s2.tricks with invokes := mset s2.tricks.invokes t v }
          if 256 < v.calls ∨ 32 < v.writes then s3.trickEnd t v stMUZZLED [] else f s3 v (s3.th t)
        | none => s2
      else s2

/-- The frame and session a trick acts for. -/
def State.trickSess (s : State) (v : Invoke) : Option (Frame × Session) :=
  match s.frame v.frame with
  | none => none
  | some f => (s.frameSess f).map fun x => (f, x)

/-- A service's operation goes to the member that holds its key (R87, Table 4-21). -/
def State.trickFwd (s : State) (t : Nat) (v : Invoke) (p : Nat) (x : Session) (op : OpReq) : State :=
  let inner := op.bytes
  let ctx := leBytes 2 x.tenant ++ leBytes 1 x.rights ++ leBytes 1 (bits op.flags 0 2) ++ zeros 12
  let hdr := opBytes 0x32 0 0 op.ns [] inner (selfId s.cfg.active)
  let tag := s.pack.nextTag
  let s := s.linkReq 0x01 p 0 (hdr.take 16 ++ ctx ++ inner) none
  s.setTricks { s.tricks with invokes := mset s.tricks.invokes t { v with fwd := some (tag, none) } }

/-- A service's key between the two places of a boundary that moves: a Pack search finds it first (R184). -/
def State.trickFind (s : State) (t n : Nat) (v : Invoke) (op : OpReq) : State :=
  if !s.flag rNoseStatus 2 then s.failService t v stRETRY n else s.packSearch v.frame op

/-- What has come so far of the value a member answers KGET with. -/
def Invoke.whole (v : Invoke) (r : FwdRes) : FwdRes :=
  match v.part with
  | some p => if r.status = stOK then { p with val := p.val ++ r.val } else { p with status := stRETRY }
  | none => r

/-- A read service: KGET where `dst` is given, with its capacity, else KHEAD. -/
def readService (bad : Bool) (get : Bool) (t : Nat) (s : State) (v : Invoke) (h : Thread) : State :=
  let r := fun (i : Nat) => (h.g i).toNat
  if !h.inWindow (r 3) (r 4) || (get && !h.inWindow (r 5) (r 6)) then s.trickEnd t v stMUZZLED []
  else if !s.noseOpen then s
  else match s.trickSess v with
    | none => s.failService t v stDENIED 2
    | some (f, x) =>
      let key := s.dread t (r 3) (r 4)
      let op : OpReq := { opcode := if get then 1 else 7, flags := 0, ns := r 2, key := key, val := [], arg := 0 }
      let c := s.setOf f.epoch
      let give := fun (s : State) (ver len : Nat) (val : Bytes) =>
        (if get then s.dwrite t (r 5) (val.take (r 6)) else s).resumeTrick t v stOK (some (BitVec.ofNat 64 ver)) (some (BitVec.ofNat 64 len))
      if f.waits.isSome then s else
      match v.fwd with
      | some (_, none) => s
      | some (_, some res) =>
        let w := v.whole res
        if w.status ≠ stOK then s.failService t v w.status 2
        else if get && decide (w.val.length < min (r 6) w.whole) then
          let p := (f.place.map (·.2.2)).getD (packHolder c op.ns (headOf key))
          s.trickFwd t { v with part := some w } p x
              { opcode := 0x10, flags := 0, ns := 0, key := [], val := [], arg := w.first * 2 ^ 32 + w.val.length }
        else give s w.arg (if get then w.whole else beNat w.val) w.val
      | none =>
        if !keyOk key then s.failService t v stMALFORMED 2
        else if !hasRight x 0 || decide (4096 ≤ r 2) || !nsAllowed c x (r 2) then s.failService t v stDENIED 2
        else match s.trickPlace f c op (s.placeCheck c x op false) with
          | .fail st _ s => s.failService t v st 2
          | .proxy _ _ => s.failService t v stREDIRECT 2
          | .member p s => s.trickFwd t v p x op
          | .search _ => s.trickFind t 2 v op
          | .pass s =>
            if s.isPending op.ns op.key then s
            else
              let q := s.readJrn (s.valueDamage op.ns op.key)
              let s := q.2
              if bad || q.1 then s.failService t v stINTERNAL 2
              else match s.liveOf op.ns op.key with
                | none => s.failService t v stNOTFOUND 2
                | some w => give s w.version w.value.length w.value

def execKget (t : Fin 256) (bad : Bool) (s : State) : Out := service t 0x001 false (readService bad true t) s
def execKhead (t : Fin 256) (bad : Bool) (s : State) : Out := service t 0x002 false (readService bad false t) s

/-- How far a service's write comes. -/
inductive Whole
  /-- Its status, ARG, result value, and the write where it took a version. -/
  | done (status arg : Nat) (val : Bytes) (w : Option WDone) (s : State)
  /-- The key is pending (R58, R59). -/
  | wait (s : State)
  /-- No journal space, or the lease is short (R74). -/
  | space (s : State)
  /-- Its version comes from position 0 (R88). -/
  | ask (s : State)

/-- The write of `op`, carried in one piece to its visibility point (R275, R53 to R62). `granted`: the version
position 0 has granted it, 0 where it refused; its space was held before it was asked for (R74). -/
def State.wholeWrite (s : State) (c : CfgSet) (op : OpReq) (granted : Option Nat) : Whole :=
  let burnt := fun (s : State) => match granted with
    | some v => if v = 0 then s else s.burnGrant op.ns v
    | none => s
  let refused := fun (st arg : Nat) (s : State) => Whole.done st arg [] none (burnt s)
  let n := recLines op.key.length op.val.length
  if granted = some 0 then refused stREADONLY 0 s
  else if s.isPending op.ns op.key then .wait s
  else if op.opcode = 4 && granted.isNone && !s.reserveOk n then .space s
  else
  let (lost, s) := s.readJrn (if op.opcode = 4 ∨ op.opcode = 5 then s.valueDamage op.ns op.key else [])
  if lost then refused stINTERNAL 0 s
  else match makeWrite op (s.liveOf op.ns op.key) with
  | .refuse st arg => refused st arg (if op.opcode = 4 then (s.jrnAdd (padRec n)).2 else s)
  | .store tomb value =>
    let s := s.leaseDue op.ns
    if granted.isNone && s.noSpace c op tomb value.length then refused stNOSPACE 0 s
    else if granted.isNone && s.wouldBypass op.ns op.key && !s.indexRoom op.ns op.key then refused stNOSPACE 0 (s.bump 0x10005038)
    else if granted.isNone && !s.reserveOk (recLines op.key.length value.length) then .space s
    else
      let take := fun (v : Nat) (s : State) =>
        let held := ((s.findKey op.ns op.key).map heldVersion).getD 0
        let old := decide (v < held)
        let bypass := s.wouldBypass op.ns op.key
        let (j, s) := s.jrnAdd (mkRec (if tomb then 2 else 1) op.ns op.key v value (bits op.flags 0 2) bypass false false)
        let s := s.jrnComplete j
        let s := if old then s else
          let (_, s) := s.pendKey op.ns op.key 0
          s.showWrite op.ns op.key tomb value v j
        let s := ((s.settle op.ns v).oweSettle op.ns v (b2n old)).forward op.ns v (b2n tomb) op.key value
        let cls := if bits op.flags 0 2 = 2 ∧ s.attachedTo op.ns = false then 0 else bits op.flags 0 2
        Whole.done stOK v (writeResultVal op value) (some { idx := 0, ns := op.ns, version := v, jsn := j, cls := cls, reached := cls = 0 }) s
      if s.underLead then match granted with
        | none => .ask s
        | some v =>
          if op.opcode ≠ 2 ∧ v < ((s.findKey op.ns op.key).map heldVersion).getD 0 then .ask (s.burnGrant op.ns v)
          else take v s
      else if !(s.nsOf op.ns).canTake then .space s
      else let (v, s) := s.takeVersion op.ns
           take v s

/-- The end of a write service: its results, and a write taken joins those the frame's response waits for (R129). `n`: the results
Table 6-11 gives it, both or g3 alone. -/
def State.writeServed (s : State) (t n : Nat) (v : Invoke) (op : OpReq) (status arg : Nat) (val : Bytes) (w : Option WDone) : State :=
  let s := match w with
    | some d => s.updFrame v.frame fun f => { f with writes := f.writes ++ [{ d with idx := f.res.length }] }
    | none => s
  let v := if status = stOK then { v with lastVersion := arg } else v
  let both := op.opcode = 5
  if status = stOK then
    s.resumeTrick t v status (some (BitVec.ofNat 64 arg)) (if both then some (BitVec.ofNat 64 (beNat val)) else none)
  else if op.opcode = 4 ∧ (status = stVERSION ∨ status = stEXISTS) then s.resumeTrick t v status (some (BitVec.ofNat 64 arg)) none
  else s.failService t v status n

/-- A write service whose operands stand in memory: `val` its value's address and length, where it has one. -/
def writeService (opcode : Nat) (t : Nat) (s : State) (v : Invoke) (h : Thread) : State :=
  let r := fun (i : Nat) => (h.g i).toNat
  let hasVal := opcode = 2 ∨ opcode = 4
  let n := if opcode = 5 then 2 else 3
  if !h.inWindow (r 3) (r 4) || (decide hasVal && !h.inWindow (r 5) (r 6)) then s.trickEnd t v stMUZZLED []
  else if !s.noseOpen then s
  else match s.trickSess v with
    | none => s.failService t v stDENIED n
    | some (f, x) =>
      let cls := match f.op with
        | some o => bits o.flags 0 2
        | none => 0
      let op : OpReq := { opcode := opcode, flags := cls, ns := r 2, key := s.dread t (r 3) (r 4), val := if hasVal then s.dread t (r 5) (r 6) else [],
                          arg := if opcode = 4 then r 7 else if opcode = 5 then r 5 else 0 }
      let c := s.setOf f.epoch
      let stay := fun (v : Invoke) (s : State) => s.setTricks { s.tricks with invokes := mset s.tricks.invokes t v }
      if f.waits.isSome then s else
      match v.fwd with
      | some (_, none) => s
      | some (_, some r) => s.writeServed t n v op r.status r.arg r.val none
      | none => match v.grant with
        | some (_, none) => s
        | g =>
          let refuse := fun (st : Nat) (s : State) => (match g with
            | some (_, some k) => if k = 0 then s else s.burnGrant op.ns k
            | _ => s).failService t v st n
          if !keyOk op.key || decide (7936 < op.val.length) then refuse stMALFORMED s
          else if !hasRight x 1 || decide (4096 ≤ op.ns) || !nsAllowed c x op.ns then refuse stDENIED s
          else if v.wait = 2 then refuse stBUSY s
          else match s.trickPlace f c op (s.placeCheck c x op true) with
            | .fail st _ s => refuse st s
            | .proxy _ _ => refuse stREDIRECT s
            | .member p s => s.trickFwd t v p x op
            | .search _ => s.trickFind t n v op
            | .pass s => match s.wholeWrite c op (g.bind (·.2)) with
              | .done st arg val w s => s.writeServed t n v op st arg val w
              | .wait s => stay v s
              | .space s => stay { v with wait := 1 } s
              | .ask s =>
                let tag := s.pack.nextTag
                stay { v with grant := some (tag, none), lines := recLines op.key.length (max op.val.length 8) } (s.linkReq 0x03 0 (op.ns + 0x10000) [] none)

def execKput (t : Fin 256) (s : State) : Out := service t 0x003 true (writeService 2 t) s
def execKcas (t : Fin 256) (s : State) : Out := service t 0x004 true (writeService 4 t) s
def execKdel (t : Fin 256) (s : State) : Out := service t 0x005 true (writeService 3 t) s
def execKadd (t : Fin 256) (s : State) : Out := service t 0x006 true (writeService 5 t) s

/-- INPUT: bytes of the operation's value from an offset on; fewer where the input ends. -/
def inputService (t : Nat) (s : State) (v : Invoke) (h : Thread) : State :=
  let off := (h.g 2).toNat; let dst := (h.g 3).toNat; let n := (h.g 4).toNat
  if !h.inWindow dst n then s.trickEnd t v stMUZZLED []
  else
    let b := slice v.input off n
    (s.dwrite t dst b).resumeTrick t v stOK none (some (BitVec.ofNat 64 b.length))
def execInput (t : Fin 256) (s : State) : Out := service t 0x010 false (inputService t) s

/-- NOW: the PHC (R405). -/
def nowService (t : Nat) (s : State) (v : Invoke) (_ : Thread) : State := s.resumeTrick t v stOK (some (BitVec.ofNat 64 s.phcNs)) none
def execNow (t : Fin 256) (s : State) : Out := service t 0x011 false (nowService t) s

/-- RANDOM: 64 bits of the DRBG, or INTERNAL while the noise source is in alarm (R440, R441). -/
def randomService (t : Nat) (s : State) (v : Invoke) (_ : Thread) : State :=
  if s.flag rRngStatus 1 then s.failService t v stINTERNAL 3
  else
    let (w, s) := s.draw
    (s.setCph { s.cph with drbgReqs := s.cph.drbgReqs + 1 }).resumeTrick t v stOK (some w) none
def execRandom (t : Fin 256) (s : State) : Out := service t 0x012 false (randomService t) s

/-- The lane a trick's key runs in: its engine's, or that of its collar's team (R435). -/
def State.trickLane (s : State) (t n : Nat) : Nat :=
  let x := s.slot n
  if x.typ = 8 then x.collar / 2 else t / 32

/-- The service's cipher job joins its lane. -/
def State.sealJob (s : State) (t op : Nat) (v : Invoke) (n : Nat) (h : Thread) (i : Nat) : State :=
  let desc := leBytes 1 op ++ zeros 1 ++ leBytes 2 n ++ zeros 4 ++ leBytes 8 (h.g 2).toNat ++ leBytes 8 (h.g 4).toNat ++
    leBytes 4 (h.g 3).toNat ++ zeros 2 ++ leBytes 2 v.trick.tenant ++ zeros 32
  let j : CJob := { id := s.cph.nextJob, thread := t, ticket := i, desc := desc, state := .queued, bound := none, gone := false,
                    svc := some (s.trickLane t n) }
  let s := s.setTh t { h with tickets := setNth h.tickets i .busy }
  let s := s.setCph { s.cph with jobs := s.cph.jobs ++ [j], nextJob := s.cph.nextJob + 1 }
  s.setTricks { s.tricks with invokes := mset s.tricks.invokes t { v with job := some i } }

/-- SEAL and UNSEAL: a job of the trick's key slot; the service goes on at the job's end (R275, R276). -/
def sealService (op : Nat) (t : Nat) (s : State) (v : Invoke) (h : Thread) : State :=
  let src := (h.g 2).toNat; let n := (h.g 3).toNat; let dst := (h.g 4).toNat
  let out := if op = 8 then n + 28 else n - 28
  if !h.inWindow src n || !h.inWindow dst out then s.trickEnd t v stMUZZLED []
  else match v.trick.keyslot with
    | none => s.failService t v stDENIED 4
    | some ks => match v.job with
      | none => match freeTicket h.tickets with
        | some i => s.sealJob t op v ks h i
        | none => s
      | some i => match h.tickets[i]? with
        | some (.done w) =>
          let s := s.setTh t { h with tickets := setNth h.tickets i .free }
          let st := w % 256
          if st = 0 then s.resumeTrick t v stOK none (some (BitVec.ofNat 64 (bits w 32 28)))
          else if st = 2 then s.trickEnd t v stREVOKED []
          else if st = 4 then s.failService t v stDENIED 4
          else s.failService t v stINTERNAL 4
        | _ => s
def execSealService (t : Fin 256) (s : State) : Out := service t 0x020 false (sealService 8 t) s
def execUnsealService (t : Fin 256) (s : State) : Out := service t 0x021 false (sealService 9 t) s

end Sys2Proof.Machine
end

