-- ==== Sys2Proof/Machine/Dispatch.lean ====
section
/-! DEFINITION. One arm for each command, a direct call of its meaning. -/
namespace Sys2Proof.Machine

def exec (i : Instr) (s : State) : Host.Outcome State Fault Refusal :=
  match i with
  | .registerWrite w a v => Sys2Proof.Machine.execRegisterWrite w a v s
  | .rcRead a => Sys2Proof.Machine.execRcRead a s
  | .counterLowRead a => Sys2Proof.Machine.execCounterLowRead a s
  | .counterHighRead a => Sys2Proof.Machine.execCounterHighRead a s
  | .macRxFrame p raw w => Sys2Proof.Machine.execMacRxFrame p raw w s
  | .retrieverFrame p full ecc => Sys2Proof.Machine.execRetrieverFrame p full ecc s
  | .contextRestore p => Sys2Proof.Machine.execContextRestore p s
  | .contextRestoreDone sid ok => Sys2Proof.Machine.execContextRestoreDone sid ok s
  | .restoreTimeout => Sys2Proof.Machine.execRestoreTimeout s
  | .dispatchDelivery => Sys2Proof.Machine.execDispatchDelivery s
  | .messageArrival e => Sys2Proof.Machine.execMessageArrival e s
  | .dispatchGiveUp => Sys2Proof.Machine.execDispatchGiveUp s
  | .roleAssign e role => Sys2Proof.Machine.execRoleAssign e role s
  | .roleChange e => Sys2Proof.Machine.execRoleChange e s
  | .roleChangeAck e => Sys2Proof.Machine.execRoleChangeAck e s
  | .stopped => Sys2Proof.Machine.execStopped s
  | .sessionRelease sid => Sys2Proof.Machine.execSessionRelease sid s
  | .fetchFrameAccept id t => Sys2Proof.Machine.execFetchFrameAccept id t s
  | .holdTimeoutExpiry sid => Sys2Proof.Machine.execHoldTimeoutExpiry sid s
  | .get id bad => Sys2Proof.Machine.execGet id bad s
  | .put id st => Sys2Proof.Machine.execPut id st s
  | .delete id st => Sys2Proof.Machine.execDelete id st s
  | .cas id st => Sys2Proof.Machine.execCas id st s
  | .fetchAdd id st => Sys2Proof.Machine.execFetchAdd id st s
  | .append id st => Sys2Proof.Machine.execAppend id st s
  | .head id bad => Sys2Proof.Machine.execHead id bad s
  | .scan id bad => Sys2Proof.Machine.execScan id bad s
  | .scanNext id bad => Sys2Proof.Machine.execScanNext id bad s
  | .barrier id => Sys2Proof.Machine.execBarrier id s
  | .trick id t => Sys2Proof.Machine.execTrick id t s
  | .ping id => Sys2Proof.Machine.execPing id s
  | .segmentFirst id => Sys2Proof.Machine.execSegmentFirst id s
  | .seg id => Sys2Proof.Machine.execSeg id s
  | .segTimeoutExpiry sess => Sys2Proof.Machine.execSegTimeoutExpiry sess s
  | .rekey id => Sys2Proof.Machine.execRekey id s
  | .close id => Sys2Proof.Machine.execClose id s
  | .dirUpdate id => Sys2Proof.Machine.execDirUpdate id s
  | .mirrorFwdValue id => Sys2Proof.Machine.execMirrorFwdValue id s
  | .mirrorFwdTombstone id => Sys2Proof.Machine.execMirrorFwdTombstone id s
  | .mirrorFwdBurnt id => Sys2Proof.Machine.execMirrorFwdBurnt id s
  | .mirrorFwdSkip id => Sys2Proof.Machine.execMirrorFwdSkip id s
  | .packFwd id => Sys2Proof.Machine.execPackFwd id s
  | .cfgRead id => Sys2Proof.Machine.execCfgRead id s
  | .journalWaitTimeout id => Sys2Proof.Machine.execJournalWaitTimeout id s
  | .mirrorAck ns follower v => Sys2Proof.Machine.execMirrorAck ns follower v s
  | .mirrorTimeoutExpiry id idx => Sys2Proof.Machine.execMirrorTimeoutExpiry id idx s
  | .proxyResponse id status cls arg val => Sys2Proof.Machine.execProxyResponse id status cls arg val s
  | .snapshotExpiry n => Sys2Proof.Machine.execSnapshotExpiry n s
  | .cursorIdleExpiry n => Sys2Proof.Machine.execCursorIdleExpiry n s
  | .rekeyGraceExpiry sid => Sys2Proof.Machine.execRekeyGraceExpiry sid s
  | .frameResponse id => Sys2Proof.Machine.execFrameResponse id s
  | .getContinuation id => Sys2Proof.Machine.execGetContinuation id s
  | .noseSlotGrant ecc => Sys2Proof.Machine.execNoseSlotGrant ecc s
  | .slotRequestPromote => Sys2Proof.Machine.execSlotRequestPromote s
  | .wideWindowReset => Sys2Proof.Machine.execWideWindowReset s
  | .noseScrub ecc => Sys2Proof.Machine.execNoseScrub ecc s
  | .leashSample temp => Sys2Proof.Machine.execLeashSample temp s
  | .handoffCursorExpiry id => Sys2Proof.Machine.execHandoffCursorExpiry id s
  | .noseInitComplete => Sys2Proof.Machine.execNoseInitComplete s
  | .packSyncPulse => Sys2Proof.Machine.execPackSyncPulse s
  | .packSyncLoss => Sys2Proof.Machine.execPackSyncLoss s
  | .searchMessage m matchIn late ecc => Sys2Proof.Machine.execSearchMessage m matchIn late ecc s
  | .resultMessage m => Sys2Proof.Machine.execResultMessage m s
  | .packResultTimeout num => Sys2Proof.Machine.execPackResultTimeout num s
  | .linkFrameRelay flits => Sys2Proof.Machine.execLinkFrameRelay flits s
  | .fwdReq w => Sys2Proof.Machine.execFwdReq w s
  | .fwdResp w => Sys2Proof.Machine.execFwdResp w s
  | .verReq w => Sys2Proof.Machine.execVerReq w s
  | .verGrant w => Sys2Proof.Machine.execVerGrant w s
  | .settle w => Sys2Proof.Machine.execSettle w s
  | .settleAck w => Sys2Proof.Machine.execSettleAck w s
  | .horizonReq w => Sys2Proof.Machine.execHorizonReq w s
  | .horizon w => Sys2Proof.Machine.execHorizon w s
  | .snapNote w => Sys2Proof.Machine.execSnapNote w s
  | .hello w => Sys2Proof.Machine.execHello w s
  | .helloSend => Sys2Proof.Machine.execHelloSend s
  | .helloTimeout pos => Sys2Proof.Machine.execHelloTimeout pos s
  | .train w last => Sys2Proof.Machine.execTrain w last s
  | .pckRetryExpiry tag => Sys2Proof.Machine.execPckRetryExpiry tag s
  | .packLaneLockLost lane => Sys2Proof.Machine.execPackLaneLockLost lane s
  | .packLinkEnable => Sys2Proof.Machine.execPackLinkEnable s
  | .packAligned => Sys2Proof.Machine.execPackAligned s
  | .packUpTimeout => Sys2Proof.Machine.execPackUpTimeout s
  | .packAbsentBurn pos => Sys2Proof.Machine.execPackAbsentBurn pos s
  | .threadRunSet t => Sys2Proof.Machine.execThreadRunSet t s
  | .threadRunClear t => Sys2Proof.Machine.execThreadRunClear t s
  | .add t rd rs1 rs2 => Sys2Proof.Machine.execAdd t rd rs1 rs2 s
  | .sub t rd rs1 rs2 => Sys2Proof.Machine.execSub t rd rs1 rs2 s
  | .and t rd rs1 rs2 => Sys2Proof.Machine.execAnd t rd rs1 rs2 s
  | .or t rd rs1 rs2 => Sys2Proof.Machine.execOr t rd rs1 rs2 s
  | .xor t rd rs1 rs2 => Sys2Proof.Machine.execXor t rd rs1 rs2 s
  | .andn t rd rs1 rs2 => Sys2Proof.Machine.execAndn t rd rs1 rs2 s
  | .sll t rd rs1 rs2 => Sys2Proof.Machine.execSll t rd rs1 rs2 s
  | .srl t rd rs1 rs2 => Sys2Proof.Machine.execSrl t rd rs1 rs2 s
  | .sra t rd rs1 rs2 => Sys2Proof.Machine.execSra t rd rs1 rs2 s
  | .slt t rd rs1 rs2 => Sys2Proof.Machine.execSlt t rd rs1 rs2 s
  | .sltu t rd rs1 rs2 => Sys2Proof.Machine.execSltu t rd rs1 rs2 s
  | .min t rd rs1 rs2 => Sys2Proof.Machine.execMin t rd rs1 rs2 s
  | .max t rd rs1 rs2 => Sys2Proof.Machine.execMax t rd rs1 rs2 s
  | .minu t rd rs1 rs2 => Sys2Proof.Machine.execMinu t rd rs1 rs2 s
  | .maxu t rd rs1 rs2 => Sys2Proof.Machine.execMaxu t rd rs1 rs2 s
  | .mul t rd rs1 rs2 => Sys2Proof.Machine.execMul t rd rs1 rs2 s
  | .mulh t rd rs1 rs2 => Sys2Proof.Machine.execMulh t rd rs1 rs2 s
  | .mulhu t rd rs1 rs2 => Sys2Proof.Machine.execMulhu t rd rs1 rs2 s
  | .div t rd rs1 rs2 => Sys2Proof.Machine.execDiv t rd rs1 rs2 s
  | .divu t rd rs1 rs2 => Sys2Proof.Machine.execDivu t rd rs1 rs2 s
  | .rem t rd rs1 rs2 => Sys2Proof.Machine.execRem t rd rs1 rs2 s
  | .remu t rd rs1 rs2 => Sys2Proof.Machine.execRemu t rd rs1 rs2 s
  | .clz t rd rs1 => Sys2Proof.Machine.execClz t rd rs1 s
  | .ctz t rd rs1 => Sys2Proof.Machine.execCtz t rd rs1 s
  | .popc t rd rs1 => Sys2Proof.Machine.execPopc t rd rs1 s
  | .bswap t rd rs1 => Sys2Proof.Machine.execBswap t rd rs1 s
  | .bswapw t rd rs1 => Sys2Proof.Machine.execBswapw t rd rs1 s
  | .bswaph t rd rs1 => Sys2Proof.Machine.execBswaph t rd rs1 s
  | .sextb t rd rs1 => Sys2Proof.Machine.execSextb t rd rs1 s
  | .sexth t rd rs1 => Sys2Proof.Machine.execSexth t rd rs1 s
  | .sextw t rd rs1 => Sys2Proof.Machine.execSextw t rd rs1 s
  | .zextw t rd rs1 => Sys2Proof.Machine.execZextw t rd rs1 s
  | .addi t rd rs1 imm => Sys2Proof.Machine.execAddi t rd rs1 imm s
  | .andi t rd rs1 imm => Sys2Proof.Machine.execAndi t rd rs1 imm s
  | .ori t rd rs1 imm => Sys2Proof.Machine.execOri t rd rs1 imm s
  | .xori t rd rs1 imm => Sys2Proof.Machine.execXori t rd rs1 imm s
  | .slti t rd rs1 imm => Sys2Proof.Machine.execSlti t rd rs1 imm s
  | .sltiu t rd rs1 imm => Sys2Proof.Machine.execSltiu t rd rs1 imm s
  | .slli t rd rs1 sh => Sys2Proof.Machine.execSlli t rd rs1 sh s
  | .srli t rd rs1 sh => Sys2Proof.Machine.execSrli t rd rs1 sh s
  | .srai t rd rs1 sh => Sys2Proof.Machine.execSrai t rd rs1 sh s
  | .lui t rd imm => Sys2Proof.Machine.execLui t rd imm s
  | .lb t rd rs1 imm up => Sys2Proof.Machine.execLb t rd rs1 imm up s
  | .lbu t rd rs1 imm up => Sys2Proof.Machine.execLbu t rd rs1 imm up s
  | .lh t rd rs1 imm up => Sys2Proof.Machine.execLh t rd rs1 imm up s
  | .lhu t rd rs1 imm up => Sys2Proof.Machine.execLhu t rd rs1 imm up s
  | .lw t rd rs1 imm up => Sys2Proof.Machine.execLw t rd rs1 imm up s
  | .lwu t rd rs1 imm up => Sys2Proof.Machine.execLwu t rd rs1 imm up s
  | .ld t rd rs1 imm up => Sys2Proof.Machine.execLd t rd rs1 imm up s
  | .sb t rs2 rs1 imm => Sys2Proof.Machine.execSb t rs2 rs1 imm s
  | .sh t rs2 rs1 imm => Sys2Proof.Machine.execSh t rs2 rs1 imm s
  | .sw t rs2 rs1 imm => Sys2Proof.Machine.execSw t rs2 rs1 imm s
  | .sd t rs2 rs1 imm => Sys2Proof.Machine.execSd t rs2 rs1 imm s
  | .beq t rs1 rs2 imm => Sys2Proof.Machine.execBeq t rs1 rs2 imm s
  | .bne t rs1 rs2 imm => Sys2Proof.Machine.execBne t rs1 rs2 imm s
  | .blt t rs1 rs2 imm => Sys2Proof.Machine.execBlt t rs1 rs2 imm s
  | .bge t rs1 rs2 imm => Sys2Proof.Machine.execBge t rs1 rs2 imm s
  | .bltu t rs1 rs2 imm => Sys2Proof.Machine.execBltu t rs1 rs2 imm s
  | .bgeu t rs1 rs2 imm => Sys2Proof.Machine.execBgeu t rs1 rs2 imm s
  | .jal t rd imm => Sys2Proof.Machine.execJal t rd imm s
  | .jalr t rd rs1 imm => Sys2Proof.Machine.execJalr t rd rs1 imm s
  | .loop t cnt len => Sys2Proof.Machine.execLoop t cnt len s
  | .loopr t rs len => Sys2Proof.Machine.execLoopr t rs len s
  | .csrrw t rd rs1 n => Sys2Proof.Machine.execCsrrw t rd rs1 n s
  | .csrrs t rd rs1 n => Sys2Proof.Machine.execCsrrs t rd rs1 n s
  | .csrrc t rd rs1 n => Sys2Proof.Machine.execCsrrc t rd rs1 n s
  | .iord t rd rs1 imm => Sys2Proof.Machine.execIord t rd rs1 imm s
  | .iowr t rs2 rs1 imm => Sys2Proof.Machine.execIowr t rs2 rs1 imm s
  | .msend t rs1 rs2 => Sys2Proof.Machine.execMsend t rs1 rs2 s
  | .mrecv t rd nb => Sys2Proof.Machine.execMrecv t rd nb s
  | .dma t rd rs1 => Sys2Proof.Machine.execDma t rd rs1 s
  | .dmaJobStart m => Sys2Proof.Machine.execDmaJobStart m s
  | .dmaJobComplete id ce ue old => Sys2Proof.Machine.execDmaJobComplete id ce ue old s
  | .femit t rd rs1 => Sys2Proof.Machine.execFemit t rd rs1 s
  | .femitComplete id ce ue => Sys2Proof.Machine.execFemitComplete id ce ue s
  | .wait t rd mask all => Sys2Proof.Machine.execWait t rd mask all s
  | .nsrch t rd rs1 mask => Sys2Proof.Machine.execNsrch t rd rs1 mask s
  | .nnext t rd rs1 mask => Sys2Proof.Machine.execNnext t rd rs1 mask s
  | .nloc t rd rs1 strict => Sys2Proof.Machine.execNloc t rd rs1 strict s
  | .npsrch t rd rs1 mask => Sys2Proof.Machine.execNpsrch t rd rs1 mask s
  | .nins t rd rs1 => Sys2Proof.Machine.execNins t rd rs1 s
  | .ndel t rd => Sys2Proof.Machine.execNdel t rd s
  | .nadw t rd rs2 kind => Sys2Proof.Machine.execNadw t rd rs2 kind s
  | .nkind t rd kind => Sys2Proof.Machine.execNkind t rd kind s
  | .nadr t rd => Sys2Proof.Machine.execNadr t rd s
  | .nadopt t rd rs2 => Sys2Proof.Machine.execNadopt t rd rs2 s
  | .kload t rs1 rs2 up => Sys2Proof.Machine.execKload t rs1 rs2 up s
  | .kcmp t rd rs1 rs2 up => Sys2Proof.Machine.execKcmp t rd rs1 rs2 up s
  | .khash16 t rd up => Sys2Proof.Machine.execKhash16 t rd up s
  | .khash32 t rd rs1 up => Sys2Proof.Machine.execKhash32 t rd rs1 up s
  | .kword t rs1 rs2 up => Sys2Proof.Machine.execKword t rs1 rs2 up s
  | .fopr t rd rs1 up => Sys2Proof.Machine.execFopr t rd rs1 up s
  | .foph t rs1 rs2 rs3 => Sys2Proof.Machine.execFoph t rs1 rs2 rs3 s
  | .yield t => Sys2Proof.Machine.execYield t s
  | .brk t code => Sys2Proof.Machine.execBrk t code s
  | .eret t => Sys2Proof.Machine.execEret t s
  | .mzenter t resume => Sys2Proof.Machine.execMzenter t resume s
  | .mzexit t rs1 => Sys2Proof.Machine.execMzexit t rs1 s
  | .mzBudget t => Sys2Proof.Machine.execMzBudget t s
  | .kget t bad => Sys2Proof.Machine.execKget t bad s
  | .khead t bad => Sys2Proof.Machine.execKhead t bad s
  | .kput t => Sys2Proof.Machine.execKput t s
  | .kcas t => Sys2Proof.Machine.execKcas t s
  | .kdel t => Sys2Proof.Machine.execKdel t s
  | .kadd t => Sys2Proof.Machine.execKadd t s
  | .input t => Sys2Proof.Machine.execInput t s
  | .now t => Sys2Proof.Machine.execNow t s
  | .random t => Sys2Proof.Machine.execRandom t s
  | .sealService t => Sys2Proof.Machine.execSealService t s
  | .unsealService t => Sys2Proof.Machine.execUnsealService t s
  | .gcmEnc t rd rs1 => Sys2Proof.Machine.execGcmEnc t rd rs1 s
  | .gcmDec t rd rs1 => Sys2Proof.Machine.execGcmDec t rd rs1 s
  | .xtsEnc t rd rs1 => Sys2Proof.Machine.execXtsEnc t rd rs1 s
  | .xtsDec t rd rs1 => Sys2Proof.Machine.execXtsDec t rd rs1 s
  | .kwWrap t rd rs1 => Sys2Proof.Machine.execKwWrap t rd rs1 s
  | .kwUnwrap t rd rs1 => Sys2Proof.Machine.execKwUnwrap t rd rs1 s
  | .sha384 t rd rs1 => Sys2Proof.Machine.execSha384 t rd rs1 s
  | .sealJob t rd rs1 => Sys2Proof.Machine.execSeal t rd rs1 s
  | .unsealJob t rd rs1 => Sys2Proof.Machine.execUnseal t rd rs1 s
  | .cipherJobStart m => Sys2Proof.Machine.execCipherJobStart m s
  | .cipherJobEnd id ce ue old => Sys2Proof.Machine.execCipherJobEnd id ce ue old s
  | .flashRead t rd rs1 => Sys2Proof.Machine.execFlashRead t rd rs1 s
  | .flashProgram t rd rs1 => Sys2Proof.Machine.execFlashProgram t rd rs1 s
  | .flashParity t rd rs1 => Sys2Proof.Machine.execFlashParity t rd rs1 s
  | .flashErase t rd rs1 => Sys2Proof.Machine.execFlashErase t rd rs1 s
  | .flashRaw t rd rs1 => Sys2Proof.Machine.execFlashRaw t rd rs1 s
  | .flashJobStart lun => Sys2Proof.Machine.execFlashJobStart lun s
  | .flashStatusPoll lost => Sys2Proof.Machine.execFlashStatusPoll lost s
  | .flashJobComplete id fates fail ce ue old raw => Sys2Proof.Machine.execFlashJobComplete id fates fail ce ue old raw s
  | .flashChannelInit ch mode rate present bad => Sys2Proof.Machine.execFlashChannelInit ch mode rate present bad s
  | .flushPass => Sys2Proof.Machine.execFlushPass s
  | .hardWaitExpiry => Sys2Proof.Machine.execHardWaitExpiry s
  | .groomMerge n => Sys2Proof.Machine.execGroomMerge n s
  | .groomRelocate n => Sys2Proof.Machine.execGroomRelocate n s
  | .dramRequest a write data mask old rt => Sys2Proof.Machine.execDramRequest a write data mask old rt s
  | .dramCommandIssue ch timed => Sys2Proof.Machine.execDramCommandIssue ch timed s
  | .dramPowerDown ch => Sys2Proof.Machine.execDramPowerDown ch s
  | .dramRefreshDue ch => Sys2Proof.Machine.execDramRefreshDue ch s
  | .zqLatch ch => Sys2Proof.Machine.execZqLatch ch s
  | .mr4Poll hot => Sys2Proof.Machine.execMr4Poll hot s
  | .dramInitComplete => Sys2Proof.Machine.execDramInitComplete s
  | .fspChange target => Sys2Proof.Machine.execFspChange target s
  | .fspHowlTimeout => Sys2Proof.Machine.execFspHowlTimeout s
  | .fspChangeComplete => Sys2Proof.Machine.execFspChangeComplete s
  | .selfRefreshEnter => Sys2Proof.Machine.execSelfRefreshEnter s
  | .selfRefreshExit => Sys2Proof.Machine.execSelfRefreshExit s
  | .trainWindowOpen ch => Sys2Proof.Machine.execTrainWindowOpen ch s
  | .trainWindowClose ch apply => Sys2Proof.Machine.execTrainWindowClose ch apply s
  | .trainWindowTimeout ch => Sys2Proof.Machine.execTrainWindowTimeout ch s
  | .mrWrite ch rank ma opd => Sys2Proof.Machine.execMrWrite ch rank ma opd s
  | .mrRead ch rank ma => Sys2Proof.Machine.execMrRead ch rank ma s
  | .caTrainingStep ch rank => Sys2Proof.Machine.execCaTrainingStep ch rank s
  | .wckLevellingStep ch rank => Sys2Proof.Machine.execWckLevellingStep ch rank s
  | .readDqCalibration ch rank => Sys2Proof.Machine.execReadDqCalibration ch rank s
  | .writeFifo ch rank => Sys2Proof.Machine.execWriteFifo ch rank s
  | .readFifo ch rank => Sys2Proof.Machine.execReadFifo ch rank s
  | .trainOpComplete capture => Sys2Proof.Machine.execTrainOpComplete capture s
  | .dramScrub ecc => Sys2Proof.Machine.execDramScrub ecc s
  | .eccWindow ch => Sys2Proof.Machine.execEccWindow ch s
  | .linkRestart p => Sys2Proof.Machine.execLinkRestart p s
  | .linkUp p => Sys2Proof.Machine.execLinkUp p s
  | .linkDown p => Sys2Proof.Machine.execLinkDown p s
  | .moduleRead p addr page len paged => Sys2Proof.Machine.execModuleRead p addr page len paged s
  | .moduleWrite p addr page len paged data => Sys2Proof.Machine.execModuleWrite p addr page len paged data s
  | .moduleTransactionEnd p nack timeout data => Sys2Proof.Machine.execModuleTransactionEnd p nack timeout data s
  | .modulePresenceChange p present => Sys2Proof.Machine.execModulePresenceChange p present s
  | .moduleInterrupt p low => Sys2Proof.Machine.execModuleInterrupt p low s
  | .rxFree p addr => Sys2Proof.Machine.execRxFree p addr s
  | .pfcRefresh p prio => Sys2Proof.Machine.execPfcRefresh p prio s
  | .pauseExpiry p prio => Sys2Proof.Machine.execPauseExpiry p prio s
  | .pauseWatchdog p prio => Sys2Proof.Machine.execPauseWatchdog p prio s
  | .watchdogHoldEnd p prio => Sys2Proof.Machine.execWatchdogHoldEnd p prio s
  | .macTxSelect p => Sys2Proof.Machine.execMacTxSelect p s
  | .macTxFrameEnd p => Sys2Proof.Machine.execMacTxFrameEnd p s
  | .gateEntryChange p => Sys2Proof.Machine.execGateEntryChange p s
  | .tgCommit p => Sys2Proof.Machine.execTgCommit p s
  | .tgCancel p => Sys2Proof.Machine.execTgCancel p s
  | .tgChange p => Sys2Proof.Machine.execTgChange p s
  | .phcStep => Sys2Proof.Machine.execPhcStep s
  | .dozeLower p => Sys2Proof.Machine.execDozeLower p s
  | .dozeRaise p => Sys2Proof.Machine.execDozeRaise p s
  | .dozeLinkDown p => Sys2Proof.Machine.execDozeLinkDown p s
  | .dozeFail p => Sys2Proof.Machine.execDozeFail p s
  | .mgtRxFrame raw good => Sys2Proof.Machine.execMgtRxFrame raw good s
  | .keyWrite => Sys2Proof.Machine.execKeyWrite s
  | .keyStage => Sys2Proof.Machine.execKeyStage s
  | .keyErase => Sys2Proof.Machine.execKeyErase s
  | .keyEraseNow => Sys2Proof.Machine.execKeyEraseNow s
  | .keyQuery => Sys2Proof.Machine.execKeyQuery s
  | .collarWrite => Sys2Proof.Machine.execCollarWrite s
  | .collarEraseNow => Sys2Proof.Machine.execCollarEraseNow s
  | .drbgReseed ok rct apt => Sys2Proof.Machine.execDrbgReseed ok rct apt s
  | .sessionOpen => Sys2Proof.Machine.execSessionOpen s
  | .sessionClose => Sys2Proof.Machine.execSessionClose s
  | .sessionCloseEraseNow => Sys2Proof.Machine.execSessionCloseEraseNow s
  | .cfgWrite => Sys2Proof.Machine.execCfgWrite s
  | .clearNs => Sys2Proof.Machine.execClearNs s
  | .cfgCommit => Sys2Proof.Machine.execCfgCommit s
  | .startCommit page => Sys2Proof.Machine.execStartCommit page s
  | .commitOldHeldTimeout => Sys2Proof.Machine.execCommitOldHeldTimeout s
  | .cfgDiscard => Sys2Proof.Machine.execCfgDiscard s
  | .cfgResult => Sys2Proof.Machine.execCfgResult s
  | .cfgPersist => Sys2Proof.Machine.execCfgPersist s
  | .keyResult => Sys2Proof.Machine.execKeyResult s
  | .serveLoad => Sys2Proof.Machine.execServeLoad s
  | .handlerLoad => Sys2Proof.Machine.execHandlerLoad s
  | .trickLoad => Sys2Proof.Machine.execTrickLoad s
  | .trickUnload => Sys2Proof.Machine.execTrickUnload s
  | .loadResult => Sys2Proof.Machine.execLoadResult s
  | .pmonSet => Sys2Proof.Machine.execPmonSet s
  | .modeReport => Sys2Proof.Machine.execModeReport s
  | .heartbeat => Sys2Proof.Machine.execHeartbeat s
  | .svSilent => Sys2Proof.Machine.execSvSilent s
  | .timeSet => Sys2Proof.Machine.execTimeSet s
  | .timeAdj => Sys2Proof.Machine.execTimeAdj s
  | .ptpTx => Sys2Proof.Machine.execPtpTx s
  | .ptpRx => Sys2Proof.Machine.execPtpRx s
  | .txTimestamp p => Sys2Proof.Machine.execTxTimestamp p s
  | .diagTap => Sys2Proof.Machine.execDiagTap s
  | .diagRead => Sys2Proof.Machine.execDiagRead s
  | .diagData => Sys2Proof.Machine.execDiagData s
  | .event => Sys2Proof.Machine.execEvent s
  | .alarm => Sys2Proof.Machine.execAlarm s
  | .imageFwd frame => Sys2Proof.Machine.execImageFwd frame s
  | .imageReply => Sys2Proof.Machine.execImageReply s
  | .nak atKeeper ecc => Sys2Proof.Machine.execNak atKeeper ecc s
  | .fenTxPush => Sys2Proof.Machine.execFenTxPush s
  | .fenRxPop => Sys2Proof.Machine.execFenRxPop s
  | .fenceHoldTimeout => Sys2Proof.Machine.execFenceHoldTimeout s
  | .keeperRd i3c => Sys2Proof.Machine.execKeeperRd i3c s
  | .keeperWr w i3c => Sys2Proof.Machine.execKeeperWr w i3c s
  | .keeperCfg i3c => Sys2Proof.Machine.execKeeperCfg i3c s
  | .i3cPrivateRead => Sys2Proof.Machine.execI3cPrivateRead s
  | .i3cDynamicAddress da => Sys2Proof.Machine.execI3cDynamicAddress da s
  | .wdogKick => Sys2Proof.Machine.execWdogKick s
  | .keeperWatchdogExpiry w => Sys2Proof.Machine.execKeeperWatchdogExpiry w s
  | .requestServe => Sys2Proof.Machine.execRequestServe s
  | .requestSit => Sys2Proof.Machine.execRequestSit s
  | .requestDrain after wakeTo => Sys2Proof.Machine.execRequestDrain after wakeTo s
  | .drainTimeout => Sys2Proof.Machine.execDrainTimeout s
  | .drainComplete w => Sys2Proof.Machine.execDrainComplete w s
  | .requestWake goal => Sys2Proof.Machine.execRequestWake goal s
  | .napTimerExpiry => Sys2Proof.Machine.execNapTimerExpiry s
  | .requestTest => Sys2Proof.Machine.execRequestTest s
  | .requestBoot => Sys2Proof.Machine.execRequestBoot s
  | .requestFault => Sys2Proof.Machine.execRequestFault s
  | .thermTrip => Sys2Proof.Machine.execThermTrip s
  | .svPgoodFall => Sys2Proof.Machine.execSvPgoodFall s
  | .svPgoodRise => Sys2Proof.Machine.execSvPgoodRise s
  | .svrstRelease packPos testEn post kat => Sys2Proof.Machine.execSvrstRelease packPos testEn post kat s
  | .svPwrTimeout => Sys2Proof.Machine.execSvPwrTimeout s
  | .svPwrEnSet => Sys2Proof.Machine.execSvPwrEnSet s
  | .svPwrEnClear => Sys2Proof.Machine.execSvPwrEnClear s
  | .svResetSet => Sys2Proof.Machine.execSvResetSet s
  | .svResetClear => Sys2Proof.Machine.execSvResetClear s
  | .fullReset w => Sys2Proof.Machine.execFullReset w s
  | .pwrLock => Sys2Proof.Machine.execPwrLock s
  | .aonPor => Sys2Proof.Machine.execAonPor s
  | .porst e => Sys2Proof.Machine.execPorst e s
  | .svUv => Sys2Proof.Machine.execSvUv s
  | .senseResetLevel mv => Sys2Proof.Machine.execSenseResetLevel mv s
  | .supplyWarning mv pfailLow => Sys2Proof.Machine.execSupplyWarning mv pfailLow s
  | .braceComplete header w => Sys2Proof.Machine.execBraceComplete header w s
  | .supplyWarningClear mv => Sys2Proof.Machine.execSupplyWarningClear mv s
  | .braceReturn w => Sys2Proof.Machine.execBraceReturn w s
  | .trlAppGo => Sys2Proof.Machine.execTrlAppGo s
  | .eventClose => Sys2Proof.Machine.execEventClose s
  | .trailPageProgram ok => Sys2Proof.Machine.execTrailPageProgram ok s
  | .trailHalfErase ok => Sys2Proof.Machine.execTrailHalfErase ok s
  | .trailScrub e addr => Sys2Proof.Machine.execTrailScrub e addr s
  | .trailLookup seq e => Sys2Proof.Machine.execTrailLookup seq e s
  | .trailLookupDone => Sys2Proof.Machine.execTrailLookupDone s
  | .trlWallWrite v => Sys2Proof.Machine.execTrlWallWrite v s
  | .norRetry ok => Sys2Proof.Machine.execNorRetry ok s
  | .alarmClear => Sys2Proof.Machine.execAlarmClear s
  | .imageBegin nor => Sys2Proof.Machine.execImageBegin nor s
  | .imageData nor => Sys2Proof.Machine.execImageData nor s
  | .imageEnd nor w => Sys2Proof.Machine.execImageEnd nor w s
  | .imageAbort => Sys2Proof.Machine.execImageAbort s
  | .imageStatus => Sys2Proof.Machine.execImageStatus s
  | .imageConfirm nor => Sys2Proof.Machine.execImageConfirm nor s
  | .imageFuseNow nor => Sys2Proof.Machine.execImageFuseNow nor s
  | .updConfirm nor => Sys2Proof.Machine.execUpdConfirm nor s
  | .updAbort => Sys2Proof.Machine.execUpdAbort s
  | .updFuseNow nor => Sys2Proof.Machine.execUpdFuseNow nor s
  | .claimLapse => Sys2Proof.Machine.execClaimLapse s
  | .probationExpiry => Sys2Proof.Machine.execProbationExpiry s
  | .fuseOpImageAnchor => Sys2Proof.Machine.execFuseOpImageAnchor s
  | .fuseOpHandlerAnchor => Sys2Proof.Machine.execFuseOpHandlerAnchor s
  | .fuseMgmtKey => Sys2Proof.Machine.execFuseMgmtKey s
  | .fuseRevoke anchor => Sys2Proof.Machine.execFuseRevoke anchor s
  | .netLoopbackSelect p depth => Sys2Proof.Machine.execNetLoopbackSelect p depth s
  | .pckLoopbackSelect lane depth => Sys2Proof.Machine.execPckLoopbackSelect lane depth s
  | .dramLoopbackSelect mask => Sys2Proof.Machine.execDramLoopbackSelect mask s
  | .flashLoopbackSelect mask => Sys2Proof.Machine.execFlashLoopbackSelect mask s
  | .mgtLoopbackSelect depth timeout => Sys2Proof.Machine.execMgtLoopbackSelect depth timeout s
  | .mgtTestTimeout => Sys2Proof.Machine.execMgtTestTimeout s
  | .norLoopback => Sys2Proof.Machine.execNorLoopback s
  | .norLoopbackDone failbits => Sys2Proof.Machine.execNorLoopbackDone failbits s
  | .prbsInject l => Sys2Proof.Machine.execPrbsInject l s
  | .prbsLockLost l errs fail => Sys2Proof.Machine.execPrbsLockLost l errs fail s
  | .fgFrameSend p => Sys2Proof.Machine.execFgFrameSend p s
  | .bistGo targets => Sys2Proof.Machine.execBistGo targets s
  | .bistComplete fail addr => Sys2Proof.Machine.execBistComplete fail addr s
  | .extest => Sys2Proof.Machine.execExtest s
  | .idcode => Sys2Proof.Machine.execIdcode s
  | .samplePreload pins load => Sys2Proof.Machine.execSamplePreload pins load s
  | .clamp => Sys2Proof.Machine.execClamp s
  | .highz => Sys2Proof.Machine.execHighz s
  | .extestPulse => Sys2Proof.Machine.execExtestPulse s
  | .extestTrain => Sys2Proof.Machine.execExtestTrain s
  | .bypass => Sys2Proof.Machine.execBypass s
  | .trst => Sys2Proof.Machine.execTrst s
  | .mgtLinkChange up => Sys2Proof.Machine.execMgtLinkChange up s
  | .resetLevelRelease mv w => Sys2Proof.Machine.execResetLevelRelease mv w s
  | .prbsLock l => Sys2Proof.Machine.execPrbsLock l s
  | .fuseProgramDone => Sys2Proof.Machine.execFuseProgramDone s
  | .persistComplete ok => Sys2Proof.Machine.execPersistComplete ok s

end Sys2Proof.Machine
end

