-- ==== Sys2Proof/Safety.lean ====
section
/-! DEFINITION. What a safe run is, in the terms the statements use: outcomes, planes, and what an instruction leaves as it was. -/
namespace Sys2Proof.Machine

/-- The outcome is a next state of which `P` holds. -/
def ends (o : Out) (P : State → Prop) : Prop := ∃ t, o = .next t ∧ P t

/-- The machine runs commands of the serving plane: its functional state is defined, its plane out of reset and clocked. -/
abbrev State.serving (s : State) : Prop := s.corrupt = false ∧ s.svUp = true

/-- The machine runs commands of the operator plane. -/
abbrev State.operating (s : State) : Prop := s.corrupt = false ∧ s.opUp = true

/-- Thread `t` issues its next instruction: the serving plane runs, the thread may issue (R206) and its fetch passes: inside the store and
the code window, with a good check code, a word that is an instruction (R211, R213, R217, R242). -/
abbrev State.issues (s : State) (t : Nat) : Prop := s.serving ∧ s.mayIssue t = true ∧ s.fetch t = .good

/-- The same in system mode. -/
abbrev State.issuesSystem (s : State) (t : Nat) : Prop := s.issues t ∧ (s.th t).muzzled = false

/-- Every memory is in its canonical form. -/
abbrev State.canonical (s : State) : Prop := s.mem.wf = true

/-- A thread without what an instruction's issue may move: registers, pc, loop stacks, issue count, the threads its YIELD waits for. -/
def Thread.rest (h : Thread) : Thread :=
  { h with regs := Vector.replicate 32 0, pc := 0, sysLoops := [], mzLoops := [], issued := 0, yielded := [] }

/-- `u` differs from `s` in thread `t` alone. -/
def onlyThread (u s : State) (t : Nat) : Prop := { u with threads := s.threads } = s ∧ ∀ x, x ≠ t → u.th x = s.th x

/-- `u` differs from `s` in thread `t`, and in its engine as `f` says. -/
def onlyThreadEngine (u s : State) (t : Nat) (f : Engine → Engine) : Prop :=
  { u with threads := s.threads, engines := s.engines } = s ∧ (∀ x, x ≠ t → u.th x = s.th x) ∧
    ∀ x, u.en x = (if x = engineOf t then f (s.en x) else s.en x)

/-- Registers of thread `t` but `rd` are as before. -/
def otherRegs (u s : State) (t rd : Nat) : Prop := ∀ r, r < 32 → r ≠ rd → (u.th t).g r = (s.th t).g r

/-- A register result: `rd` takes `v` (g0 discards it), and nothing else changes but the pc and the loops it moves through. -/
def regResult (o : Out) (s : State) (t rd : Nat) (v : DWord) : Prop :=
  ends o fun u => onlyThread u s t ∧ (u.th t).g rd = (if rd = 0 then 0 else v) ∧ otherRegs u s t rd ∧ (u.th t).rest = (s.th t).rest

/-- A store of `b` at address `a` of the data store: those bytes read back, every other byte of every memory and every register
stay; a word written whole is no longer uncorrectable. -/
def storeResult (o : Out) (s : State) (t a : Nat) (b : Bytes) : Prop :=
  ends o fun u =>
    u.dread t a b.length = b ∧
    (∀ x, x < 0x20000 → (x < a ∨ a + b.length ≤ x) → u.dread t x 1 = s.dread t x 1) ∧
    (∀ k, (k < engineOf t * 0x20000 ∨ (engineOf t + 1) * 0x20000 ≤ k) → memGet u.mem.dstore k = memGet s.mem.dstore k) ∧
    { u.mem with dstore := s.mem.dstore } = s.mem ∧ { u with threads := s.threads, mem := s.mem, engines := s.engines } = s ∧
    (∀ x, u.en x = (if x = engineOf t then { s.en x with badData := keepBad (s.en x).badData a b.length } else s.en x)) ∧
    (∀ x, x ≠ t → u.th x = s.th x) ∧ (∀ r, r < 32 → (u.th t).g r = (s.th t).g r) ∧ (u.th t).rest = (s.th t).rest

/-- Thread `t` outside every loop body, in system mode, its pc a word address. -/
abbrev State.straight (s : State) (t : Nat) : Prop := s.issuesSystem t ∧ (s.th t).sysLoops = [] ∧ (s.th t).pc % 4 = 0

/-- A control transfer: thread `t` goes on at `target`, its registers and all else unchanged. -/
def goesTo (o : Out) (s : State) (t target : Nat) : Prop :=
  ends o fun u => onlyThread u s t ∧ (u.th t).pc = target ∧ (∀ r, r < 32 → (u.th t).g r = (s.th t).g r) ∧ (u.th t).rest = (s.th t).rest

/-- A trap into the system handler (R237): the cause, INFO and TVAL, the pc saved, INTRAP set, the pc at TEAM_TVEC. -/
def trapsTo (o : Out) (s : State) (t cause info tval : Nat) : Prop :=
  ends o fun u => onlyThread u s t ∧ (u.th t).csr cCAUSE = info % 256 * 256 + cause ∧ (u.th t).csr cTVAL = tval % 2 ^ 32 ∧
    (u.th t).csr cEPC = (s.th t).pc % 65536 ∧ (u.th t).intrap = true ∧ (u.th t).pc = (s.th t).csr cTVEC ∧
    ∀ r, r < 32 → (u.th t).g r = (s.th t).g r

/-- Thread `t` leaves muzzled mode (R244): the cause, TEAM_MZ_EPC and TEAM_MZ_TVAL, the pc after its MZENTER; registers stay. -/
def mzLeaves (o : Out) (s : State) (t cause tval : Nat) : Prop :=
  ends o fun u => onlyThread u s t ∧ (u.th t).muzzled = false ∧ (u.th t).csr cMZCAUSE = cause ∧ (u.th t).csr cMZTVAL = tval ∧
    (u.th t).csr cMZEPC = (s.th t).pc % 65536 ∧ (u.th t).pc = (s.th t).mzRet ∧ (u.th t).intrap = (s.th t).intrap ∧
    ∀ r, r < 32 → (u.th t).g r = (s.th t).g r

/-- The Nose performs operations, and the slot of the next FAB cycle is one no one else has a claim on (R162 to R164, R176, R178). -/
abbrev State.slotFree (s : State) : Prop :=
  s.serving ∧ s.noseOpen = true ∧ s.nose.cyc % 64 ≠ 0 ∧ s.nose.used < leashSlots (s.fld rNoseLeash 1 0) ∧ s.nose.seqn = none ∧
    s.nose.wide = none ∧ s.nose.psearch = [] ∧ s.nose.packSlots = 0 ∧ s.nose.rtvSlots = 0 ∧ s.nose.progSlots = 0

/-- Request `r` is the only one, of a thread and with a result pair. -/
abbrev State.onlyReq (s : State) (r : NReq) : Prop := s.nose.reqs = [r] ∧ r.thread < 256 ∧ 0 < r.rd ∧ r.rd < 31

/-- A link frame of type `typ` reaches this member good, with room for it, and as a request for the first time (R197 to R199). -/
abbrev linkReaches (s : State) (i : LinkIn) (typ : Nat) (resp : Bool) : Prop :=
  s.serving ∧ s.pckUp = true ∧ i.f.typ = typ ∧ i.f.resp = resp ∧ i.f.bcast = false ∧ i.f.dst = s.packPos ∧ i.f.crcBad = false ∧ i.full = false ∧
    (resp = false → ∀ e ∈ s.pack.kept, ¬ (e.1 = i.f.src ∧ e.2.1 = i.f.tag))

/-- The operations of a frame after the one in turn have opcodes of Table 3-4. -/
def knownAll (f : Frame) : Bool := f.ops.all fun o => knownOpcode o.opcode

/-- Register `a` counts one event. -/
abbrev countsOne (u s : State) (a : Nat) : Prop := u.c64 a = (s.c64 a + 1) % 2 ^ 64

/-- No commit waits and no set before the active one is held. -/
abbrev State.noCommit (s : State) : Prop := s.cfg.waiting = none ∧ s.cfg.prev = none

/-- Session `x` sends a frame now without ending: it is open, its material is at hand, its counter is not the last one. -/
abbrev State.sends (s : State) (sid : Nat) (x : Session) : Prop :=
  s.sess sid = some x ∧ x.gone = false ∧ x.closing = false ∧ x.tx < 0xFFFFFFFF ∧ (s.txKey sid x).isSome = true

/-- Registers whose write does more than its access codes say: it starts something, or its value is bound to other state. -/
def startsOnWrite (a : Nat) : Bool :=
  [0x10, 0x14, 0x200, rPwrCtl, rPwrModeReq, rPwrWarn, rPwrReset, 0x10018, 0x20040, 0x20044, rTrlCtl, 0x30060, rTrlWall, rTrlWall + 4, rTrlRdSeq,
    rTrlRdSeq + 4, 0x40000, 0x40040, 0x50030, 0x50034, 0x10003008, 0x10003010, rRtvCtl, rNoseLeash, 0x10700010, 0x10700014, rCphPool].contains a ||
  (decide (0x40080 ≤ a) && decide (a < 0x400B0)) || (decide (0x10300000 ≤ a) && decide (a < 0x10700000)) ||
  (decide (0x10800000 ≤ a) && decide (a < 0x10A00000))

/-- The plane of address `a` runs. -/
abbrev State.planeUp (s : State) (a : Nat) : Prop := if a < 0x10000000 then s.operating else s.serving

/-- START comes in Boot at steps 1 to 4 with the image of boot NOR and nothing failed yet; `t` is the state in which its set is checked: the
Keeper's E written, the image in the shadow, the engines started, flash and DRAM set up (Table 6-6, R501). -/
abbrev State.bringsUp (s t : State) (page : FlashPage) : Prop :=
  s.serving ∧ s.opUp = true ∧ s.power.base = .boot ∧ 1 ≤ s.power.step ∧ s.power.step < 5 ∧ s.keeper.running = true ∧ s.power.fault = false ∧
    s.power.brace = false ∧ s.brace.codes = [] ∧
    t = (((State.setCfg (if s.flag rPwrCtl 3 then s else s.setFld 0x10018 19 0 (recHoldup s.keeper.rcd)) { s.cfg with
      shadow := (s.cfg.current.map (fun x : NorHalf => x.set)).getD { CfgSet.empty with epoch := 1 } }).startEngines.flashSetUp page).dramSetUp
        ((s.cfg.current.map (fun x : NorHalf => x.set)).getD { CfgSet.empty with epoch := 1 }))

/-! Fetch operations. -/

/-- On a running serving plane, operation `op` of opcode `n` is in turn in frame `id`, `f`, of session `x`. -/
abbrev State.atTurn (s : State) (id n : Nat) (f : Frame) (x : Session) (op : OpReq) : Prop := s.serving ∧ s.turn id n = some (f, x, op)

/-- Frame `id`, `f` before, has `r` as its next result, and the next operation may start. -/
abbrev answered (u : State) (id : Nat) (f : Frame) (r : OpRes) : Prop :=
  ∃ g ∈ u.frame id, g.res.take (f.res.length + 1) = f.res ++ [r] ∧ g.ops = f.ops ∧ g.waits = none ∧ g.w = none

/-- Keys, stores and sets are as before. -/
abbrev sameStores (u s : State) : Prop := u.ks.keys = s.ks.keys ∧ u.mem = s.mem ∧ u.st = s.st ∧ u.nose = s.nose ∧ u.cfg = s.cfg

/-- No memory but the DRAM index area, the lowest interleaved addresses (R308, R358), differs. -/
abbrev indexAreaOnly (u s : State) : Prop :=
  { u.mem with dram := s.mem.dram } = s.mem ∧ ∀ a, 64 * s.st.nbuckets ≤ a → memGet u.mem.dram a = memGet s.mem.dram a

/-- A write of `value` has room (R74, R78, R282, R290): size, quotas, index, journal and a version, with the counters in this device. -/
abbrev State.writeRoom (s : State) (c : CfgSet) (op : OpReq) (tomb : Bool) (value : Bytes) : Prop :=
  value.length ≤ 16777216 ∧ (s.leaseDue op.ns).noSpace c op tomb value.length = false ∧
    (s.leaseDue op.ns).readOnly c op.ns = false ∧ ((s.leaseDue op.ns).wouldBypass op.ns op.key && !(s.leaseDue op.ns).indexRoom op.ns op.key) = false ∧
    (s.leaseDue op.ns).underLead = false ∧ (s.leaseDue op.ns).reserveOk (recLines op.key.length value.length) = true ∧
    ((s.leaseDue op.ns).nsOf op.ns).canTake = true

/-- A write opcode that reads the key first: from live value `cur` on, started with room, it stores `value` (or a tombstone) under the
next version with its key pending. -/
def modifyTakes (c : Nat → WriteStep → Instr) (n : Nat) (made : OpReq → Option Ver → Option (Bool × Bytes)) : Prop :=
  ∀ (s t : State) (id : Nat) (f : Frame) (x : Session) (op : OpReq) (tomb : Bool) (value : Bytes), s.atTurn id n f x op → s.halted = false → f.w = none →
    s.findPlace f (s.setOf f.epoch) op (s.writeChecks (s.setOf f.epoch) f x op) = .pass t → s.isPending op.ns op.key = false →
    (n = 4 → t.reserveOk (recLines op.key.length op.val.length) = true) →
    (n = 3 ∨ ((t.pendKey op.ns op.key id).2.valueDamage op.ns op.key).contains false = false) →
    made op (s.liveOf op.ns op.key) = some (tomb, value) → (t.pendKey op.ns op.key id).2.writeRoom (s.setOf f.epoch) op tomb value →
    ends (exec (c id .start) s) fun u => (u.nsOf op.ns).counter = (s.nsOf op.ns).counter + 1 ∧ u.isPending op.ns op.key = true ∧
      ∃ g ∈ u.frame id, ∃ w ∈ g.w, w.phase = .pending ∧ w.version = (s.nsOf op.ns).counter + 1 ∧ w.tomb = tomb ∧ w.value = value ∧
        w.ns = op.ns ∧ w.key = op.key

/-- The soft point of a write opcode (R57, R72): its key shows the version and value, and its result is OK with the version. -/
def softShows (c : Nat → WriteStep → Instr) (n : Nat) : Prop :=
  ∀ (s : State) (id : Nat) (f : Frame) (x : Session) (op : OpReq) (w : Write), s.atTurn id n f x op → s.halted = false → f.w = some w →
    w.phase = .pending →
    ends (exec (c id .soft) s) fun u =>
      (u.liveOf w.ns w.key).map (fun v => (v.version, v.value)) = (if w.tomb then none else some (w.version, w.value)) ∧
      u.isPending w.ns w.key = false ∧
      ∃ g ∈ u.frame id, ∃ r ∈ g.res[f.res.length]?, r.status = 0 ∧ r.arg = w.version ∧ r.val = (if n = 5 then w.value else [])

/-! Jobs, tricks and messages. -/

/-- Thread `t` does not sleep in WAIT and its ticket `k` is busy. -/
abbrev State.owes (s : State) (t k : Nat) : Prop := (s.th t).sleep = .awake ∧ (s.th t).tickets[k]? = some .busy

/-- Ticket `k` of thread `t` is done with a status and result (R228). -/
abbrev ticketDone (u : State) (t k status result : Nat) : Prop := (u.th t).tickets[k]? = some (.done (complWord result k status))

/-- A CJOB of operation `n` at issue (R228, R421): a free ticket is taken and the job queued with its 64 descriptor bytes. -/
def cjobIs (c : Fin 256 → Fin 32 → Fin 32 → Instr) (n : Nat) : Prop :=
  ∀ (s : State) (t : Fin 256) (rd rs1 : Fin 32) (i : Nat), s.issuesSystem t → ((s.th t).g rs1).toNat % 64 = 0 →
    (s.th t).mayAccess ((s.th t).g rs1).toNat 64 = true → s.dbad t ((s.th t).g rs1).toNat 64 = false → freeTicket (s.th t).tickets = some i →
    byteAt (s.dread t ((s.th t).g rs1).toNat 64) 0 = n →
    ends (exec (c t rd rs1) s) fun u => (u.th t).g rd = (if rd = 0 then 0 else BitVec.ofNat 64 i) ∧ (u.th t).tickets[i]? = some .busy ∧
      { u with threads := s.threads, cph := s.cph } = s ∧ u.cph.jobs = s.cph.jobs ++
        [{ id := s.cph.nextJob, thread := t, ticket := i, desc := s.dread t ((s.th t).g rs1).toNat 64, state := .queued, bound := none, gone := false, svc := none }]

/-- An FLJOB of operation `n` at issue (R228, R302): a free ticket is taken and the job queued with its 64 descriptor bytes. -/
def fljobIs (c : Fin 256 → Fin 32 → Fin 32 → Instr) (n : Nat) : Prop :=
  ∀ (s : State) (t : Fin 256) (rd rs1 : Fin 32) (i : Nat), s.issuesSystem t → ((s.th t).g rs1).toNat % 64 = 0 →
    (s.th t).mayAccess ((s.th t).g rs1).toNat 64 = true → s.dbad t ((s.th t).g rs1).toNat 64 = false → freeTicket (s.th t).tickets = some i →
    byteAt (s.dread t ((s.th t).g rs1).toNat 64) 0 = n →
    ends (exec (c t rd rs1) s) fun u => (u.th t).g rd = (if rd = 0 then 0 else BitVec.ofNat 64 i) ∧ (u.th t).tickets[i]? = some .busy ∧
      { u with threads := s.threads, st := s.st } = s ∧ u.st.jobs = s.st.jobs ++
        [{ id := s.st.nextJob, thread := t, ticket := i, desc := s.dread t ((s.th t).g rs1).toNat 64, running := false, bound := false }]

/-- The trick of invocation `v` on thread `t` issues an MZCALL with calls and writes left (R274, R276). -/
abbrev State.trickCalls (s : State) (t : Nat) (v : Invoke) : Prop :=
  s.issues t ∧ (s.th t).muzzled = true ∧ mget s.tricks.invokes t = some v ∧ v.calls < 256 ∧ v.writes < 32 ∧ v.fwd = none ∧ v.grant = none ∧
    v.wait = 0 ∧ v.job = none

/-- Register `r` of thread `t` as a number. -/
abbrev State.gn (s : State) (t r : Nat) : Nat := ((s.th t).g r).toNat

/-- The operation a write service of opcode `n` makes of the trick's registers (Table 6-11). -/
def State.serviceOp (s : State) (t n : Nat) (f : Frame) : OpReq :=
  { opcode := n, flags := (f.op.map fun o => bits o.flags 0 2).getD 0, ns := s.gn t 2, key := s.dread t (s.gn t 3) (s.gn t 4),
    val := if n = 2 ∨ n = 4 then s.dread t (s.gn t 5) (s.gn t 6) else [], arg := if n = 4 then s.gn t 7 else if n = 5 then s.gn t 5 else 0 }

/-- A write service (R275): with its windows, rights and room, the key shows what it makes of the live value under the next version,
g2 is OK and g3 the version, g4 the sum of a KADD. -/
def serviceWrites (c : Fin 256 → Instr) (n : Nat) (made : OpReq → Option Ver → Option (Bool × Bytes)) : Prop :=
  ∀ (s : State) (t : Fin 256) (v : Invoke) (f : Frame) (x : Session) (op : OpReq) (tomb : Bool) (value : Bytes), s.trickCalls t v →
    (s.th t).inWindow (s.gn t 3) (s.gn t 4) = true → ((n = 2 ∨ n = 4) → (s.th t).inWindow (s.gn t 5) (s.gn t 6) = true) →
    s.trickSess v = some (f, x) → op = s.serviceOp t n f → keyOk op.key = true → op.val.length ≤ 7936 → hasRight x 1 = true → op.ns < 4096 →
    nsAllowed (s.setOf f.epoch) x op.ns = true → f.waits = none → s.noseOpen = true →
    s.findPlace f (s.setOf f.epoch) op (s.placeCheck (s.setOf f.epoch) x op true) = .pass s → s.isPending op.ns op.key = false →
    (n = 4 → s.reserveOk (recLines op.key.length op.val.length) = true) →
    (n = 2 ∨ n = 3 ∨ (s.valueDamage op.ns op.key).contains false = false) → made op (s.liveOf op.ns op.key) = some (tomb, value) → s.writeRoom (s.setOf f.epoch) op tomb value →
    ((s.findKey op.ns op.key).map heldVersion).getD 0 ≤ (s.nsOf op.ns).counter →
    ends (exec (c t) s) fun u => (u.th t).g 2 = 0 ∧ (u.th t).g 3 = BitVec.ofNat 64 ((s.nsOf op.ns).counter + 1) ∧
      (n = 5 → (u.th t).g 4 = BitVec.ofNat 64 (beNat value)) ∧ (u.nsOf op.ns).counter = (s.nsOf op.ns).counter + 1 ∧ u.isPending op.ns op.key = false ∧
      (u.liveOf op.ns op.key).map (fun w => (w.version, w.value)) = (if tomb then none else some ((s.nsOf op.ns).counter + 1, value))

/-- The thread waits in service `n` of its invocation `v` for the job of ticket `i`, which is done with word `w` (R275). -/
abbrev State.serviceJobDone (s : State) (t n i w : Nat) (v : Invoke) : Prop :=
  s.serving ∧ mget s.tricks.invokes t = some v ∧ v.job = some i ∧ (s.th t).muzzled = false ∧ (s.th t).run = true ∧ (s.th t).csr cMZCAUSE = n * 256 + mCALL ∧
    (s.th t).tickets[i]? = some (.done w)

/-- Nothing waits toward the Keeper, and no sender holds the queue (R479). -/
abbrev State.fenceIdle (s : State) : Prop := s.fence.toK = [] ∧ s.fence.waiting = [] ∧ s.fence.hold = none

/-- Exactly one message goes toward the Keeper: all its parts stand in the queue, but that those past the entries it may use still wait. -/
abbrev sentToKeeper (u : State) (typ : Nat) (reply : Bool) (tag : Nat) (data : Bytes) : Prop :=
  u.fence.toK ++ u.fence.waiting = partsOf typ reply tag 0x60 data ∧ (data.length ≤ 2687 → u.fence.waiting = [])

/-- On a running serving plane, whole message `m` of type `n` is at the front of the queue toward it, long enough for its type and due: it
does not wait for the lead engine (R477, R478, R482). -/
abbrev State.atS (s : State) (n : Nat) (m : FMsg) : Prop :=
  s.serving ∧ (frontMsg s.fence.toS).map (·.1) = some m ∧ m.typ = n ∧ s.leadWaits n = false ∧ minLenS n ≤ m.data.length

/-- The same, and the lead engine takes it (R477). -/
abbrev State.atLead (s : State) (n : Nat) (m : FMsg) : Prop := s.atS n m ∧ s.leadTakes n = true

/-- On a running operator plane, whole message `m` of type `n` is at the front of the queue toward the Keeper. -/
abbrev State.atK (s : State) (n : Nat) (m : FMsg) : Prop := s.operating ∧ (frontMsg s.fence.toK).map (·.1) = some m ∧ m.typ = n ∧ minLenK n ≤ m.data.length

/-- No kept EVENT waits to go out again (R480). -/
abbrev State.noKept (s : State) : Prop := s.fence.kept = [] ∧ s.fence.keptLost = 0

/-- The Keeper answers operator TAG `tag` of the I3C channel: one more message stands there, with the parts of this payload (R484, R488). -/
abbrev answersI3c (u s : State) (typ tag : Nat) (data : Bytes) : Prop := u.keeper.i3cOut = s.keeper.i3cOut ++ opParts typ true tag data

/-- The request whose Keeper TAG is `k` came over the I3C channel under operator TAG `tag` (R484, R488). -/
abbrev State.fromI3c (s : State) (k tag : Nat) (src : OpSrc) : Prop := mget s.keeper.tags k = some (src, tag) ∧ src.chan = 1

/-- An append of this event would repeat the newest one (R507). -/
def State.repeats (s : State) (code src : Nat) (args : Bytes) : Bool := match newestHead s.trail.ring with
  | some (x, xa) => x.opened && x.r.code = code && x.r.src = src && xa = args
  | none => false

/-- The Trail takes appends of the Keeper, and no lease is near its end (R513, R592). -/
abbrev State.appends (s : State) : Prop :=
  s.flag rTrlCtl 0 = true ∧ s.flag rTrlStatus 3 = false ∧ s.trail.leaseNext = none ∧ s.c64 rTrlSeq + 32770 < s.c64 rTrlLease

/-- An event is the newest of the ring, under the next SEQ (R503, R504). -/
abbrev recorded (u s : State) (code src : Nat) (args : Bytes) : Prop :=
  (newestHead u.trail.ring).map (fun x => (x.1.r.seq, x.1.r.code, x.1.r.src, x.2)) = some (s.c64 rTrlSeq, code, src, args) ∧
    u.c64 rTrlSeq = (s.c64 rTrlSeq + if args.any (· != 0) then 2 else 1) % 2 ^ 64

/-- The Keeper is idle but for what follows: nothing else waits in its inbox or ring. -/
abbrev State.keeperIdle (s : State) : Prop := s.keeper.inbox = [] ∧ s.net.mgtRing = []

/-- The lease end of the Trail is far (R513). -/
abbrev State.leaseFar (s : State) : Prop := s.trail.leaseNext = none ∧ s.c64 rTrlSeq + 32770 < s.c64 rTrlLease

/-- The image command in turn is `m` with CMD `cmd`, from a datagram; `t` is the state without it (R532, R533). -/
abbrev State.imgInTurn (s t : State) (m : OpMsg) (cmd : Nat) : Prop :=
  s.operating ∧ s.takeOwn 0x70 = some (m, t) ∧ t.keeperIdle ∧ imgCmd m.arg = cmd ∧ s.imgKnown m.arg = true ∧ s.norFree = true ∧ m.src.chan = 0

/-- The newest datagram answers an image command: UCODE with its STATUS, value and response ARG (R531, R532). -/
abbrev imgAnswered (u : State) (src : OpSrc) (uc : Nat) (val : Bytes) (arg : Nat) : Prop :=
  (u.keeper.sent.head?).map (fun d => (d.addr, d.port, d.image, d.msgs)) =
    some (src.addr, src.port, true, [opBytes opImage 0 (ucStatus uc) 0 [] val arg]) ∧ u.upd.lastUcode = uc

/-- Training operation `op` starts on channel `ch` (R362): BUSY, the command driven, nothing else. -/
abbrev trainStarts (u s : State) (ch rank op ma opd what : Nat) : Prop :=
  u.drc.train = some { ch := ch, rank := rank, op := op, ma := ma, opd := opd } ∧ u.flag rTrnStatus 0 = true ∧
    u.drc.cmds = { ch := ch, what := what, bank := rank, arg := op * 65536 + ma * 256 + opd } :: s.drc.cmds ∧ { u with drc := s.drc, csr := s.csr } = s

/-- A training operation may start on channel `ch`: its window is open and none runs (R362). -/
abbrev State.mayTrain (s : State) (ch : Nat) : Prop := s.serving ∧ s.flag rTrnStatus 0 = false ∧ bit (s.fld rTrain 7 0) ch = true

/-! Instruction shapes: what a form with its operands in registers does, for every thread, state and operand. -/

/-- A register form whose result is `op` of rs1 and rs2. -/
def twoRegIs (f : Fin 256 → Fin 32 → Fin 32 → Fin 32 → Instr) (op : DWord → DWord → DWord) : Prop :=
  ∀ (t : Fin 256) (rd rs1 rs2 : Fin 32) (s : State), s.issues t →
    regResult (exec (f t rd rs1 rs2) s) s t rd (op ((s.th t).g rs1) ((s.th t).g rs2))

/-- A register form whose result stands in the relation `R` to rs1. -/
def oneRegIs (f : Fin 256 → Fin 32 → Fin 32 → Instr) (R : DWord → DWord → Prop) : Prop :=
  ∀ (t : Fin 256) (rd rs1 : Fin 32) (s : State), s.issues t →
    ∃ v, R ((s.th t).g rs1) v ∧ regResult (exec (f t rd rs1) s) s t rd v

/-- An immediate form. -/
def immIs (f : Fin 256 → Fin 32 → Fin 32 → Half → Instr) (op : DWord → Half → DWord) : Prop :=
  ∀ (t : Fin 256) (rd rs1 : Fin 32) (imm : Half) (s : State), s.issues t →
    regResult (exec (f t rd rs1 imm) s) s t rd (op ((s.th t).g rs1) imm)

/-- An immediate shift. -/
def shiftIs (f : Fin 256 → Fin 32 → Fin 32 → Fin 64 → Instr) (op : DWord → Nat → DWord) : Prop :=
  ∀ (t : Fin 256) (rd rs1 : Fin 32) (sh : Fin 64) (s : State), s.issues t →
    regResult (exec (f t rd rs1 sh) s) s t rd (op ((s.th t).g rs1) sh)

/-- What an instruction `c` of thread `t` does with the errors its reads find (R213): a correctable one is counted and changes nothing else;
an uncorrectable word at the pc traps with ECC in system mode; one in the word read first, at `a`, traps with ECC, the address in TVAL, and no
register but the trap's changes. -/
def upsetIs (c : Upset → Instr) (s : State) (t : Nat) (a : Nat) : Prop :=
  exec (c (.fetch .corrected)) s = exec (c .none) (s.setEn (engineOf t) (s.en (engineOf t)).countEcc) ∧
  exec (c (.data .corrected)) s = exec (c .none) (s.setEn (engineOf t) (s.en (engineOf t)).countEcc) ∧
  ((s.th t).muzzled = false → (s.th t).intrap = false → ∀ e v, (e = .fetch .bad ∧ v = (s.th t).pc ∨ e = .data .bad ∧ v = a) →
    ends (exec (c e) s) fun u => (u.th t).csr cCAUSE = 4 ∧ (u.th t).csr cTVAL = v ∧ (u.th t).csr cEPC = (s.th t).pc ∧ (u.th t).intrap = true ∧
      (u.th t).pc = (s.th t).csr cTVEC ∧ ∀ r, r < 32 → (u.th t).g r = (s.th t).g r)

/-- A load of `n` bytes at rs1 + sext(imm16), extended by `ext`, and the errors its reads find. -/
def loadIs (f : Fin 256 → Fin 32 → Fin 32 → Half → Upset → Instr) (n : Nat) (ext : Nat → DWord) : Prop :=
  ∀ (t : Fin 256) (rd rs1 : Fin 32) (imm : Half) (s : State), s.issues t →
    ((s.th t).g rs1 + imm.signExtend 64).toNat % n = 0 → (s.th t).mayAccess ((s.th t).g rs1 + imm.signExtend 64).toNat n = true →
    s.dbad t ((s.th t).g rs1 + imm.signExtend 64).toNat n = false →
    regResult (exec (f t rd rs1 imm .none) s) s t rd (ext (leNat (s.dread t ((s.th t).g rs1 + imm.signExtend 64).toNat n))) ∧
    upsetIs (f t rd rs1 imm) s t ((s.th t).g rs1 + imm.signExtend 64).toNat

/-- A store of the low `n` bytes of rs2 into the data store. -/
def storeIs (f : Fin 256 → Fin 32 → Fin 32 → Half → Instr) (n : Nat) : Prop :=
  ∀ (t : Fin 256) (rs2 rs1 : Fin 32) (imm : Half) (s : State), s.issues t →
    ((s.th t).g rs1 + imm.signExtend 64).toNat % n = 0 → (s.th t).mayAccess ((s.th t).g rs1 + imm.signExtend 64).toNat n = true →
    ((s.th t).g rs1 + imm.signExtend 64).toNat + n ≤ 0x20000 →
    storeResult (exec (f t rs2 rs1 imm) s) s t ((s.th t).g rs1 + imm.signExtend 64).toNat (leBytes n ((s.th t).g rs2).toNat)

/-- The same into the key window: only the thread changes, its registers stay, and the window holds the bytes. -/
def windowStoreIs (f : Fin 256 → Fin 32 → Fin 32 → Half → Instr) (n : Nat) : Prop :=
  ∀ (t : Fin 256) (rs2 rs1 : Fin 32) (imm : Half) (s : State), s.issues t →
    ((s.th t).g rs1 + imm.signExtend 64).toNat % n = 0 → 0x20000 ≤ ((s.th t).g rs1 + imm.signExtend 64).toNat →
    ((s.th t).g rs1 + imm.signExtend 64).toNat + n ≤ 0x20200 →
    ends (exec (f t rs2 rs1 imm) s) fun u => onlyThread u s t ∧ (∀ r, r < 32 → (u.th t).g r = (s.th t).g r) ∧
      (u.th t).kwin = patch (s.th t).kwin (((s.th t).g rs1 + imm.signExtend 64).toNat - 0x20000) (leBytes n ((s.th t).g rs2).toNat)

/-- A conditional branch on `c` of rs1 and rs2, outside loops in system mode. -/
def branchIs (f : Fin 256 → Fin 32 → Fin 32 → Half → Instr) (c : DWord → DWord → Prop) : Prop :=
  ∀ (t : Fin 256) (rs1 rs2 : Fin 32) (imm : Half) (s : State), s.straight t →
    (¬ c ((s.th t).g rs1) ((s.th t).g rs2) → goesTo (exec (f t rs1 rs2 imm) s) s t ((s.th t).pc + 4)) ∧
    (c ((s.th t).g rs1) ((s.th t).g rs2) → ∀ target : Nat, (target : Int) = (s.th t).pc + 4 * imm.toInt → target < 0x10000 →
      goesTo (exec (f t rs1 rs2 imm) s) s t target)

end Sys2Proof.Machine
end

