-- ==== Sys2Proof/WellFormed.lean ====
section
/-! DEFINITION. Well-formed commands: an operand whose type is wider than what the spec gives it is within the spec's range. -/
namespace Sys2Proof
open Sys2Proof.Machine

/-- The flits of a link frame: 16 bytes each, a header, at most 581 of payload and a trailer (R195, Table 4-20). -/
def flitsFit (b : Bytes) : Bool := b.length % 16 == 0 && decide (b.length ≤ 16 * 583)
def linkFits (i : LinkIn) : Bool := flitsFit i.flits

/-- A Pack search or result message: two 16-byte halves (Tables 4-18, 4-19). -/
def packMessageFits (m : Bytes) : Bool := m.length == 32

/-- A DRAM write carries a line of 64 bytes and its 64-bit byte mask (R335). -/
def lineFits (write : Bool) (data mask : Bytes) : Bool := !write || (data.length == 64 && mask.length == 8)

/-- A module read returns at most 8 bytes. -/
def moduleFits (data : Bytes) : Bool := decide (data.length ≤ 8)

/-- The boundary register: 2,848 cells (R562). -/
def cellsFit (pins load : Bytes) : Bool := pins.length == 356 && load.length == 356

/-- Every operand of the command lies in the range the spec gives it. -/
def Instr.wellFormed (i : Instr) : Bool :=
  match i with
  | .registerWrite _ _ _ => true
  | .rcRead _ => true
  | .counterLowRead _ => true
  | .counterHighRead _ => true
  | .macRxFrame _ _ _ => true
  | .retrieverFrame _ _ _ => true
  | .contextRestore _ => true
  | .contextRestoreDone _ _ => true
  | .restoreTimeout => true
  | .dispatchDelivery => true
  | .messageArrival _ => true
  | .dispatchGiveUp => true
  | .roleAssign _ _ => true
  | .roleChange _ => true
  | .roleChangeAck _ => true
  | .stopped => true
  | .sessionRelease _ => true
  | .fetchFrameAccept _ _ => true
  | .holdTimeoutExpiry _ => true
  | .get _ _ => true
  | .put _ _ => true
  | .delete _ _ => true
  | .cas _ _ => true
  | .fetchAdd _ _ => true
  | .append _ _ => true
  | .head _ _ => true
  | .scan _ _ => true
  | .scanNext _ _ => true
  | .barrier _ => true
  | .trick _ _ => true
  | .ping _ => true
  | .segmentFirst _ => true
  | .seg _ => true
  | .segTimeoutExpiry _ => true
  | .rekey _ => true
  | .close _ => true
  | .dirUpdate _ => true
  | .mirrorFwdValue _ => true
  | .mirrorFwdTombstone _ => true
  | .mirrorFwdBurnt _ => true
  | .mirrorFwdSkip _ => true
  | .packFwd _ => true
  | .cfgRead _ => true
  | .journalWaitTimeout _ => true
  | .mirrorAck _ _ _ => true
  | .mirrorTimeoutExpiry _ _ => true
  | .proxyResponse _ _ _ _ _ => true
  | .snapshotExpiry _ => true
  | .cursorIdleExpiry _ => true
  | .rekeyGraceExpiry _ => true
  | .frameResponse _ => true
  | .getContinuation _ => true
  | .noseSlotGrant _ => true
  | .slotRequestPromote => true
  | .wideWindowReset => true
  | .noseScrub _ => true
  | .leashSample _ => true
  | .handoffCursorExpiry _ => true
  | .noseInitComplete => true
  | .packSyncPulse => true
  | .packSyncLoss => true
  | .searchMessage m _ _ _ => packMessageFits m
  | .resultMessage m => packMessageFits m
  | .packResultTimeout _ => true
  | .linkFrameRelay flits => flitsFit flits
  | .fwdReq i => linkFits i
  | .fwdResp i => linkFits i
  | .verReq i => linkFits i
  | .verGrant i => linkFits i
  | .settle i => linkFits i
  | .settleAck i => linkFits i
  | .horizonReq i => linkFits i
  | .horizon i => linkFits i
  | .snapNote i => linkFits i
  | .hello i => linkFits i
  | .helloSend => true
  | .helloTimeout _ => true
  | .train i _ => linkFits i
  | .pckRetryExpiry _ => true
  | .packLaneLockLost _ => true
  | .packLinkEnable => true
  | .packAligned => true
  | .packUpTimeout => true
  | .packAbsentBurn _ => true
  | .threadRunSet _ => true
  | .threadRunClear _ => true
  | .add _ _ _ _ => true
  | .sub _ _ _ _ => true
  | .and _ _ _ _ => true
  | .or _ _ _ _ => true
  | .xor _ _ _ _ => true
  | .andn _ _ _ _ => true
  | .sll _ _ _ _ => true
  | .srl _ _ _ _ => true
  | .sra _ _ _ _ => true
  | .slt _ _ _ _ => true
  | .sltu _ _ _ _ => true
  | .min _ _ _ _ => true
  | .max _ _ _ _ => true
  | .minu _ _ _ _ => true
  | .maxu _ _ _ _ => true
  | .mul _ _ _ _ => true
  | .mulh _ _ _ _ => true
  | .mulhu _ _ _ _ => true
  | .div _ _ _ _ => true
  | .divu _ _ _ _ => true
  | .rem _ _ _ _ => true
  | .remu _ _ _ _ => true
  | .clz _ _ _ => true
  | .ctz _ _ _ => true
  | .popc _ _ _ => true
  | .bswap _ _ _ => true
  | .bswapw _ _ _ => true
  | .bswaph _ _ _ => true
  | .sextb _ _ _ => true
  | .sexth _ _ _ => true
  | .sextw _ _ _ => true
  | .zextw _ _ _ => true
  | .addi _ _ _ _ => true
  | .andi _ _ _ _ => true
  | .ori _ _ _ _ => true
  | .xori _ _ _ _ => true
  | .slti _ _ _ _ => true
  | .sltiu _ _ _ _ => true
  | .slli _ _ _ _ => true
  | .srli _ _ _ _ => true
  | .srai _ _ _ _ => true
  | .lui _ _ _ => true
  | .lb _ _ _ _ _ => true
  | .lbu _ _ _ _ _ => true
  | .lh _ _ _ _ _ => true
  | .lhu _ _ _ _ _ => true
  | .lw _ _ _ _ _ => true
  | .lwu _ _ _ _ _ => true
  | .ld _ _ _ _ _ => true
  | .sb _ _ _ _ => true
  | .sh _ _ _ _ => true
  | .sw _ _ _ _ => true
  | .sd _ _ _ _ => true
  | .beq _ _ _ _ => true
  | .bne _ _ _ _ => true
  | .blt _ _ _ _ => true
  | .bge _ _ _ _ => true
  | .bltu _ _ _ _ => true
  | .bgeu _ _ _ _ => true
  | .jal _ _ _ => true
  | .jalr _ _ _ _ => true
  | .loop _ _ _ => true
  | .loopr _ _ _ => true
  | .csrrw _ _ _ _ => true
  | .csrrs _ _ _ _ => true
  | .csrrc _ _ _ _ => true
  | .iord _ _ _ _ => true
  | .iowr _ _ _ _ => true
  | .msend _ _ _ => true
  | .mrecv _ _ _ => true
  | .dma _ _ _ => true
  | .dmaJobStart _ => true
  | .dmaJobComplete _ _ _ _ => true
  | .femit _ _ _ => true
  | .femitComplete _ _ _ => true
  | .wait _ _ _ _ => true
  | .nsrch _ _ _ _ => true
  | .nnext _ _ _ _ => true
  | .nloc _ _ _ _ => true
  | .npsrch _ _ _ _ => true
  | .nins _ _ _ => true
  | .ndel _ _ => true
  | .nadw _ _ _ _ => true
  | .nkind _ _ _ => true
  | .nadr _ _ => true
  | .nadopt _ _ _ => true
  | .kload _ _ _ _ => true
  | .kcmp _ _ _ _ _ => true
  | .khash16 _ _ _ => true
  | .khash32 _ _ _ _ => true
  | .kword _ _ _ _ => true
  | .fopr _ _ _ _ => true
  | .foph _ _ _ _ => true
  | .yield _ => true
  | .brk _ _ => true
  | .eret _ => true
  | .mzenter _ _ => true
  | .mzexit _ _ => true
  | .mzBudget _ => true
  | .kget _ _ => true
  | .khead _ _ => true
  | .kput _ => true
  | .kcas _ => true
  | .kdel _ => true
  | .kadd _ => true
  | .input _ => true
  | .now _ => true
  | .random _ => true
  | .sealService _ => true
  | .unsealService _ => true
  | .gcmEnc _ _ _ => true
  | .gcmDec _ _ _ => true
  | .xtsEnc _ _ _ => true
  | .xtsDec _ _ _ => true
  | .kwWrap _ _ _ => true
  | .kwUnwrap _ _ _ => true
  | .sha384 _ _ _ => true
  | .sealJob _ _ _ => true
  | .unsealJob _ _ _ => true
  | .cipherJobStart _ => true
  | .cipherJobEnd _ _ _ _ => true
  | .flashRead _ _ _ => true
  | .flashProgram _ _ _ => true
  | .flashParity _ _ _ => true
  | .flashErase _ _ _ => true
  | .flashRaw _ _ _ => true
  | .flashJobStart _ => true
  | .flashStatusPoll _ => true
  | .flashJobComplete _ _ _ _ _ _ _ => true
  | .flashChannelInit _ _ _ _ _ => true
  | .flushPass => true
  | .hardWaitExpiry => true
  | .groomMerge _ => true
  | .groomRelocate _ => true
  | .dramRequest _ write data mask _ _ => lineFits write data mask
  | .dramCommandIssue _ _ => true
  | .dramPowerDown _ => true
  | .dramRefreshDue _ => true
  | .zqLatch _ => true
  | .mr4Poll _ => true
  | .dramInitComplete => true
  | .fspChange _ => true
  | .fspHowlTimeout => true
  | .fspChangeComplete => true
  | .selfRefreshEnter => true
  | .selfRefreshExit => true
  | .trainWindowOpen _ => true
  | .trainWindowClose _ _ => true
  | .trainWindowTimeout _ => true
  | .mrWrite _ _ _ _ => true
  | .mrRead _ _ _ => true
  | .caTrainingStep _ _ => true
  | .wckLevellingStep _ _ => true
  | .readDqCalibration _ _ => true
  | .writeFifo _ _ => true
  | .readFifo _ _ => true
  | .trainOpComplete _ => true
  | .dramScrub _ => true
  | .eccWindow _ => true
  | .linkRestart _ => true
  | .linkUp _ => true
  | .linkDown _ => true
  | .moduleRead _ _ _ _ _ => true
  | .moduleWrite _ _ _ _ _ _ => true
  | .moduleTransactionEnd _ _ _ data => moduleFits data
  | .modulePresenceChange _ _ => true
  | .moduleInterrupt _ _ => true
  | .rxFree _ _ => true
  | .pfcRefresh _ _ => true
  | .pauseExpiry _ _ => true
  | .pauseWatchdog _ _ => true
  | .watchdogHoldEnd _ _ => true
  | .macTxSelect _ => true
  | .macTxFrameEnd _ => true
  | .gateEntryChange _ => true
  | .tgCommit _ => true
  | .tgCancel _ => true
  | .tgChange _ => true
  | .phcStep => true
  | .dozeLower _ => true
  | .dozeRaise _ => true
  | .dozeLinkDown _ => true
  | .dozeFail _ => true
  | .mgtRxFrame _ _ => true
  | .keyWrite => true
  | .keyStage => true
  | .keyErase => true
  | .keyEraseNow => true
  | .keyQuery => true
  | .collarWrite => true
  | .collarEraseNow => true
  | .drbgReseed _ _ _ => true
  | .sessionOpen => true
  | .sessionClose => true
  | .sessionCloseEraseNow => true
  | .cfgWrite => true
  | .clearNs => true
  | .cfgCommit => true
  | .startCommit _ => true
  | .commitOldHeldTimeout => true
  | .cfgDiscard => true
  | .cfgResult => true
  | .cfgPersist => true
  | .keyResult => true
  | .serveLoad => true
  | .handlerLoad => true
  | .trickLoad => true
  | .trickUnload => true
  | .loadResult => true
  | .pmonSet => true
  | .modeReport => true
  | .heartbeat => true
  | .svSilent => true
  | .timeSet => true
  | .timeAdj => true
  | .ptpTx => true
  | .ptpRx => true
  | .txTimestamp _ => true
  | .diagTap => true
  | .diagRead => true
  | .diagData => true
  | .event => true
  | .alarm => true
  | .imageFwd _ => true
  | .imageReply => true
  | .nak _ _ => true
  | .fenTxPush => true
  | .fenRxPop => true
  | .fenceHoldTimeout => true
  | .keeperRd _ => true
  | .keeperWr _ _ => true
  | .keeperCfg _ => true
  | .i3cPrivateRead => true
  | .i3cDynamicAddress _ => true
  | .wdogKick => true
  | .keeperWatchdogExpiry _ => true
  | .requestServe => true
  | .requestSit => true
  | .requestDrain _ _ => true
  | .drainTimeout => true
  | .drainComplete _ => true
  | .requestWake _ => true
  | .napTimerExpiry => true
  | .requestTest => true
  | .requestBoot => true
  | .requestFault => true
  | .thermTrip => true
  | .svPgoodFall => true
  | .svPgoodRise => true
  | .svrstRelease _ _ _ _ => true
  | .svPwrTimeout => true
  | .svPwrEnSet => true
  | .svPwrEnClear => true
  | .svResetSet => true
  | .svResetClear => true
  | .fullReset _ => true
  | .pwrLock => true
  | .aonPor => true
  | .porst _ => true
  | .svUv => true
  | .senseResetLevel _ => true
  | .supplyWarning _ _ => true
  | .braceComplete _ _ => true
  | .supplyWarningClear _ => true
  | .braceReturn _ => true
  | .trlAppGo => true
  | .eventClose => true
  | .trailPageProgram _ => true
  | .trailHalfErase _ => true
  | .trailScrub _ _ => true
  | .trailLookup _ _ => true
  | .trailLookupDone => true
  | .trlWallWrite _ => true
  | .norRetry _ => true
  | .alarmClear => true
  | .imageBegin _ => true
  | .imageData _ => true
  | .imageEnd _ _ => true
  | .imageAbort => true
  | .imageStatus => true
  | .imageConfirm _ => true
  | .imageFuseNow _ => true
  | .updConfirm _ => true
  | .updAbort => true
  | .updFuseNow _ => true
  | .claimLapse => true
  | .probationExpiry => true
  | .fuseOpImageAnchor => true
  | .fuseOpHandlerAnchor => true
  | .fuseMgmtKey => true
  | .fuseRevoke _ => true
  | .netLoopbackSelect _ _ => true
  | .pckLoopbackSelect _ _ => true
  | .dramLoopbackSelect _ => true
  | .flashLoopbackSelect _ => true
  | .mgtLoopbackSelect _ _ => true
  | .mgtTestTimeout => true
  | .norLoopback => true
  | .norLoopbackDone _ => true
  | .prbsInject _ => true
  | .prbsLockLost _ _ _ => true
  | .fgFrameSend _ => true
  | .bistGo _ => true
  | .bistComplete _ _ => true
  | .extest => true
  | .idcode => true
  | .samplePreload pins load => cellsFit pins load
  | .clamp => true
  | .highz => true
  | .extestPulse => true
  | .extestTrain => true
  | .bypass => true
  | .trst => true
  | .mgtLinkChange _ => true
  | .resetLevelRelease _ _ => true
  | .prbsLock _ => true
  | .fuseProgramDone => true
  | .persistComplete _ => true

end Sys2Proof
end

