-- ==== Sys2Proof/Certificates/Slice0/Obligations.lean ====
section
/-! DEFINITION. The statements for the provers. -/
open Sys2Proof Sys2Proof.Machine

/-- O1. Two-register ALU operations: result and frame (05_icdin_isa.md Table 5-6, R205). -/
def Obligations.AluRegisterResults : Prop :=
  twoRegIs .add (fun a b => a + b) ∧ twoRegIs .sub (fun a b => a - b) ∧ twoRegIs .and (fun a b => a &&& b) ∧
  twoRegIs .or (fun a b => a ||| b) ∧ twoRegIs .xor (fun a b => a ^^^ b) ∧ twoRegIs .andn (fun a b => a &&& ~~~b) ∧
  twoRegIs .sll (fun a b => a <<< (b.toNat % 64)) ∧ twoRegIs .srl (fun a b => a >>> (b.toNat % 64)) ∧
  twoRegIs .sra (fun a b => BitVec.ofInt 64 (a.toInt / 2 ^ (b.toNat % 64))) ∧
  twoRegIs .slt (fun a b => if a.toInt < b.toInt then 1 else 0) ∧ twoRegIs .sltu (fun a b => if a.toNat < b.toNat then 1 else 0) ∧
  twoRegIs .min (fun a b => BitVec.ofInt 64 (min a.toInt b.toInt)) ∧ twoRegIs .max (fun a b => BitVec.ofInt 64 (max a.toInt b.toInt)) ∧
  twoRegIs .minu (fun a b => BitVec.ofNat 64 (min a.toNat b.toNat)) ∧ twoRegIs .maxu (fun a b => BitVec.ofNat 64 (max a.toNat b.toNat))

/-- O2. Multiplication: result and frame (05_icdin_isa.md Table 5-6). -/
def Obligations.MultiplyResults : Prop :=
  twoRegIs .mul (fun a b => BitVec.ofNat 64 (a.toNat * b.toNat)) ∧
  twoRegIs .mulh (fun a b => BitVec.ofInt 64 (a.toInt * b.toInt / 2 ^ 64)) ∧
  twoRegIs .mulhu (fun a b => BitVec.ofNat 64 (a.toNat * b.toNat / 2 ^ 64))

/-- O3. Division: result and frame, with the corners of R219 (R219). -/
def Obligations.DivisionResults : Prop :=
  twoRegIs .div (fun a b => if b = 0 then BitVec.allOnes 64 else BitVec.ofInt 64 (a.toInt.tdiv b.toInt)) ∧
  twoRegIs .divu (fun a b => if b = 0 then BitVec.allOnes 64 else BitVec.ofNat 64 (a.toNat / b.toNat)) ∧
  twoRegIs .rem (fun a b => if b = 0 then a else BitVec.ofInt 64 (a.toInt.tmod b.toInt)) ∧
  twoRegIs .remu (fun a b => if b = 0 then a else BitVec.ofNat 64 (a.toNat % b.toNat)) ∧
  (∀ (t : Fin 256) (rd rs1 rs2 : Fin 32) (s : State), s.issues t → (s.th t).g rs1 = BitVec.intMin 64 → (s.th t).g rs2 = BitVec.allOnes 64 →
    regResult (exec (.div t rd rs1 rs2) s) s t rd (BitVec.intMin 64) ∧ regResult (exec (.rem t rd rs1 rs2) s) s t rd 0)

/-- O4. One-register ALU operations: result and frame (05_icdin_isa.md Table 5-6). -/
def Obligations.UnaryResults : Prop :=
  oneRegIs .clz (fun a v => ∃ n, n ≤ 64 ∧ v = BitVec.ofNat 64 n ∧ a.toNat < 2 ^ (64 - n) ∧ (n < 64 → 2 ^ (63 - n) ≤ a.toNat)) ∧
  oneRegIs .ctz (fun a v => ∃ n, n ≤ 64 ∧ v = BitVec.ofNat 64 n ∧ a.toNat % 2 ^ n = 0 ∧ (n < 64 → a.toNat / 2 ^ n % 2 = 1) ∧ (n = 64 → a = 0)) ∧
  oneRegIs .popc (fun a v => v = BitVec.ofNat 64 ((List.range 64).filter fun i => a.getLsbD i).length) ∧
  oneRegIs .bswap (fun a v => ∀ i, i < 64 → v.getLsbD i = a.getLsbD ((7 - i / 8) * 8 + i % 8)) ∧
  oneRegIs .bswapw (fun a v => ∀ i, i < 64 → v.getLsbD i = (decide (i < 32) && a.getLsbD ((3 - i / 8) * 8 + i % 8))) ∧
  oneRegIs .bswaph (fun a v => ∀ i, i < 64 → v.getLsbD i = (decide (i < 16) && a.getLsbD ((1 - i / 8) * 8 + i % 8))) ∧
  oneRegIs .sextb (fun a v => ∀ i, i < 64 → v.getLsbD i = a.getLsbD (min i 7)) ∧
  oneRegIs .sexth (fun a v => ∀ i, i < 64 → v.getLsbD i = a.getLsbD (min i 15)) ∧
  oneRegIs .sextw (fun a v => ∀ i, i < 64 → v.getLsbD i = a.getLsbD (min i 31)) ∧
  oneRegIs .zextw (fun a v => v.toNat = a.toNat % 2 ^ 32)

/-- O5. Immediate operations: result and frame (05_icdin_isa.md Table 5-7). -/
def Obligations.ImmediateResults : Prop :=
  immIs .addi (fun a i => a + i.signExtend 64) ∧ immIs .andi (fun a i => a &&& i.zeroExtend 64) ∧ immIs .ori (fun a i => a ||| i.zeroExtend 64) ∧
  immIs .xori (fun a i => a ^^^ i.zeroExtend 64) ∧ immIs .slti (fun a i => if a.toInt < i.toInt then 1 else 0) ∧
  immIs .sltiu (fun a i => if a.toNat < (i.signExtend 64).toNat then 1 else 0) ∧
  shiftIs .slli (fun a n => BitVec.ofNat 64 (a.toNat * 2 ^ n)) ∧ shiftIs .srli (fun a n => BitVec.ofNat 64 (a.toNat / 2 ^ n)) ∧
  shiftIs .srai (fun a n => BitVec.ofInt 64 (a.toInt / 2 ^ n)) ∧
  (∀ (t : Fin 256) (rd : Fin 32) (imm : Half) (s : State), s.issues t →
    regResult (exec (.lui t rd imm) s) s t rd (BitVec.ofInt 64 (imm.toInt * 65536)))

/-- O6. Loads: result and frame (05_icdin_isa.md Table 5-8, R209, R213). -/
def Obligations.LoadResults : Prop :=
  loadIs .lb 1 (fun v => (BitVec.ofNat 8 v).signExtend 64) ∧ loadIs .lbu 1 (BitVec.ofNat 64) ∧
  loadIs .lh 2 (fun v => (BitVec.ofNat 16 v).signExtend 64) ∧ loadIs .lhu 2 (BitVec.ofNat 64) ∧
  loadIs .lw 4 (fun v => (BitVec.ofNat 32 v).signExtend 64) ∧ loadIs .lwu 4 (BitVec.ofNat 64) ∧ loadIs .ld 8 (BitVec.ofNat 64)

/-- O7. Stores: the bytes stored, and every other byte unchanged (05_icdin_isa.md Table 5-8, R209). -/
def Obligations.StoreResults : Prop :=
  (storeIs .sb 1 ∧ storeIs .sh 2 ∧ storeIs .sw 4 ∧ storeIs .sd 8) ∧
  (windowStoreIs .sb 1 ∧ windowStoreIs .sh 2 ∧ windowStoreIs .sw 4 ∧ windowStoreIs .sd 8)

/-- O8. Alignment and access traps of loads and stores, and what a fetch traps with (R209, R211, R213, R217, 05_icdin_isa.md Table 5-23). -/
def Obligations.DataTraps : Prop :=
  (∀ (t : Fin 256) (rd rs1 rs2 : Fin 32) (s : State), s.serving → s.mayIssue t = true → (s.th t).muzzled = false → (s.th t).intrap = false →
    (s.fetch t = .access → trapsTo (exec (.add t rd rs1 rs2) s) s t 3 0 (s.th t).pc) ∧
    (s.fetch t = .ecc → trapsTo (exec (.add t rd rs1 rs2) s) s t 4 0 (s.th t).pc) ∧
    (∀ w, s.fetch t = .illegal w → trapsTo (exec (.add t rd rs1 rs2) s) s t 1 0 w)) ∧
  ∀ (t : Fin 256) (rd rs1 : Fin 32) (imm : Half) (s : State) (a : Nat), s.issuesSystem t → (s.th t).intrap = false →
    a = ((s.th t).g rs1 + imm.signExtend 64).toNat →
    (a % 2 ≠ 0 → trapsTo (exec (.lh t rd rs1 imm .none) s) s t 2 0 a ∧ trapsTo (exec (.lhu t rd rs1 imm .none) s) s t 2 0 a ∧ trapsTo (exec (.sh t rd rs1 imm) s) s t 2 0 a) ∧
    (a % 4 ≠ 0 → trapsTo (exec (.lw t rd rs1 imm .none) s) s t 2 0 a ∧ trapsTo (exec (.lwu t rd rs1 imm .none) s) s t 2 0 a ∧ trapsTo (exec (.sw t rd rs1 imm) s) s t 2 0 a) ∧
    (a % 8 ≠ 0 → trapsTo (exec (.ld t rd rs1 imm .none) s) s t 2 0 a ∧ trapsTo (exec (.sd t rd rs1 imm) s) s t 2 0 a) ∧
    (a % 8 = 0 → (0x20000 ≤ a ∧ a < 0x20200 ∨ 0x21000 ≤ a ∧ a < 0x21040 ∨ a < 0x20000) ∨
      trapsTo (exec (.lb t rd rs1 imm .none) s) s t 3 0 a ∧ trapsTo (exec (.ld t rd rs1 imm .none) s) s t 3 0 a ∧ trapsTo (exec (.sd t rd rs1 imm) s) s t 3 0 a)

/-- O9. Branches and jumps: where the thread goes on (05_icdin_isa.md Table 5-9, R211). -/
def Obligations.BranchResults : Prop :=
  branchIs .beq (fun a b => a = b) ∧ branchIs .bne (fun a b => a ≠ b) ∧ branchIs .blt (fun a b => a.toInt < b.toInt) ∧
  branchIs .bge (fun a b => b.toInt ≤ a.toInt) ∧ branchIs .bltu (fun a b => a.toNat < b.toNat) ∧ branchIs .bgeu (fun a b => b.toNat ≤ a.toNat) ∧
  (∀ (t : Fin 256) (rd : Fin 32) (imm : BitVec 21) (s : State) (target : Nat), s.straight t →
    (target : Int) = (s.th t).pc + 4 * imm.toInt → target < 0x10000 →
    regResult (exec (.jal t rd imm) s) s t rd (BitVec.ofNat 64 ((s.th t).pc + 4)) ∧ ends (exec (.jal t rd imm) s) fun u => (u.th t).pc = target) ∧
  (∀ (t : Fin 256) (rd rs1 : Fin 32) (imm : Half) (s : State) (target : Nat), s.straight t →
    target = ((s.th t).g rs1 + imm.signExtend 64).toNat → target % 4 = 0 → target < 0x10000 →
    regResult (exec (.jalr t rd rs1 imm) s) s t rd (BitVec.ofNat 64 ((s.th t).pc + 4)) ∧ ends (exec (.jalr t rd rs1 imm) s) fun u => (u.th t).pc = target)

/-- O10. LOOP and LOOPR push their entry (R220, R222). -/
def Obligations.LoopResults : Prop :=
  ∀ (t : Fin 256) (rs : Fin 32) (cnt : BitVec 12) (len : BitVec 10) (s : State), s.straight t → (s.th t).intrap = false →
    (len ≠ 0 →
      ends (exec (.loop t cnt len) s) (fun u => onlyThread u s t ∧ (u.th t).pc = (s.th t).pc + 4 ∧
        (u.th t).sysLoops = [{ start := (s.th t).pc + 4, stop := (s.th t).pc + 4 * len.toNat, count := cnt.toNat + 1 }]) ∧
      (((s.th t).g rs).toNat % 2 ^ 32 ≠ 0 →
        ends (exec (.loopr t rs len) s) (fun u => onlyThread u s t ∧ (u.th t).pc = (s.th t).pc + 4 ∧
          (u.th t).sysLoops = [{ start := (s.th t).pc + 4, stop := (s.th t).pc + 4 * len.toNat, count := ((s.th t).g rs).toNat % 2 ^ 32 }])) ∧
      (((s.th t).g rs).toNat % 2 ^ 32 = 0 → goesTo (exec (.loopr t rs len) s) s t ((s.th t).pc + 4 * len.toNat + 4))) ∧
    (len = 0 → trapsTo (exec (.loop t cnt len) s) s t 6 0 (s.th t).pc)

/-- O11. The loop-back and the end of a loop (R220). -/
def Obligations.LoopBodyEnd : Prop :=
  ∀ (t : Fin 256) (rd rs1 rs2 : Fin 32) (s : State) (e : LoopEnt), s.issuesSystem t → (s.th t).intrap = false →
    (s.th t).sysLoops = [e] → e.stop = (s.th t).pc →
    (1 < e.count → ends (exec (.add t rd rs1 rs2) s) fun u => (u.th t).pc = e.start ∧ (u.th t).sysLoops = [{ e with count := e.count - 1 }]) ∧
    (e.count ≤ 1 → ends (exec (.add t rd rs1 rs2) s) fun u => (u.th t).pc = (s.th t).pc + 4 ∧ (u.th t).sysLoops = [])

/-- O12. CSR instructions: old value to rd, new value written (05_icdin_isa.md Table 5-10, R214). -/
def Obligations.CsrResults : Prop :=
  ∀ (t : Fin 256) (rd rs1 : Fin 32) (n : BitVec 12) (s : State), s.issuesSystem t →
    (csrMask n.toNat ≠ 0 → ∀ old w, old = (s.th t).csr n.toNat → w = ((s.th t).g rs1).toNat % 2 ^ 32 →
      ends (exec (.csrrw t rd rs1 n) s) (fun u => onlyThread u s t ∧ (u.th t).g rd = (if rd = 0 then 0 else BitVec.ofNat 64 old) ∧ otherRegs u s t rd ∧
        (u.th t).csr n.toNat = (w &&& csrMask n.toNat)) ∧
      ends (exec (.csrrs t rd rs1 n) s) (fun u => onlyThread u s t ∧ (u.th t).g rd = (if rd = 0 then 0 else BitVec.ofNat 64 old) ∧ otherRegs u s t rd ∧
        (u.th t).csr n.toNat = (if rs1 = 0 then old else ((old ||| w) % 2 ^ 32 &&& csrMask n.toNat))) ∧
      ends (exec (.csrrc t rd rs1 n) s) (fun u => onlyThread u s t ∧ (u.th t).g rd = (if rd = 0 then 0 else BitVec.ofNat 64 old) ∧ otherRegs u s t rd ∧
        (u.th t).csr n.toNat = (if rs1 = 0 then old else ((old &&& (2 ^ 32 - 1 - w)) % 2 ^ 32 &&& csrMask n.toNat)))) ∧
    (s.csrGet t n.toNat = none → (s.th t).intrap = false →
      ends (exec (.csrrw t rd rs1 n) s) fun u => (u.th t).csr cCAUSE = 1 ∧ (u.th t).intrap = true ∧ (u.th t).pc = (s.th t).csr cTVEC)

/-- O13. Starting, stopping and pausing threads; traps and returns (R216, R206, R237, 05_icdin_isa.md Table 5-22, R229). -/
def Obligations.ThreadControlResults : Prop :=
  (∀ (t : Fin 256) (s : State), s.serving → (s.th t).run = false →
    ends (exec (.threadRunSet t) s) fun u => { u with threads := s.threads, engines := s.engines, disp := s.disp } = s ∧ (∀ x, x ≠ t → u.th x = s.th x) ∧
      (∀ x, u.en x = (if x = engineOf t then { s.en x with waiters := (s.en x).waiters.filter (· != t) } else s.en x)) ∧
      bit (u.deng (engineOf t)).stopped (t % 4) = false ∧ (u.th t).run = true ∧ (u.th t).pc = (s.th t).csr cSTART ∧ (u.th t).muzzled = false ∧
      (u.th t).intrap = false ∧ (u.th t).double = false ∧ (u.th t).sysLoops = [] ∧ (u.th t).mzLoops = [] ∧ (u.th t).regs = (s.th t).regs ∧
      (u.th t).kwin = (s.th t).kwin ∧ (u.th t).tickets = (s.th t).tickets) ∧
  (∀ (t : Fin 256) (s : State), s.serving → (s.th t).run = true →
    ends (exec (.threadRunClear t) s) fun u => onlyThread u s t ∧ u.th t = { s.th t with run := false }) ∧
  (∀ (t : Fin 256) (s : State), s.issues t →
    ends (exec (.yield t) s) fun u => onlyThread u s t ∧ (∀ r, r < 32 → (u.th t).g r = (s.th t).g r) ∧ (u.th t).kwin = (s.th t).kwin ∧
      ((∃ x, x ≠ t ∧ engineOf x = engineOf t ∧ (s.th x).ready = true) → u.mayIssue t = false)) ∧
  (∀ (t : Fin 256) (code : Byte) (s : State), s.issuesSystem t → (s.th t).intrap = false →
    trapsTo (exec (.brk t code) s) s t 7 code.toNat (s.th t).pc) ∧
  (∀ (t : Fin 256) (s : State), s.issuesSystem t → (s.th t).intrap = true →
    ends (exec (.eret t) s) fun u => onlyThread u s t ∧ (u.th t).pc = (s.th t).csr cEPC ∧ (u.th t).intrap = false ∧ ∀ r, r < 32 → (u.th t).g r = (s.th t).g r) ∧
  (∀ (t : Fin 256) (rd : Fin 32) (mask : Byte) (all : Bool) (s : State), s.issuesSystem t → (∀ k ∈ (s.th t).tickets, k = .free) →
    ends (exec (.wait t rd mask all) s) fun u => onlyThread u s t ∧ (u.th t).g rd = (if rd = 0 then 0 else 0xFF) ∧ otherRegs u s t rd ∧
      (u.th t).sleep = .awake ∧ (u.th t).tickets = (s.th t).tickets)

/-- O14. MZENTER: entering and resuming muzzled mode (R241). -/
def Obligations.MuzzleEntry : Prop :=
  ∀ (t : Fin 256) (s : State), s.issuesSystem t →
    (mzSetupOk (s.th t) = true →
      ends (exec (.mzenter t false) s) fun u => onlyThread u s t ∧ (∀ r, r < 32 → (u.th t).g r = 0) ∧ (u.th t).csr cMZLEFT = (s.th t).csr cMZBUDGET ∧
        (u.th t).mzLoops = [] ∧ (u.th t).muzzled = true ∧ (u.th t).pc = (s.th t).csr cMZENTRY ∧ (u.th t).kwin = (s.th t).kwin ∧
        (u.th t).csr cKWLEN = (s.th t).csr cKWLEN) ∧
    ((s.th t).csr cMZCAUSE % 256 = 2 →
      ends (exec (.mzenter t true) s) fun u => onlyThread u s t ∧ (∀ r, r < 32 → (u.th t).g r = (s.th t).g r) ∧ (u.th t).csr cMZLEFT = (s.th t).csr cMZLEFT ∧
        (u.th t).mzLoops = (s.th t).mzLoops ∧ (u.th t).muzzled = true ∧ (u.th t).pc = (s.th t).csr cMZEPC)

/-- O15. Leaving muzzled mode by MZEXIT and by the budget (R243, R244, 05_icdin_isa.md Table 5-24). -/
def Obligations.MuzzleExit : Prop :=
  (∀ (t : Fin 256) (rs1 : Fin 32) (s : State), s.issues t → (s.th t).muzzled = true →
    mzLeaves (exec (.mzexit t rs1) s) s t 1 (((s.th t).g rs1).toNat % 2 ^ 32)) ∧
  (∀ (t : Fin 256) (s : State), s.serving → (s.th t).muzzled = true → (s.th t).csr cMZLEFT ≤ coreCycles →
    mzLeaves (exec (.mzBudget t) s) s t 0x10 0 ∧ ends (exec (.mzBudget t) s) fun u => (u.th t).csr cMZLEFT = 0)

/-- O16. What the trick profile refuses (R242, R245, 05_icdin_isa.md Table 5-25). -/
def Obligations.TrickProfileRefuses : Prop :=
  ∀ (t : Fin 256) (rd rs1 rs2 : Fin 32) (imm : Half) (j : BitVec 21) (n : BitVec 12) (len : BitVec 10) (b : Bool) (m : Byte) (k : BitVec 4) (k8 : Fin 8) (up : Upset) (s : State),
    s.issues t → (s.th t).muzzled = true → up ≠ .fetch .bad →
    (∀ i, i = .jalr t rd rs1 imm ∨ i = .loopr t rs1 len ∨ i = .csrrw t rd rs1 n ∨ i = .csrrs t rd rs1 n ∨ i = .csrrc t rd rs1 n ∨ i = .iord t rd rs1 imm ∨
      i = .iowr t rs2 rs1 imm ∨ i = .msend t rs1 rs2 ∨ i = .mrecv t rd b ∨ i = .dma t rd rs1 ∨ i = .femit t rd rs1 ∨ i = .nsrch t rd rs1 k8 ∨
      i = .nnext t rd rs1 k8 ∨ i = .nloc t rd rs1 b ∨ i = .npsrch t rd rs1 k8 ∨ i = .nins t rd rs1 ∨ i = .ndel t rd ∨ i = .nadw t rd rs2 k ∨ i = .nkind t rd k ∨
      i = .nadr t rd ∨ i = .nadopt t rd rs2 ∨ i = .kword t rs1 rs2 up ∨ i = .wait t rd m b ∨ i = .brk t m ∨ i = .eret t ∨ i = .mzenter t b →
      ends (exec i s) fun u => (u.th t).muzzled = false ∧ (u.th t).csr cMZCAUSE = 0x13 ∧ (u.th t).csr cMZEPC = (s.th t).pc ∧ (u.th t).pc = (s.th t).mzRet ∧
        ∀ r, r < 32 → (u.th t).g r = (s.th t).g r) ∧
    (imm.toInt ≤ 0 → ∀ i, i = .beq t rs1 rs2 imm ∨ i = .bne t rs1 rs2 imm ∨ i = .blt t rs1 rs2 imm ∨ i = .bge t rs1 rs2 imm ∨ i = .bltu t rs1 rs2 imm ∨
      i = .bgeu t rs1 rs2 imm → ends (exec i s) fun u => (u.th t).muzzled = false ∧ (u.th t).csr cMZCAUSE = 0x13 ∧ (u.th t).pc = (s.th t).mzRet) ∧
    (j.toInt ≤ 0 → ends (exec (.jal t rd j) s) fun u => (u.th t).muzzled = false ∧ (u.th t).csr cMZCAUSE = 0x13 ∧ (u.th t).pc = (s.th t).mzRet)

/-- O17. Messages, DMA and emit jobs (R225, R227, R228, R262). -/
def Obligations.MessageAndJobResults : Prop :=
  (∀ (t : Fin 256) (rs1 rs2 : Fin 32) (s : State) (a r : Nat), s.issuesSystem t → a = ((s.th t).g rs1).toNat → r = ((s.th t).g rs2).toNat →
    a % 64 = 0 → a + 64 ≤ 0x20000 → s.dbad t a 64 = false → bits r 0 4 = 5 → bits r 48 8 < 0xE0 → 1 ≤ bits r 8 4 → bits r 8 4 < 8 →
    ends (exec (.msend t rs1 rs2) s) fun u => ∃ d ∈ u.disp.waiting, u.disp.waiting = s.disp.waiting ++ [d] ∧ d.m.body = (s.dread t a 64).drop 8 ∧
      d.m.typ = bits r 48 8 ∧ d.m.role = bits r 8 4 ∧ d.m.sthread = t.val % 4 ∧ d.m.sengine = engineOf t % 8 ∧ d.m.sstop = engineStop (engineOf t) ∧
      d.frame = none ∧ d.bounced = none ∧ d.flight = 0 ∧ d.sent = false) ∧
  (∀ (t : Fin 256) (rd : Fin 32) (nb : Bool) (s : State) (m : Msg) (q : List Msg), s.issuesSystem t → (s.en (engineOf t)).queue = m :: q →
    ends (exec (.mrecv t rd nb) s) fun u => (u.th t).rslot = m.bytes ∧ (u.th t).g rd = (if rd = 0 then 0 else BitVec.ofNat 64 m.route) ∧
      (u.en (engineOf t)).queue = q ++ (s.en (engineOf t)).mesh.take 1 ∧ otherRegs u s t rd) ∧
  (∀ (t : Fin 256) (rd rs1 : Fin 32) (s : State) (a i : Nat), s.issuesSystem t → a = ((s.th t).g rs1).toNat → a % 64 = 0 → a + 64 ≤ 0x20000 →
    s.dbad t a 64 = false → (s.jobs.dma.filter fun j => j.thread / 32 = t.val / 32).length < 32 → i < (s.th t).tickets.length → (s.th t).tickets[i]? = some .free → (∀ j, j < i → (s.th t).tickets[j]? ≠ some .free) →
    ends (exec (.dma t rd rs1) s) (fun u => (u.th t).tickets[i]? = some .busy ∧ (u.th t).g rd = (if rd = 0 then 0 else BitVec.ofNat 64 i) ∧ otherRegs u s t rd ∧
      u.mem = s.mem ∧ ∃ j ∈ u.jobs.dma, u.jobs.dma = s.jobs.dma ++ [j] ∧ j.thread = t ∧ j.ticket = i ∧ j.running = false ∧ j.src = leNat (s.dread t a 8) ∧
      j.dst = leNat (s.dread t (a + 8) 8) ∧ j.len = leNat (s.dread t (a + 16) 4)) ∧
    ends (exec (.femit t rd rs1) s) (fun u => (u.th t).tickets[i]? = some .busy ∧ (u.th t).g rd = (if rd = 0 then 0 else BitVec.ofNat 64 i) ∧
      otherRegs u s t rd ∧ u.mem = s.mem ∧ ∃ j ∈ u.jobs.emits, u.jobs.emits = s.jobs.emits ++ [j] ∧ j.thread = t ∧ j.ticket = i ∧ j.desc = s.dread t a 64))

/-- O18. Key and frame instructions (R236, 05_icdin_isa.md Table 5-21, R145, R213). -/
def Obligations.KeyAndFrameResults : Prop :=
  (∀ (t : Fin 256) (rs1 rs2 : Fin 32) (s : State) (a n : Nat), s.issues t → a = ((s.th t).g rs1).toNat → n = ((s.th t).g rs2).toNat → 1 ≤ n → n ≤ 512 →
    (s.th t).mayKey a n = true → s.dbad t a n = false →
    ends (exec (.kload t rs1 rs2 .none) s) (fun u => onlyThread u s t ∧ (u.th t).csr cKWLEN = n ∧ (u.th t).kwin = patch (s.th t).kwin 0 (s.dread t a n) ∧
      ∀ r, r < 32 → (u.th t).g r = (s.th t).g r) ∧ upsetIs (.kload t rs1 rs2) s t a) ∧
  (∀ (t : Fin 256) (rd rs1 rs2 : Fin 32) (s : State) (a n : Nat) (k b : Bytes), s.issues t → a = ((s.th t).g rs1).toNat → n = ((s.th t).g rs2).toNat → 1 ≤ n → n ≤ 512 →
    (s.th t).mayKey a n = true → s.dbad t a n = false → kwBad s t ((s.th t).csr cKWLEN) = false → k = (s.th t).kwin.take ((s.th t).csr cKWLEN) → b = s.dread t a n →
    regResult (exec (.kcmp t rd rs1 rs2 .none) s) s t rd (if k = b then 0 else if bytesLt b k then 1 else BitVec.allOnes 64) ∧
    upsetIs (.kcmp t rd rs1 rs2) s t a) ∧
  (∀ (t : Fin 256) (rd : Fin 32) (s : State), s.issues t → kwBad s t ((s.th t).csr cKWLEN) = false →
    regResult (exec (.khash16 t rd .none) s) s t rd (BitVec.ofNat 64 (tailHash ((s.th t).kwin.take ((s.th t).csr cKWLEN)))) ∧
    ((s.th t).csr cKWLEN ≠ 0 → upsetIs (.khash16 t rd) s t 0x20000)) ∧
  (∀ (t : Fin 256) (rd rs1 : Fin 32) (s : State), s.issues t → kwBad s t ((s.th t).csr cKWLEN) = false → (s.th t).csr cKWLEN ≠ 0 →
    regResult (exec (.khash32 t rd rs1 .none) s) s t rd (BitVec.ofNat 64 (crc32c (leBytes 2 (((s.th t).g rs1).toNat % 4096) ++ (s.th t).kwin.take ((s.th t).csr cKWLEN)))) ∧
    upsetIs (.khash32 t rd rs1) s t 0x20000) ∧
  (∀ (t : Fin 256) (rs1 rs2 : Fin 32) (s : State) (a : Nat), s.issuesSystem t → a = ((s.th t).g rs1).toNat → a % 32 = 0 → a + 32 ≤ 0x20000 →
    (s.th t).csr cKWLEN ≠ 0 → kwBad s t ((s.th t).csr cKWLEN) = false →
    storeResult (exec (.kword t rs1 rs2 .none) s) s t a (leBytes 20 (orderWord (((s.th t).g rs2).toNat % 4096) ((s.th t).kwin.take ((s.th t).csr cKWLEN)) * 16 +
      bits ((s.th t).g rs2).toNat 12 4) ++ zeros 4) ∧ upsetIs (.kword t rs1 rs2) s t 0x20000) ∧
  (∀ (t : Fin 256) (rd rs1 : Fin 32) (s : State) (a : Nat) (b : Bytes), s.issues t → a = ((s.th t).g rs1).toNat → rd ≠ 31 → (s.th t).mayKey a 16 = true →
    s.dbad t a 16 = false → b = s.dread t a 16 →
    ends (exec (.fopr t rd rs1 .none) s) (fun u => onlyThread u s t ∧
      (u.th t).g rd = (if rd = 0 then 0 else BitVec.ofNat 64 (byteAt b 0 * 2 ^ 56 + byteAt b 1 * 2 ^ 48 + byteAt b 2 * 2 ^ 40 + beAt b 3 3 * 2 ^ 16 + beAt b 6 2)) ∧
      (u.th t).g (rd + 1) = BitVec.ofNat 64 (beAt b 8 8) ∧ ∀ r, r < 32 → r ≠ rd → r ≠ rd + 1 → (u.th t).g r = (s.th t).g r) ∧ upsetIs (.fopr t rd rs1) s t a) ∧
  (∀ (t : Fin 256) (rs1 rs2 rs3 : Fin 32) (s : State) (a : Nat), s.issues t → a = ((s.th t).g rs1).toNat → (s.th t).mayKey a 16 = true →
    a + 16 ≤ 0x20000 → storeResult (exec (.foph t rs1 rs2 rs3) s) s t a (beBytes 8 ((s.th t).g rs2).toNat ++ beBytes 8 ((s.th t).g rs3).toNat))

/-- O19. Nose instructions: requests and immediate results (R233, R234, 05_icdin_isa.md Table 5-19). -/
def Obligations.NoseInstructionResults : Prop :=
  (∀ (t : Fin 256) (rd rs1 : Fin 32) (mask : Fin 8) (b : Bool) (s : State) (a w ad : Nat), s.issuesSystem t → rd ≠ 31 → a = ((s.th t).g rs1).toNat → a % 32 = 0 →
    a + 32 ≤ 0x20000 → s.dbad t a 32 = false → w = leNat (s.dread t a 20) → ad = leNat (s.dread t (a + 24) 8) →
    (∀ i op, (i = .nsrch t rd rs1 mask ∧ op = .search (s.noseMask mask) w ∨ i = .nnext t rd rs1 mask ∧ op = .next (s.noseMask mask) w ∨
        i = .nloc t rd rs1 b ∧ op = .locate (w / 16) b ∨ i = .nins t rd rs1 ∧ op = .insert (w / 16) (w % 16) ad) →
      ends (exec i s) fun u => (u.th t).sleep = .nose rd ∧ u.nose.reqs = s.nose.reqs ++ [{ thread := t, rd := rd, op := op, promoted := false }] ∧
        ∀ r, r < 32 → (u.th t).g r = (s.th t).g r) ∧
    (s.flag rNoseStatus 2 = true → s.noseOwes t = false → ends (exec (.npsrch t rd rs1 mask) s) fun u => (u.th t).sleep = .nose rd ∧
      u.nose.psearch = s.nose.psearch ++ [{ thread := t, rd := rd, num := s.nose.nextNum % 8192, mask := s.noseMask mask, val := w, again := false, frame := none }] ∧
      u.pack.outMsgs.length = s.pack.outMsgs.length + 1)) ∧
  (∀ (t : Fin 256) (rd rs2 : Fin 32) (kind : BitVec 4) (s : State), s.issuesSystem t → rd ≠ 31 →
    (∀ i op, (i = .ndel t rd ∧ op = .delete ∨ kind.toNat ≤ 4 ∧ i = .nadw t rd rs2 kind ∧
        op = .adw ((s.th t).g rs2).toNat (if kind = 0 then none else some kind.toNat)) →
      ends (exec i s) fun u => (u.th t).sleep = .nose rd ∧ u.nose.reqs = s.nose.reqs ++ [{ thread := t, rd := rd, op := op, promoted := false }] ∧
        ∀ r, r < 32 → (u.th t).g r = (s.th t).g r) ∧
    (∀ a e, s.noseOpen = true → s.noseOwes t = false → s.cursorEnt t = some (a, e) →
      (1 ≤ kind.toNat → kind.toNat ≤ 4 → ends (exec (.nkind t rd kind) s) fun u => mget u.nose.ents a = some { e with kind := kind.toNat } ∧
        (u.th t).g rd = (if rd = 0 then 0 else BitVec.ofNat 64 (updRes a kind.toNat 0 s.packPos).word)) ∧
      ends (exec (.nadr t rd) s) fun u => onlyThread u s t ∧ (u.th t).g rd = (if rd = 0 then 0 else BitVec.ofNat 64 (updRes a e.kind e.ad s.packPos).word) ∧
        (rd ≠ 0 → (u.th t).g (rd + 1) = BitVec.ofNat 64 e.ad)) ∧
    (∀ c e, s.noseOpen = true → s.noseOwes t = false → s.nose.hcurs.find? (fun x => x.id == ((s.th t).g rs2).toNat) = some c → ((s.th t).g rs2).toNat < 64 → mget s.nose.ents c.addr = some e →
      ends (exec (.nadopt t rd rs2) s) fun u => (u.th t).g rd = (if rd = 0 then 0 else BitVec.ofNat 64 (updRes c.addr e.kind e.ad s.packPos).word) ∧
        mget u.nose.cursors t = some c.addr ∧ u.nose.hcurs = s.nose.hcurs.filter (fun x => x.id != ((s.th t).g rs2).toNat)))

/-- O20. The Nose's own commands (R162, R152, R175, R177, R188, R176). -/
def Obligations.NoseCommandResults : Prop :=
  (∀ (s : State) (r : NReq), s.slotFree → s.onlyReq r →
    (∀ a e, r.op = .delete → s.cursorEnt r.thread = some (a, e) →
      ends (exec (.noseSlotGrant .good) s) fun u => u.nose.ents = mdel s.nose.ents a ∧ u.nose.reqs = [] ∧
        (u.th r.thread).g r.rd = BitVec.ofNat 64 (updRes a 0 0 s.packPos).word) ∧
    (∀ ad k a e, r.op = .adw ad k → s.cursorEnt r.thread = some (a, e) →
      ends (exec (.noseSlotGrant .good) s) fun u => mget u.nose.ents a = some { e with ad := ad, kind := k.getD e.kind } ∧ u.nose.reqs = [] ∧
        (u.th r.thread).g r.rd = BitVec.ofNat 64 (updRes a (k.getD e.kind) 0 s.packPos).word) ∧
    (∀ o k ad a, r.op = .insert o k ad → s.insertStatus o k = 0 → placeOf s.nose.ents o s.shiftMax = .at_ [] a →
      ends (exec (.noseSlotGrant .good) s) fun u => mget u.nose.ents a = some { order := o, kind := k, ad := ad } ∧ u.nose.reqs = [] ∧
        mget u.nose.cursors r.thread = some a ∧ (u.th r.thread).g r.rd = BitVec.ofNat 64 (updRes a k 0 s.packPos).word) ∧
    (∀ m v, r.op = .search m v → isPlainMask m = true →
      ends (exec (.noseSlotGrant .good) s) fun u => u.nose.ents = s.nose.ents ∧ u.nose.reqs = [] ∧ countsOne u s 0x10100200 ∧
        (u.th r.thread).g r.rd = BitVec.ofNat 64 (searchPlain s.nose.ents m v s.packPos).1.word ∧
        mget u.nose.cursors r.thread = (searchPlain s.nose.ents m v s.packPos).2)) ∧
  (∀ (s : State) (pre post : List NReq) (r : NReq), s.serving → s.nose.reqs = pre ++ r :: post → (∀ x ∈ pre, x.promoted = true) → r.promoted = false →
    ends (exec .slotRequestPromote s) fun u => u.nose.reqs = pre ++ { r with promoted := true } :: post) ∧
  (∀ (s : State), s.serving → ends (exec .wideWindowReset s) fun u => u.nose.wideInMs = 0) ∧
  (∀ (s : State), s.serving → ends (exec (.noseScrub .corrected) s) fun u => countsOne u s 0x10100258 ∧
      u.nose = { s.nose with progSlots := s.nose.progSlots + 1 } ∧ u.mem = s.mem) ∧
  (∀ (s : State) (temp : BitVec 8), s.serving → ends (exec (.leashSample temp) s) fun u => u.fld rNoseLeash 15 8 = temp.toNat) ∧
  (∀ (s : State) (id : Fin 64), s.serving → (∃ c ∈ s.nose.hcurs, c.id = id.val) →
    ends (exec (.handoffCursorExpiry id) s) fun u => (∀ c ∈ u.nose.hcurs, c.id ≠ id.val) ∧ countsOne u s 0x10200408) ∧
  (∀ (s : State), s.serving → ends (exec .noseInitComplete s) fun u => u.nose.ready = true ∧ u.flag rNoseStatus 0 = true)

/-- O21. Pack link requests taken by this member (04_nose_index.md Table 4-21, R87, R88, R202, R200). -/
def Obligations.PackRequestResults : Prop :=
  (∀ (s : State) (i : LinkIn) (ops : List OpReq), linkReaches s i 0x01 false → s.memberFrame i.f.src i.f.tag = false → byteAt i.f.data 0 = 0x32 →
    parseOps 2 1 (i.f.data.drop 32) = some ops →
    ends (exec (.fwdReq i) s) fun u => ∃ f ∈ u.frame s.ft.nextFrame, f.ops = ops ∧ f.phase = .executing ∧ u.ft.nextFrame = s.ft.nextFrame + 1) ∧
  (∀ (s : State) (i : LinkIn) (ns n : Nat), linkReaches s i 0x03 false → s.packPos = 0 → ns = i.f.arg % 4096 → n = bits i.f.arg 16 6 → 1 ≤ n → n ≤ 32 →
    (s.nsOf ns).counter + n ≤ lastVersion → ((s.nsOf ns).lease = lastVersion ∨ (s.nsOf ns).counter + n < (s.nsOf ns).lease) →
    ends (exec (.verReq i) s) fun u => (u.nsOf ns).counter = (s.nsOf ns).counter + n ∧ (∃ q ∈ u.pack.out, q.typ = 0x04 ∧ q.resp = true ∧ q.tag = i.f.tag ∧
      q.dst = i.f.src ∧ q.arg = 0 ∧ q.data = leBytes 8 ((s.nsOf ns).counter + 1))) ∧
  (∀ (s : State) (i : LinkIn) (ns v : Nat), linkReaches s i 0x05 false → s.packPos = 0 → i.f.arg % 128 = 1 → v = leAt i.f.data 0 8 → ns = leAt i.f.data 8 2 →
    ends (exec (.settle i) s) fun u => (u.nsOf ns).granted = (s.nsOf ns).granted.erase (i.f.src, v) ∧
      ∃ q ∈ u.pack.out, q.typ = 0x06 ∧ q.resp = true ∧ q.tag = i.f.tag ∧ q.dst = i.f.src) ∧
  (∀ (s : State) (i : LinkIn), linkReaches s i 0x07 false → s.packPos = 0 → bit i.f.arg 16 = false →
    ends (exec (.horizonReq i) s) fun u => ∃ q ∈ u.pack.out, q.typ = 0x08 ∧ q.resp = true ∧ q.tag = i.f.tag ∧ q.dst = i.f.src ∧ q.arg = 0 ∧
      q.data = leBytes 8 (s.nsOf (i.f.arg % 4096)).horizon) ∧
  (∀ (s : State) (i : LinkIn), s.serving → s.pckUp = true → i.f.typ = 0x09 → i.f.bcast = true → i.f.src ≠ s.packPos → i.f.crcBad = false → i.full = false →
    bit i.f.arg 0 = false → (∀ y ∈ s.ks.snaps, ¬ (y.ns = leAt i.f.data 0 2 % 4096 ∧ y.v = leAt i.f.data 8 8)) →
    ends (exec (.snapNote i) s) fun u => (∃ y ∈ u.ks.snaps, u.ks.snaps = s.ks.snaps ++ [y] ∧ y.ns = leAt i.f.data 0 2 % 4096 ∧ y.v = leAt i.f.data 8 8) ∧
      i.f ∈ u.pack.out) ∧
  (∀ (s : State) (i : LinkIn), s.serving → s.pckUp = true → i.f.typ = 0x0A → i.f.bcast = true → i.f.src ≠ s.packPos → i.f.src < 8 → i.f.crcBad = false → i.full = false →
    byteAt i.f.data 3 = packN s.cfg.active → leAt i.f.data 4 4 = s.packDigest →
    ends (exec (.hello i) s) fun u => u.memberPresent i.f.src = true ∧ i.f.src ∈ u.pack.heard) ∧
  (∀ (s : State) (i : LinkIn), linkReaches s i 0x0B false → s.flag rPckCtl 1 = true →
    ends (exec (.train i true) s) fun u => u.flag rPckStatus 6 = true)

/-- O22. Pack link responses taken by this member (04_nose_index.md Table 4-21, R87, R88, R198). -/
def Obligations.PackResponseResults : Prop :=
  (∀ (s : State) (i : LinkIn) (r : LReq) (id : Nat) (f : Frame) (op : OpReq) (x : Session), linkReaches s i 0x02 true →
    s.pack.reqs.find? (fun q => q.f.tag = i.f.tag && q.f.dst = i.f.src && q.f.typ = 0x01) = some r → r.owner = some id → s.frame id = some f → f.op = some op →
    s.frameSess f = some x → f.waits = some 2 → f.scan = none → f.far = none → (op.opcode = 0x31 → byteAt i.f.data 2 ≠ 0) →
    (op.opcode = 1 → bit (byteAt i.f.data 1) 4 = false) → (beAt i.f.data 6 2) ≤ s.valueRoom f x → knownAll f = true →
    ends (exec (.fwdResp i) s) fun u => ∃ g ∈ u.frame id, g.waits = none ∧ g.res.length = f.res.length + 1 ∧
      (g.res[f.res.length]?).map (·.status) = some (byteAt i.f.data 2)) ∧
  (∀ (s : State) (i : LinkIn) (r : LReq) (id : Nat) (f : Frame) (op : OpReq) (w : Write), linkReaches s i 0x04 true →
    s.pack.reqs.find? (fun q => q.f.tag = i.f.tag && q.f.dst = i.f.src && q.f.typ = 0x03) = some r → r.owner = some id → s.frame id = some f → f.op = some op →
    f.w = some w → w.phase = .waitGrant → i.f.arg % 256 = 0 →
    ends (exec (.verGrant i) s) fun u => ∃ g ∈ u.frame id, ∃ w2 ∈ g.w, w2.version = leAt i.f.data 0 8 ∧
      w2.phase = (if op.opcode = 2 then .taken else .pending)) ∧
  (∀ (s : State) (i : LinkIn) (r : LReq), linkReaches s i 0x06 true →
    s.pack.reqs.find? (fun q => q.f.tag = i.f.tag && q.f.dst = i.f.src && q.f.typ = 0x05) = some r →
    ends (exec (.settleAck i) s) fun u => u.pack.reqs = s.pack.reqs.erase r) ∧
  (∀ (s : State) (i : LinkIn) (r : LReq) (id : Nat) (f : Frame) (op : OpReq) (x : Session), linkReaches s i 0x08 true →
    s.pack.reqs.find? (fun q => q.f.tag = i.f.tag && q.f.dst = i.f.src && q.f.typ = 0x07) = some r → r.owner = some id → s.frame id = some f → f.op = some op →
    s.frameSess f = some x → f.waits = some 3 → i.f.arg % 256 ≠ 0 → knownAll f = true →
    ends (exec (.horizon i) s) fun u => u.pack.reqs = s.pack.reqs.erase r ∧ ∃ g ∈ u.frame id, g.waits = none ∧ g.res.length = f.res.length + 1) ∧
  (∀ (s : State) (tag : Word) (r : LReq), s.serving → s.flag 0x10800000 0 = true → s.pack.reqs = [r] → r.f.tag = tag.toNat → r.tries < s.fld 0x1080000C 19 16 →
    ends (exec (.pckRetryExpiry tag) s) fun u => u.pack.reqs = [{ r with tries := r.tries + 1 }] ∧ r.f ∈ u.pack.out ∧ countsOne u s 0x10800118)

/-- O23. The pack link: frames passed on, bring-up, loss (R197, R200, R201, R202, R183, R194). -/
def Obligations.PackLinkResults : Prop :=
  (∀ (s : State) (b : Bytes) (f : LFrame), s.serving → s.pckUp = true → f = frameOf b → f.src ≠ s.packPos → f.dst ≠ s.packPos → f.bcast = false →
    ends (exec (.linkFrameRelay b) s) fun u => u.pack.out = f :: s.pack.out ∧ u.mem = s.mem ∧ u.ks = s.ks) ∧
  (∀ (s : State), s.serving → s.pckUp = true → (s.ringUp = true → s.flag rPckCtl 1 = true → s.flag rPckStatus 6 = true) →
    ends (exec .helloSend s) fun u => ∃ q ∈ u.pack.out, u.pack.out = q :: s.pack.out ∧ q.typ = 0x0A ∧ q.bcast = true ∧ q.src = s.packPos ∧ byteAt q.data 2 = s.packPos) ∧
  (∀ (s : State), s.serving → s.pckUp = true → s.ringUp = true → s.flag rPckCtl 1 = true → s.flag rPckStatus 6 = false → s.pack.trainRounds < 32 →
    ends (exec .helloSend s) fun u => u.pack.out.length = s.pack.out.length + 5 ∧ (∀ q ∈ u.pack.out.take 4, q.typ = 0x0B ∧ q.src = s.packPos) ∧
      u.pack.trainRounds = s.pack.trainRounds + 1) ∧
  (∀ (s : State) (pos : Fin 8), s.serving → pos.val ≠ s.packPos → s.memberPresent pos.val = true →
    ends (exec (.helloTimeout pos) s) fun u => u.memberPresent pos.val = false) ∧
  (∀ (s : State), s.serving → 2 ≤ packN s.cfg.active → s.packPos < packN s.cfg.active → 4 ≤ s.power.step →
    ends (exec .packLinkEnable s) fun u => u.flag rPckCtl 0 = true ∧ u.fld rPckStatus 6 0 = 0 ∧ u.pack.heard = [] ∧ u.pack.ownHello = false) ∧
  (∀ (s : State), s.serving → s.flag rPckCtl 0 = true → ends (exec .packAligned s) fun u => u.pckUp = true ∧ u.memberPresent s.packPos = true) ∧
  (∀ (s : State), s.serving → s.flag rPckCtl 0 = true → s.ringUp = false → 2 ≤ packN s.cfg.active → s.packPos < packN s.cfg.active →
    4 ≤ s.power.step → ends (exec .packUpTimeout s) fun u => u.fld rPckStatus 6 0 = 0 ∧ u.pack.heard = []) ∧
  (∀ (s : State) (lane : Fin 4), s.serving → s.flag rPckCtl 0 = true → s.flag rPckStatus lane = true → (∀ r ∈ s.others, s.memberPresent r = false) → s.ft.frames = [] →
    ends (exec (.packLaneLockLost lane) s) fun u => u.flag rPckStatus lane = false ∧ u.pckUp = false ∧ u.flag rPckStatus 5 = false ∧ countsOne u s 0x10800138) ∧
  (∀ (s : State) (pos : Fin 8) (ns v : Nat) (n : NsState), s.serving → s.leadsPack = true → s.memberPresent pos.val = false → s.ks.ns = [(ns, n)] →
    n.granted = [(pos.val, v)] → ends (exec (.packAbsentBurn pos) s) fun u => (u.nsOf ns).granted = []) ∧
  (∀ (s : State), s.serving → ends (exec .packSyncPulse s) fun u => u.nose.slotCtr = 0 ∧ u.flag rNoseStatus 2 = true ∧
    u.nose.syncOut = (s.packPos == 0)) ∧
  (∀ (s : State), s.serving → s.flag rNoseStatus 2 = true → (∀ r ∈ s.others, s.memberPresent r = false) → s.ft.frames = [] →
    ends (exec .packSyncLoss s) fun u => u.flag rNoseStatus 2 = false)

/-- O24. Pack searches (R181, R182, R195, R196). -/
def Obligations.PackSearchResults : Prop :=
  (∀ (s : State) (m : Bytes) (matchIn : Bool), s.serving → s.pckUp = true → m.length = 32 → leAt m 1 2 / 8192 ≠ s.packPos → flitTypes 0xE1 0xE2 m = true → checkOk m = true →
    s.flag rNoseStatus 2 = true → s.flag rNoseCtl 2 = true → s.flag rNoseCtl 0 = true → s.nose.ready = true →
    ends (exec (.searchMessage m matchIn false .good) s) fun u => m ∈ u.pack.outMsgs ∧ countsOne u s 0x10100248 ∧
      u.nose.matchOut = (matchIn || (searchPlain s.nose.ents (maskOfPlen (byteAt m 28) (byteAt m 29)) (leNat (slice m 7 9 ++ slice m 17 11)) s.packPos).1.found)) ∧
  (∀ (s : State) (m : Bytes), s.serving → s.pckUp = true → m.length = 32 → leAt m 2 2 / 8192 ≠ s.packPos → flitTypes 0xE3 0xE4 m = true → checkOk m = true →
    ends (exec (.resultMessage m) s) fun u => u.pack.outMsgs = m :: s.pack.outMsgs) ∧
  (∀ (s : State) (m : Bytes) (q : PSearch), s.serving → s.pckUp = true → m.length = 32 → leAt m 2 2 / 8192 = s.packPos → flitTypes 0xE3 0xE4 m = true → checkOk m = true →
    s.nose.reqs = [] → s.nose.seqn = none → s.nose.wide = none → q.frame = none → (s.th q.thread).sleep = .nose q.rd → s.nose.psearch = [q] → q.num = leAt m 2 2 % 8192 → q.rd ≠ 0 → q.rd < 31 →
    ends (exec (.resultMessage m) s) fun u => u.nose.psearch = [] ∧ (u.th q.thread).g q.rd = BitVec.ofNat 64 (leAt m 8 8) ∧
      (u.th q.thread).g (q.rd + 1) = BitVec.ofNat 64 (leAt m 17 8) ∧ (u.th q.thread).sleep = .awake) ∧
  (∀ (s : State) (q : PSearch) (num : BitVec 13), s.serving → s.nose.psearch = [q] → q.num = num.toNat → q.again = false →
    ends (exec (.packResultTimeout num) s) fun u => u.nose.psearch = [{ q with again := true }] ∧ u.pack.outMsgs.length = s.pack.outMsgs.length + 1)

/-- O25. Register accesses and their results (R11, R12, R13, R15, R16, R224). -/
def Obligations.RegisterAccessResults : Prop :=
  (∀ (s : State) (i : WriteIn) (a v : Word) (r : Reg), s.planeUp a.toNat → lookupReg a.toNat = some (r, a.toNat) → r.kind = .word → a.toNat % 4 = 0 →
    startsOnWrite a.toNat = false →
    ends (exec (.registerWrite i a v) s) fun u => u.rd a.toNat = r.afterWrite (s.rd a.toNat) v.toNat 0 % 2 ^ 32 ∧
      (∀ b, b ≠ a.toNat → u.rd b = s.rd b) ∧ { u with csr := s.csr } = s ∧ u.csr.ctrs = s.csr.ctrs) ∧
  (∀ (f : Fld) (old v : Nat), (f.acc = .ro → f.written old v 0 = bits old f.lo f.w) ∧ (f.acc = .wo → f.written old v 0 = 0) ∧
    (f.acc = .rw → f.written old v 0 = if f.legal.okay (bits v f.lo f.w) then bits v f.lo f.w else bits old f.lo f.w) ∧
    (∀ i, i < f.w → f.acc = .w1c → bit (f.written old v 0) i = (bit old (f.lo + i) && !bit v (f.lo + i))) ∧
    (∀ i, i < f.w → f.acc = .w1s → bit (f.written old v 0) i = (bit old (f.lo + i) || bit v (f.lo + i)))) ∧
  (∀ (s : State) (i : WriteIn) (v : Word), s.operating →
    ends (exec (.registerWrite i 0x30050 v) s) fun u => u.rd 0x30050 = v.toNat ∧ { u with csr := s.csr } = s ∧ u.csr.ctrs = s.csr.ctrs) ∧
  (∀ (s : State) (i : WriteIn) (v : Word), s.serving →
    ends (exec (.registerWrite i 0x10100008 v) s) fun u => { u with csr := s.csr } = s ∧
      u.shiftMax = (if 16 ≤ v.toNat % 2048 ∧ v.toNat % 2048 ≤ 1024 then v.toNat % 2048 else s.shiftMax)) ∧
  (∀ (s : State) (a : Word) (r : Reg), s.planeUp a.toNat → lookupReg a.toNat = some (r, a.toNat) → r.kind = .ctr →
    ends (exec (.rcRead a) s) fun u => u.readData = [s.c64 a.toNat % 2 ^ 32] ∧ u.c64 a.toNat = 0 ∧ u.snapOf a.toNat = s.c64 a.toNat ∧
      { u with csr := s.csr, readData := s.readData } = s ∧ u.csr.words = s.csr.words) ∧
  (∀ (s : State) (a : Word) (r : Reg), s.planeUp a.toNat → lookupReg a.toNat = some (r, a.toNat) → r.kind ≠ .word →
    ends (exec (.counterLowRead a) s) fun u => u.readData = [s.live64 a.toNat % 2 ^ 32] ∧ u.snapOf a.toNat = s.live64 a.toNat ∧
      { u with csr := s.csr, readData := s.readData } = s) ∧
  (∀ (s : State) (a : Word) (r : Reg), s.planeUp a.toNat → 4 ≤ a.toNat → lookupReg a.toNat = some (r, a.toNat - 4) → r.kind ≠ .word →
    ends (exec (.counterHighRead a) s) fun u => u.readData = [s.snapOf (a.toNat - 4) / 2 ^ 32] ∧ { u with readData := s.readData } = s) ∧
  (∀ (t : Fin 256) (rd rs1 : Fin 32) (imm : Half) (s : State), s.issuesSystem t → ((s.th t).g rs1 + imm.signExtend 64).toNat % 4 = 0 →
    ((s.th t).g rs1 + imm.signExtend 64).toNat < 0x10000000 → regResult (exec (.iord t rd rs1 imm) s) s t rd 0) ∧
  (∀ (t : Fin 256) (rd rs1 : Fin 32) (imm : Half) (s : State), s.issuesSystem t → ((s.th t).g rs1 + imm.signExtend 64).toNat % 4 = 0 →
    0x10000000 ≤ ((s.th t).g rs1 + imm.signExtend 64).toNat → ((s.th t).g rs1 + imm.signExtend 64).toNat < 2 ^ 32 →
    (lookupReg ((s.th t).g rs1 + imm.signExtend 64).toNat).isSome = true →
    ends (exec (.iord t rd rs1 imm) s) fun u => { u with threads := s.threads, csr := s.csr } = s ∧ otherRegs u s t rd ∧ (u.th t).rest = (s.th t).rest ∧
      (u.th t).g rd = (if rd = 0 then 0 else BitVec.ofNat 64 (s.readReg ((s.th t).g rs1 + imm.signExtend 64).toNat).1)) ∧
  (∀ (t : Fin 256) (rs2 rs1 : Fin 32) (imm : Half) (s : State), s.issuesSystem t → ((s.th t).g rs1 + imm.signExtend 64).toNat = 0x10100008 →
    ends (exec (.iowr t rs2 rs1 imm) s) fun u => { u with threads := s.threads, csr := s.csr } = s ∧ (∀ r, r < 32 → (u.th t).g r = (s.th t).g r) ∧
      u.shiftMax = (if 16 ≤ ((s.th t).g rs2).toNat % 2048 ∧ ((s.th t).g rs2).toNat % 2048 ≤ 1024 then ((s.th t).g rs2).toNat % 2048 else s.shiftMax)) ∧
  (∀ (t : Fin 256) (rs2 rs1 : Fin 32) (imm : Half) (s : State), s.issuesSystem t → ((s.th t).g rs1 + imm.signExtend 64).toNat % 4 = 0 →
    ((s.th t).g rs1 + imm.signExtend 64).toNat < 0x10000000 →
    ends (exec (.iowr t rs2 rs1 imm) s) fun u => onlyThread u s t ∧ (∀ r, r < 32 → (u.th t).g r = (s.th t).g r) ∧ (u.th t).rest = (s.th t).rest)

/-- O26. GET, HEAD, BARRIER, PING, CFG_READ, DIR_UPDATE, PACK_FWD, PROXY_RESPONSE (R117, R125, R128, R137, R140, R82, R498, 03_fetch_protocol.md Table 3-8). -/
def Obligations.FetchReadResults : Prop :=
  (∀ (s t : State) (id : Nat) (f : Frame) (x : Session) (op : OpReq) (v : Ver), s.atTurn id 1 f x op → op.val = [] →
    s.findPlace f (s.setOf f.epoch) op (s.opChecks (s.setOf f.epoch) x op 0 op.key.length false) = .pass t → s.isPending op.ns op.key = false → s.liveOf op.ns op.key = some v →
    v.value.length ≤ s.valueRoom f x → s.valueDamage op.ns op.key = [] →
    ends (exec (.get id false) s) fun u => answered u id f (resOf op 0 v.version v.value 0) ∧ sameStores u s) ∧
  (∀ (s t : State) (id : Nat) (f : Frame) (x : Session) (op : OpReq) (v : Ver), s.atTurn id 1 f x op → op.val = [] →
    s.findPlace f (s.setOf f.epoch) op (s.opChecks (s.setOf f.epoch) x op 0 op.key.length false) = .pass t → s.isPending op.ns op.key = false → s.liveOf op.ns op.key = some v →
    v.value.length ≤ s.valueRoom f x → s.valueDamage op.ns op.key = [true] →
    ends (exec (.get id false) s) fun u => answered u id f (resOf op 0 v.version v.value 0) ∧ sameStores u s ∧ countsOne u s 0x10005040) ∧
  (∀ (s t : State) (id : Nat) (f : Frame) (x : Session) (op : OpReq), s.atTurn id 1 f x op → op.val = [] →
    s.findPlace f (s.setOf f.epoch) op (s.opChecks (s.setOf f.epoch) x op 0 op.key.length false) = .pass t → s.isPending op.ns op.key = false → s.liveOf op.ns op.key = none →
    s.valueDamage op.ns op.key = [] → ends (exec (.get id false) s) fun u => answered u id f (resOf op 1 0 [] 0) ∧ sameStores u s) ∧
  (∀ (s t : State) (id : Nat) (f : Frame) (x : Session) (op : OpReq) (v : Ver), s.atTurn id 1 f x op → op.val = [] →
    s.findPlace f (s.setOf f.epoch) op (s.opChecks (s.setOf f.epoch) x op 0 op.key.length false) = .pass t → s.isPending op.ns op.key = false → s.liveOf op.ns op.key = some v →
    s.valueRoom f x < v.value.length → f.ops.length = 1 → f.isClient = true → s.valueDamage op.ns op.key = [] →
    ends (exec (.get id false) s) fun u => sameStores u s ∧ ∃ g ∈ u.frame id, g.cont = some (v.value, v.version, s.valueRoom f x - 8) ∧
      ∃ r ∈ g.res[f.res.length]?, r.status = 0 ∧ bit r.flags 4 = true ∧ r.val = beBytes 4 v.value.length ++ zeros 4 ++ v.value.take (s.valueRoom f x - 8)) ∧
  (∀ (s t : State) (id : Nat) (f : Frame) (x : Session) (op : OpReq) (v : Ver), s.atTurn id 7 f x op → op.val = [] →
    s.findPlace f (s.setOf f.epoch) op (s.opChecks (s.setOf f.epoch) x op 0 op.key.length false) = .pass t → s.isPending op.ns op.key = false → s.liveOf op.ns op.key = some v →
    (s.valueDamage op.ns op.key).contains false = false → ends (exec (.head id false) s) fun u => answered u id f (resOf op 0 v.version (beBytes 4 v.value.length) 0) ∧ sameStores u s) ∧
  (∀ (s t : State) (id : Nat) (f : Frame) (x : Session) (op : OpReq), s.atTurn id 0x0A f x op → op.key = [] → op.val = [] → s.admitOp (s.setOf f.epoch) x 0 = some t →
    s.barrierMet id f = true → ends (exec (.barrier id) s) fun u => answered u id f (resOf op 0 0 [] 0) ∧ sameStores u s) ∧
  (∀ (s t : State) (id : Nat) (f : Frame) (x : Session) (op : OpReq), s.atTurn id 0x0C f x op → op.ns = 0 → op.key = [] → op.val.length ≤ 7936 →
    s.admitOp (s.setOf f.epoch) x op.val.length = some t → op.val.length ≤ s.valueRoom f x →
    ends (exec (.ping id) s) fun u => answered u id f (resOf op 0 s.phcNs op.val 0) ∧ sameStores u s) ∧
  (∀ (s : State) (id : Nat) (f : Frame) (x : Session) (op : OpReq), s.atTurn id 0x34 f x op → isOperator x = true → op.key = [] → op.val = [] →
    ends (exec (.cfgRead id) s) fun u => sameStores u s ∧ answered u id f (resOf op 0 0
      (((patch (setImage s.cfg.active s.cfg.serial []) 64 (zeros 64)).drop op.arg).take (min 7936 (s.valueRoom f x))) 0)) ∧
  (∀ (s : State) (id : Nat) (f : Frame) (x : Session) (op : OpReq) (d : List Bytes), s.atTurn id 0x30 f x op → isOperator x = true →
    op.val.length % 32 = 0 → op.val ≠ [] → op.val.length ≤ 7936 → op.key = [] → s.cfg.waiting = none → 4 ≤ (s.cfg.shadow.get secGlobal 0).length →
    placeAll s.cfg.shadow.dir (chunks 248 32 op.val) = some d →
    ends (exec (.dirUpdate id) s) fun u => answered u id f (resOf op 0 0 [] 0) ∧ u.cfg.shadow.dir = d ∧ dirGen u.cfg.shadow = op.arg % 2 ^ 32 ∧
      u.cfg.active = s.cfg.active ∧ u.rd rCfgShadowGen = (s.rd rCfgShadowGen + 1) % 2 ^ 32) ∧
  (∀ (s : State) (id : Nat) (f : Frame) (x : Session) (op : OpReq), s.atTurn id 0x32 f x op → f.isClient = true →
    ends (exec (.packFwd id) s) fun u => answered u id f (resOf op 0x0A 0 [] 0) ∧ sameStores u s) ∧
  (∀ (s : State) (id : Nat) (f : Frame) (x : Session) (op : OpReq) (st : Byte) (cls : BitVec 2) (arg : DWord) (val : Bytes), s.serving → s.frame id = some f →
    f.waits = some 1 → f.op = some op → s.frameSess f = some x → val.length ≤ s.valueRoom f x →
    ends (exec (.proxyResponse id st cls arg val) s) fun u =>
      answered u id f (resOf op st.toNat arg.toNat val (if op.opcode = 1 ∧ st = 0 then 0 else cls.toNat)) ∧
      u.ks.proxied = s.ks.proxied.erase id)

/-- O27. SCAN, SCAN_NEXT, their expiries, continuations (R121, R122, R123, R67, R68, R137). -/
def Obligations.FetchScanResults : Prop :=
  (∀ (s t : State) (id : Nat) (f : Frame) (x : Session) (op : OpReq) (k : KeyRec) (v : Ver), s.atTurn id 8 f x op →
    s.scanChecks (s.setOf f.epoch) x op = .pass t → op.flags = 0 → op.val = [] → f.isClient = true → packN (s.setOf f.epoch) ≤ 1 →
    s.ks.keys = [k] → k.ns = op.ns → isBeginOf op.key k.key = true → k.pend = none → liveVer k = some v → s.ks.cursors.length < 4096 →
    dirNext (s.setOf f.epoch) op.ns (headOf op.key) (s.isForeign (s.setOf f.epoch)) = none → 20 + k.key.length + v.value.length ≤ s.valueRoom f x →
    (nsStateOf (s.setOf f.epoch) op.ns = 3 ∨ s.ownedHere (s.setOf f.epoch) op.ns (headOf k.key) = true) → (s.verDamage k v).contains false = false →
    ends (exec (.scan id false) s) fun u => sameStores u s ∧ u.ks.cursors = s.ks.cursors ∧ answered u id f (resOf op 0 0
      (beBytes 4 ((Config.freeWord s.free).toNat % 2 ^ 32) ++ beBytes 2 1 ++ [1, 0] ++
        (beBytes 8 v.version ++ beBytes 2 k.key.length ++ beBytes 2 v.value.length ++ k.key ++ v.value)) 0)) ∧
  (∀ (s t : State) (id : Nat) (f : Frame) (x : Session) (op : OpReq) (k : Cursor), s.atTurn id 9 f x op → op.key = [] → op.val = [] →
    1 ≤ op.arg % 65536 → op.arg % 65536 ≤ 1024 → hasRight x 2 = true → nsAllowed (s.setOf f.epoch) x op.ns = true →
    s.admitOp (s.setOf f.epoch) x 0 = some t → s.ks.cursors = [k] → k.id = op.arg / 2 ^ 32 → k.sess = f.owner → k.ns = op.ns → k.snapGone = false →
    k.snap = none → k.far = none → s.ks.keys = [] → packN (s.setOf f.epoch) ≤ 1 → (s.setOf f.epoch).dir = [] → 8 ≤ s.valueRoom f x →
    (nsStateOf (s.setOf f.epoch) op.ns = 3 → nsFlag (s.setOf f.epoch) op.ns 1 = true) → ends (exec (.scanNext id false) s) fun u => sameStores u s ∧ u.ks.cursors = [] ∧
      answered u id f (resOf op 0 k.v (beBytes 4 k.id ++ beBytes 2 0 ++ [1, 0]) 0)) ∧
  (∀ (s : State) (y : Snap), s.serving → s.ks.snaps = [y] → ends (exec (.snapshotExpiry y.id) s) fun u => u.ks.snaps = [] ∧ u.mem = s.mem ∧ u.st = s.st) ∧
  (∀ (s : State) (c : Cursor), s.serving → s.ks.cursors = [c] → ends (exec (.cursorIdleExpiry c.id) s) fun u => u.ks.cursors = [] ∧ u.mem = s.mem ∧ u.st = s.st) ∧
  (∀ (s : State) (id : Nat) (f : Frame) (x : Session) (value : Bytes) (v off : Nat), s.serving → s.frame id = some f → f.cont = some (value, v, off) →
    f.phase = .sent → s.sends f.sess x → s.canSend f.port = true → s.halted = false → off + (s.space f x - 16) < value.length →
    ends (exec (.getContinuation id) s) fun u => (u.sess f.sess).map (·.tx) = some (x.tx + 1) ∧
      (u.frame id).map (·.cont) = some (some (value, v, off + (s.space f x - 16)))) ∧
  (∀ (s : State) (id : Nat) (f : Frame) (x : Session) (value : Bytes) (v off : Nat), s.serving → s.frame id = some f → f.cont = some (value, v, off) →
    f.phase = .sent → s.sends f.sess x → s.canSend f.port = true → s.halted = false → value.length ≤ off + (s.space f x - 16) →
    ends (exec (.getContinuation id) s) fun u => (u.sess f.sess).map (·.tx) = some (x.tx + 1) ∧ u.frame id = none)

/-- O28. Writes take their version (R52, R53, R58, R59, R118, R119, R120). -/
def Obligations.FetchWriteTakes : Prop :=
  (∀ (s t : State) (id : Nat) (f : Frame) (x : Session) (op : OpReq), s.atTurn id 2 f x op → s.halted = false → f.w = none →
    s.findPlace f (s.setOf f.epoch) op (s.writeChecks (s.setOf f.epoch) f x op) = .pass t → t.writeRoom (s.setOf f.epoch) op false op.val →
    ends (exec (.put id .start) s) fun u => (u.nsOf op.ns).counter = (s.nsOf op.ns).counter + 1 ∧ u.ks.keys = s.ks.keys ∧
      ∃ g ∈ u.frame id, ∃ w ∈ g.w, w.phase = .taken ∧ w.version = (s.nsOf op.ns).counter + 1 ∧ w.tomb = false ∧ w.value = op.val ∧
        w.ns = op.ns ∧ w.key = op.key) ∧
  modifyTakes .delete 3 (fun _ cur => cur.map fun _ => (true, [])) ∧
  modifyTakes .cas 4 (fun op cur => match cur with
    | none => if op.arg = 0 then some (false, op.val) else none
    | some v => if op.arg ≠ 0 ∧ v.version = op.arg then some (false, op.val) else none) ∧
  modifyTakes .fetchAdd 5 (fun op cur => match cur with
    | none => some (false, beBytes 8 (op.arg % 2 ^ 64))
    | some v => if v.value.length = 8 then some (false, beBytes 8 ((beNat v.value + op.arg) % 2 ^ 64)) else none) ∧
  modifyTakes .append 6 (fun op cur => some (false, (cur.map (·.value)).getD [] ++ op.val)) ∧
  (∀ (s t : State) (id : Nat) (f : Frame) (x : Session) (op : OpReq) (v : Ver), s.atTurn id 4 f x op → s.halted = false → f.w = none →
    s.findPlace f (s.setOf f.epoch) op (s.writeChecks (s.setOf f.epoch) f x op) = .pass t → s.isPending op.ns op.key = false → s.liveOf op.ns op.key = some v → op.arg ≠ 0 → v.version ≠ op.arg →
    t.reserveOk (recLines op.key.length op.val.length) = true → ((t.pendKey op.ns op.key id).2.valueDamage op.ns op.key).contains false = false →
    ends (exec (.cas id .start) s) fun u => answered u id f (resOf op 3 v.version [] 0) ∧ u.liveOf op.ns op.key = some v ∧
      (u.nsOf op.ns).counter = (s.nsOf op.ns).counter ∧ u.isPending op.ns op.key = false)

/-- O29. Writes become visible; waits and mirrors (R57, R59, R60, R72, R74, R83, R119). -/
def Obligations.FetchWriteShows : Prop :=
  softShows .put 2 ∧ softShows .delete 3 ∧ softShows .cas 4 ∧ softShows .fetchAdd 5 ∧ softShows .append 6 ∧
  (∀ (s : State) (id : Nat) (f : Frame) (x : Session) (op : OpReq) (w : Write) (r : JRec), s.atTurn id 2 f x op → s.halted = false → f.w = some w →
    w.phase = .pending → s.st.jrn.find? (fun y => y.jsn = w.jsn) = some r → s.localCap ≤ 2 ^ 32 → 64 * r.line + 64 * r.lines ≤ s.localCap → s.interCap ≤ 0x8000000000 →
    ends (exec (.put id .soft) s) fun u => u.dramRd (0x8000000000 + 64 * r.line) (64 * r.lines) = r.bytes ∧
      u.dramRd (0x8800000000 + 64 * r.line) (64 * r.lines) = r.bytes) ∧
  (∀ (s : State) (id : Nat) (f : Frame) (x : Session) (op : OpReq) (w : Write), s.atTurn id 2 f x op → s.halted = false → f.w = some w → w.phase = .taken →
    s.isPending w.ns w.key = false → ((s.findKey w.ns w.key).map heldVersion).getD 0 ≤ w.version →
    ends (exec (.put id .nose) s) fun u => u.isPending w.ns w.key = true ∧ u.liveOf w.ns w.key = s.liveOf w.ns w.key ∧
      ∃ g ∈ u.frame id, ∃ w2 ∈ g.w, w2.phase = .pending ∧ w2.version = w.version) ∧
  (∀ (s : State) (id : Nat) (f : Frame) (x : Session) (op : OpReq) (w : Write), s.atTurn id 2 f x op → s.halted = false → f.w = some w → w.phase = .taken →
    s.isPending w.ns w.key = false → w.version < ((s.findKey w.ns w.key).map heldVersion).getD 0 →
    ends (exec (.put id .nose) s) fun u => (∀ ns k, u.liveOf ns k = s.liveOf ns k ∧ u.isPending ns k = s.isPending ns k) ∧
      ∃ g ∈ u.frame id, ∃ w2 ∈ g.w, w2.phase = .superseded ∧ w2.version = w.version) ∧
  (∀ (s : State) (id : Nat) (f : Frame) (op : OpReq) (w : Write), s.serving → s.frame id = some f → f.w = some w → f.op = some op → w.phase = .waitJournal →
    ends (exec (.journalWaitTimeout id) s) fun u => answered u id f (resOf op 6 0 [] 0) ∧ (u.nsOf w.ns).counter = (s.nsOf w.ns).counter) ∧
  (∀ (s : State) (m : Mirror) (ns : BitVec 12) (fo : BitVec 14) (v : DWord), s.serving → s.ks.mirrors = [m] → m.ns = ns.toNat → m.follower = fo.toNat →
    ends (exec (.mirrorAck ns fo v) s) fun u => u.ks.mirrors = [{ m with acked := max m.acked v.toNat, backlog := m.backlog.filter fun b => v.toNat < b.1 }] ∧
      u.ks.keys = s.ks.keys) ∧
  (∀ (s : State) (id : Nat) (f : Frame) (d : WDone), s.serving → s.frame id = some f → f.writes = [d] → d.cls = 2 → d.reached = false →
    ends (exec (.mirrorTimeoutExpiry id d.idx) s) fun u => ∃ g ∈ u.frame id, g.writes = [{ d with cls := 0, reached := true }] ∧
      (∀ r ∈ g.res[d.idx]?, r.flags % 4 = 0))

/-- O30. Segmented values and forwarded mirror writes (R131, R132, R134, R135, R83, R85). -/
def Obligations.FetchSegmentResults : Prop :=
  (∀ (s t : State) (id : Nat) (f : Frame) (x : Session) (op : OpReq), s.serving → s.frame id = some f → s.frameSess f = some x → s.sess f.sess = some x →
    f.op = some op → f.isClient = true → f.phase = .executing → f.waits = none → f.seg = none → f.w = none → bit op.flags 4 = true →
    (op.opcode = 2 ∨ op.opcode = 4 ∨ op.opcode = 6 ∨ op.opcode = 0x0B ∨ op.opcode = 0x31) → 8 ≤ op.val.length → op.val.length ≤ 7936 →
    beAt op.val 0 4 ≤ 16777216 → op.val.length - 8 < beAt op.val 0 4 → s.segChecks (s.setOf f.epoch) x op (beAt op.val 0 4) = .pass t →
    t.segNoSpace (s.setOf f.epoch) op (beAt op.val 0 4) = false → x.seg = none →
    s.reassemblyUsed + (beAt op.val 0 4 + 4095) / 4096 * 4096 ≤ s.proto 12 4 * 1048576 →
    ends (exec (.segmentFirst id) s) fun u => answered u id f (segReply op f.seq (op.val.length - 8)) ∧ sameStores u s ∧
      (u.sess f.sess).map (·.seg) = some (some { first := f.seq, op := { op with flags := op.flags &&& 0xEF, val := [] }, total := beAt op.val 0 4, data := op.val.drop 8 })) ∧
  (∀ (s t : State) (id : Nat) (f : Frame) (x : Session) (op : OpReq) (g : Seg), s.atTurn id 0x10 f x op → f.isClient = true → s.sess f.sess = some x →
    s.admitOp (s.setOf f.epoch) x 0 = some t → x.seg = some g → op.arg / 2 ^ 32 = g.first → op.arg % 2 ^ 32 = g.data.length → op.ns = 0 → op.key = [] →
    op.val.length ≤ 7936 → g.data.length + op.val.length < g.total →
    ends (exec (.seg id) s) fun u => answered u id f (segReply op g.first (g.data.length + op.val.length)) ∧ sameStores u s ∧
      (u.sess f.sess).map (·.seg) = some (some { g with data := g.data ++ op.val })) ∧
  (∀ (s t : State) (id : Nat) (f : Frame) (x : Session) (op : OpReq) (g : Seg), s.atTurn id 0x10 f x op → f.isClient = true → s.sess f.sess = some x →
    s.admitOp (s.setOf f.epoch) x 0 = some t → x.seg = some g → op.arg / 2 ^ 32 = g.first → op.arg % 2 ^ 32 = g.data.length → op.ns = 0 → op.key = [] →
    op.val.length ≤ 7936 → g.data.length + op.val.length = g.total →
    ends (exec (.seg id) s) fun u => (u.sess f.sess).map (·.seg) = some none ∧ (u.frame id).map (·.seg) = some (some (g.op, g.data ++ op.val))) ∧
  (∀ (s : State) (sid : Fin 65536) (x : Session), s.serving → s.sess sid = some x → x.seg.isSome = true →
    ends (exec (.segTimeoutExpiry sid) s) fun u => u.sess sid = some { x with seg := none } ∧ countsOne u s 0x10002040 ∧ sameStores u s) ∧
  (∀ (s : State) (id : Nat) (f : Frame) (x : Session) (op : OpReq), s.atTurn id 0x31 f x op → bits op.flags 2 2 = 0 → isOperator x = true →
    nsStateOf (s.setOf f.epoch) op.ns = 3 → s.power.sit = false → packN (s.setOf f.epoch) ≤ 1 → s.underLead = false → mirrorFieldsOk 0 f.seg.isSome op = true → s.flag rStState 4 = false → op.arg = (s.nsOf op.ns).applied + 1 →
    s.reserveOk (recLines op.key.length op.val.length) = true →
    ends (exec (.mirrorFwdValue id) s) fun u => answered u id f (resOf op 0 op.arg [] 0) ∧ (u.nsOf op.ns).applied = op.arg ∧
      (u.liveOf op.ns op.key).map (fun v => (v.version, v.value)) = some (op.arg, op.val)) ∧
  (∀ (s : State) (id : Nat) (f : Frame) (x : Session) (op : OpReq), s.atTurn id 0x31 f x op → bits op.flags 2 2 = 1 → isOperator x = true →
    nsStateOf (s.setOf f.epoch) op.ns = 3 → s.power.sit = false → packN (s.setOf f.epoch) ≤ 1 → s.underLead = false → keyOk op.key = true → op.val = [] → op.arg = (s.nsOf op.ns).applied + 1 → s.reserveOk (recLines op.key.length 0) = true →
    ends (exec (.mirrorFwdTombstone id) s) fun u => answered u id f (resOf op 0 op.arg [] 0) ∧ (u.nsOf op.ns).applied = op.arg ∧ u.liveOf op.ns op.key = none) ∧
  (∀ (s : State) (id : Nat) (f : Frame) (x : Session) (op : OpReq), s.atTurn id 0x31 f x op → bits op.flags 2 2 = 2 → isOperator x = true →
    nsStateOf (s.setOf f.epoch) op.ns = 3 → s.power.sit = false → packN (s.setOf f.epoch) ≤ 1 → s.underLead = false → op.key = [] → op.val = [] → op.arg = (s.nsOf op.ns).applied + 1 →
    ends (exec (.mirrorFwdBurnt id) s) fun u => answered u id f (resOf op 0 op.arg [] 0) ∧ (u.nsOf op.ns).applied = op.arg ∧ u.ks.keys = s.ks.keys) ∧
  (∀ (s : State) (id : Nat) (f : Frame) (x : Session) (op : OpReq), s.atTurn id 0x31 f x op → bits op.flags 2 2 = 3 → isOperator x = true →
    nsStateOf (s.setOf f.epoch) op.ns = 3 → s.power.sit = false → packN (s.setOf f.epoch) ≤ 1 → s.underLead = false → op.key = [] → op.val = [] → (s.nsOf op.ns).applied < op.arg →
    ends (exec (.mirrorFwdSkip id) s) fun u => answered u id f (resOf op 0 op.arg [] 0) ∧ (u.nsOf op.ns).applied = op.arg ∧ u.ks.keys = s.ks.keys)

/-- O31. Frames from the port to the response (R380, R373, R384, R96, R186, R431, R100, R104, R106, R129). -/
def Obligations.FrameIntakeResults : Prop :=
  (∀ (s : State) (p : Fin 2) (raw : Bytes) (w : RxIn), s.serving → s.loopDepth p = 0 → s.linkUp p = true → s.halted = false → raw.length ≤ s.fld (macBase p + 8) 13 0 → 64 ≤ raw.length →
    (s.takeCells p (cellsFor (raw.take 12 ++ raw.drop (12 + 4 * rawTags raw)).length) w.room).isSome = true → s.passesFilter p raw = true → beAt raw 12 2 ≠ 0x8808 →
    isArpNd raw = false → s.flag (macBase p) 13 = false → s.power.base ≠ .test → s.dropsFetch = false → s.frameGood p w = true →
    ends (exec (.macRxFrame p raw w) s) fun u => (u.port p).rx.map (·.raw) = (s.port p).rx.map (·.raw) ++ [raw] ∧
      (u.port p).rx.map (·.fresh) = (s.port p).rx.map (·.fresh) ++ [true] ∧ countsOne u s (macBase p + 0x800) ∧ u.ft = s.ft ∧ u.ks = s.ks ∧
      (if (s.takeCells p (cellsFor (raw.take 12 ++ raw.drop (12 + 4 * rawTags raw)).length) w.room).map (·.2) = some [] then
        { u.mem with poison := s.mem.poison } = s.mem
      else countsOne u s (macBase p + 0x858))) ∧
  (∀ (s : State) (p : Fin 2) (raw : Bytes) (w : RxIn), s.serving → s.loopDepth p = 0 → s.linkUp p = true → s.halted = false → raw.length ≤ s.fld (macBase p + 8) 13 0 → 64 ≤ raw.length →
    (s.takeCells p (cellsFor (raw.take 12 ++ raw.drop (12 + 4 * rawTags raw)).length) w.room).isSome = true → s.frameGood p w = false →
    ends (exec (.macRxFrame p raw w) s) fun u => (u.port p).rx = (s.port p).rx ∧ countsOne u s (macBase p + 0x810) ∧ u.ft = s.ft ∧ u.ks = s.ks) ∧
  (∀ (s : State) (p : Fin 2) (full : Bool) (ecc : Ecc) (r : RxFrame) (c : Nat), s.serving → s.halted = false → s.nextFresh p = some r → s.verify r.raw = .drop c →
    ends (exec (.retrieverFrame p full ecc) s) fun u => (u.port p).rx = (s.port p).rx.erase r ∧ countsOne u s c ∧ u.ft = s.ft ∧ u.ks = s.ks ∧ u.mem = s.mem) ∧
  (∀ (s s2 : State) (p : Fin 2) (r : RxFrame) (sid v : Nat) (x : Session) (up : Parsed) (plain value : Bytes) (op : OpReq), s.serving →
    s.halted = false → s.nextFresh p = some r → s.verify r.raw = .pass sid up plain false → s.sess sid = some x → x.slot = none →
    s.flag rRtvCtl 0 = true → r.spill = [] → (s.port p).quickRoom 9216 = true →
    ((s.updSess sid (learn p r.raw)).bump 0x10002000).fastPath sid (learn p r.raw x) up plain false .good = .hit v value false op s2 →
    ends (exec (.retrieverFrame p false .good) s) fun u => (u.port p).rx = (s.port p).rx.erase r ∧ countsOne u s 0x10200400 ∧ countsOne u s 0x10002000) ∧
  (∀ (s : State) (p : Fin 2) (full : Bool) (ecc : Ecc) (r : RxFrame) (sid : Nat) (x : Session) (up : Parsed) (plain : Bytes), s.serving →
    s.halted = false → s.nextFresh p = some r → s.verify r.raw = .pass sid up plain false → s.sess sid = some x → s.framesOf sid = [] →
    (s.flag rRtvCtl 0 = false ∨ full = true ∨ r.spill ≠ []) → x.busy = false → x.seqAt (beAt up.payload 8 4) (tiled (byteAt up.payload 2) plain) = .go →
    ends (exec (.retrieverFrame p full ecc) s) fun u => countsOne u s 0x10002000 ∧ u.ft.nextFrame = s.ft.nextFrame + 1 ∧
      (∃ f ∈ u.frame s.ft.nextFrame, f.sess = sid ∧ f.seq = beAt up.payload 8 4 ∧ f.phase = .intake ∧ f.raw = r.raw ∧ f.plain = plain ∧ f.status = 0) ∧
      ∃ d, u.disp.waiting = s.disp.waiting ++ [d] ∧ d.frame = some s.ft.nextFrame ∧ d.flight = 0) ∧
  (∀ (s : State) (p : Fin 2) (r : RxFrame) (sid : Nat), s.serving → s.halted = false → s.nextFresh p = some r → s.verify r.raw = .saved sid →
    s.cph.queue.length < 256 →
    ends (exec (.contextRestore p) s) fun u => u.cph.queue = s.cph.queue ++ [{ port := p, addr := r.addr, sess := sid }] ∧ u.net = s.net) ∧
  (∀ (s : State) (sid : Fin 65536) (n : Nat) (x : Session), s.serving → s.cph.queue = [] → s.cph.restores = [(sid.val, n)] → s.sess sid = some x →
    s.framesOf sid = [] →
    ends (exec (.contextRestoreDone sid true) s) fun u => u.cph.restores = [] ∧ (s.loadCtx sid x.cipher = none → u.sess sid = none) ∧
      (∀ e ∈ s.loadCtx sid x.cipher, u.sess sid = some { x with slot := some n } ∧ (u.slot n).cur = some e.1 ∧ (u.slot n).gen = e.2.1 ∧ (u.slot n).next = e.2.2 ∧
        (u.slot n).sess = some sid.val ∧ countsOne u s 0x10700128)) ∧
  (∀ (s : State) (sid : Fin 65536) (n : Nat) (x : Session), s.serving → s.cph.queue = [] → s.cph.restores = [(sid.val, n)] → s.sess sid = some x →
    s.framesOf sid = [] → ends (exec (.contextRestoreDone sid false) s) fun u => u.cph.restores = [] ∧ u.sess sid = none) ∧
  (∀ (s : State) (w : RestWait) (r : RxFrame), s.serving → s.cph.queue = [w] → s.cph.restores = [] → s.waitFrame w = some r →
    ends (exec .restoreTimeout s) fun u => u.cph.queue = [] ∧ countsOne u s 0x10700138 ∧ (u.port w.port).rx = (s.port w.port).rx.erase r) ∧
  (∀ (s s2 : State) (id : Nat) (t : Fin 256) (f : Frame) (m : Msg) (x : Session) (up : Parsed) (ops : List OpReq), s.serving → s.halted = false → s.noCommit →
    s.frame id = some f → f.phase = .intake → s.sess f.sess = some x → s.takeIntake t f = some (m, s2) → m.typ < 0xF0 → s.canSend f.port = true → f.status = 0 → f.old = false →
    parseUdp f.raw = some up → tiled (byteAt up.payload 2) f.plain = some ops → x.seqAt f.seq (some ops) = .go →
    (isOperator x = true ∨ tenantState (s.setOf f.epoch) x.tenant = 1) →
    ends (exec (.fetchFrameAccept id t) s) fun u => ∃ g ∈ u.frame id, g.phase = .executing ∧ g.ops = ops ∧ g.thread = some t.val ∧ g.status = 0 ∧
      (u.sess f.sess).map (·.h) = some (max x.h f.seq)) ∧
  (∀ (s : State) (sid : Fin 65536) (x : Session) (id : Nat) (f : Frame), s.serving → s.noCommit → s.sess sid = some x →
    (s.heldFrames sid).find? (fun e => decide (x.h + 1 < e.2.seq)) = some (id, f) →
    ends (exec (.holdTimeoutExpiry sid) s) fun u => ∃ y ∈ u.sess sid, y.h = x.h ∧ y.done = x.done ∧
      (List.range (f.seq - x.h - 1)).all (fun i => (y.skipped ++ y.refused).contains (x.h + 1 + i) || (s.framesOf sid).any (fun e => decide (e.2.seq = x.h + 1 + i))) = true) ∧
  (∀ (s : State) (id : Nat) (f : Frame) (x : Session), s.serving → s.noCommit → s.frame id = some f → f.finished = true → f.isClient = true → s.power.brace = false →
    f.cont = none → s.sends f.sess x → s.canSend f.port = true →
    (s.ft.replays.map Replay.size).sum + 95 + 24 * f.res.length ≤ s.proto 16 4 * 1048576 →
    ends (exec (.frameResponse id) s) fun u => u.frame id = none ∧ (u.sess f.sess).map (·.tx) = some (x.tx + 1) ∧
      (u.ft.replays.getLast?).map (fun r => (r.sess, r.seq, r.res)) = some (f.sess, f.seq, f.res))

/-- O32. The dispatcher: deliveries, arrivals, roles, stops (R226, R247, R249, R252, R254, R255, R256, R257, R258, R259). -/
def Obligations.DispatcherResults : Prop :=
  (∀ (s : State) (d : DMsg) (e : Nat), s.serving → s.flag rDspCtl 0 = true → s.flag rDspCtl 1 = false → s.halted = false → s.disp.waiting = [d] →
    s.mayGo d = true → s.testHolds d = false → s.holder d.m.role = some e →
    ends (exec .dispatchDelivery s) fun u => u.disp.waiting = [{ d with m := addressTo d.m e (s.deng e).epoch, flight := e + 1, sent := true }] ∧ u.disp.rr = e ∧
      countsOne u s 0x10003400 ∧ u.engines = s.engines) ∧
  (∀ (s : State) (e : Fin 64) (d : DMsg), s.serving → s.disp.waiting.find? (fun d => decide (d.flight = e.val + 1)) = some d →
    matchesRole d.m (s.en e).role = true → (s.en e).queue.length < 16 → (s.en e).waiters = [] →
    ends (exec (.messageArrival e) s) fun u => (u.en e).queue = (s.en e).queue ++ [d.m] ∧ u.disp.waiting = s.disp.waiting.erase d ∧ u.threads = s.threads) ∧
  (∀ (s : State) (e : Fin 64) (d : DMsg), s.serving → s.disp.waiting.find? (fun d => decide (d.flight = e.val + 1)) = some d →
    matchesRole d.m (s.en e).role = false →
    ends (exec (.messageArrival e) s) fun u => u.engines = s.engines ∧ countsOne u s 0x10003408 ∧
      ∃ b ∈ u.disp.waiting.getLast?, b.m = d.m ∧ b.flight = 0 ∧ b.bounced.isSome = true) ∧
  (∀ (s : State) (d : DMsg), s.serving → s.noCommit → s.giveUpCandidate = some d → d.frame = none →
    ends (exec .dispatchGiveUp s) fun u => countsOne u s 0x10003410 ∧ u.rd 0x10003014 = d.m.route % 2 ^ 32 ∧
      (d.m.sender = none → u.disp.waiting = s.disp.waiting.erase d) ∧
      (∀ e ∈ d.m.sender, ∃ b ∈ u.disp.waiting.getLast?, b.flight = e + 1 ∧ b.m.body = d.m.body ∧ b.m.typ = 0xF0 + d.m.role)) ∧
  (∀ (s : State) (d : DMsg), s.serving → s.noCommit → s.giveUpCandidate = some d → d.frame.isSome = true →
    ends (exec .dispatchGiveUp s) fun u => countsOne u s 0x10003410 ∧
      ∃ b, u.disp.waiting = s.disp.waiting.erase d ++ [b] ∧ b.flight = 1 ∧ b.m.body = d.m.body ∧ b.m.typ = 0xF0 + d.m.role) ∧
  (∀ (s : State) (e : Fin 64) (role : BitVec 4), s.serving → e ≠ 0 → role.toNat < 7 → (s.deng e).assigned = none →
    ends (exec (.roleAssign e role) s) fun u => u.deng e = { s.deng e with epoch := (if (s.deng e).epoch = 0xFFFF then 1 else (s.deng e).epoch + 1), role := role.toNat, state := 2, assigned := some s.now, pendRole := some (role.toNat, if (s.deng e).epoch = 0xFFFF then 1 else (s.deng e).epoch + 1) } ∧
      u.flag rDspAssignSt 0 = true ∧ u.flag rDspAssignSt 1 = false ∧ u.engines = s.engines) ∧
  (∀ (s : State) (e : Fin 64) (role : BitVec 4) (at0 : Nat), s.serving → (s.deng e).assigned = some at0 → s.now < at0 + 150000 →
    ends (exec (.roleAssign e role) s) fun u => u.disp = s.disp ∧ u.flag rDspAssignSt 1 = true ∧ u.engines = s.engines) ∧
  (∀ (s : State) (e : Fin 64) (role ep : Nat), s.serving → (s.deng e).pendRole = some (role, ep) →
    (∀ d ∈ s.disp.waiting, d.flight = e.val + 1 → d.sent = true → d.m.epoch = ep) →
    ends (exec (.roleChange e) s) fun u => (u.en e).role = ep * 65536 + role ∧
      ((s.en e).mesh = [] → (u.en e).queue = (s.en e).queue.filter fun m => matchesRole m (ep * 65536 + role))) ∧
  (∀ (s : State) (e : Fin 64) (role ep : Nat), s.serving → (s.deng e).pendRole = some (role, ep) → (s.en e).role = ep * 65536 + role → (s.deng e).state ≠ 3 →
    ends (exec (.roleChangeAck e) s) fun u => u.deng e = { s.deng e with pendRole := none, state := if role = 0 then 0 else 1 }) ∧
  (∀ (s : State) (e t : Nat), s.serving → s.fenceIdle → s.disp.notices = [(e, t)] → 0 < e → e < 64 → t < 4 → (s.th (4 * e + t)).double = true →
    (s.th (4 * e + t)).run = false → (s.disp.stops.filter fun x => x.1 == 4 * e + t).length < 2 → (s.en 0).queue.length < 16 → (s.en 0).waiters = [] →
    ((s.th (4 * e + t)).csr 0x008 = 0 →
      ends (exec .stopped s) fun u => u.disp.notices = [] ∧ (u.th (4 * e + t)).run = true ∧ (u.th (4 * e + t)).double = false ∧
        (u.th (4 * e + t)).pc = (s.th (4 * e + t)).csr cSTART ∧ (∃ m ∈ (u.en 0).queue.getLast?, m.typ = 0xE0 ∧ m.sthread = t) ∧
        sentToKeeper u 0x60 false 0 (eventPayload 0x0301 8 1 s.phcNs (leBytes 1 e ++ leBytes 1 t ++ zeros 2 ++
          leBytes 4 ((s.th (4 * e + t)).csr cCAUSE) ++ leBytes 4 ((s.th (4 * e + t)).csr cTVAL) ++ leBytes 4 ((s.th (4 * e + t)).csr cEPC)))) ∧
    (∀ id f, (s.th (4 * e + t)).csr 0x008 ≠ 0 → s.servedBy (4 * e + t) = some (id, f) → f.w = none → f.seg = none → f.res.length < f.ops.length →
      ends (exec .stopped s) fun u => (u.th (4 * e + t)).run = true ∧ ∃ g ∈ u.frame id, g.res.take f.res.length = f.res ∧
        g.res.length = f.ops.length ∧ (∀ r ∈ g.res.drop f.res.length, r.status = 0x1F) ∧ g.waits = none)) ∧
  (∀ (s : State) (t : Nat), s.serving → s.disp.notices = [(0, t)] → s.power.brace = false → s.power.fault = false →
    ends (exec .stopped s) fun u => u.disp.notices = [] ∧ u.power.fault = true ∧ u.fld rPwrFault 7 0 = 2) ∧
  (∀ (s : State) (sid : Fin 65536) (x : Session), s.serving → s.noCommit → s.sess sid = some x →
    ends (exec (.sessionRelease sid) s) fun u => u.sess sid = some { x with busy := false } ∧ u.disp = s.disp ∧ u.mem = s.mem)

/-- O33. Sessions: opened, re-keyed, closed (R491, R111, R112, R113, R114, R426). -/
def Obligations.SessionResults : Prop :=
  (∀ (s t : State) (m : FMsg) (key : Bytes), s.serving → s.takeLead 0x10 = some (m, t) → t.sessionCheck m.data = (0, key) →
    ends (exec .sessionOpen s) fun u => ∃ x ∈ u.sess (leAt m.data 0 2), x.tenant = leAt m.data 2 2 % 1024 ∧ x.rights = byteAt m.data 4 &&& 0x8F ∧
      x.cipher = byteAt m.data 5 ∧ x.port = beAt m.data 12 2 ∧ x.addr = slice m.data 16 16 ∧ x.h = 0 ∧ x.tx = 1 ∧ x.closing = false) ∧
  (∀ (s : State) (id : Nat) (f : Frame) (x : Session) (op : OpReq), s.atTurn id 0x20 f x op → op.key = [] → op.val = [] → op.ns = 0 → op.arg = 0 →
    s.sends f.sess x → (s.admitOp (s.setOf f.epoch) x 0).isSome = true → x.cipher = 0 → s.earlierFrames id f = false → s.canSend f.port = true →
    ends (exec (.rekey id) s) fun u => u.frame id = none ∧ ∃ y ∈ u.sess f.sess, y.h = 0 ∧ y.tx = 1 ∧ y.done = []) ∧
  (∀ (s : State) (id n : Nat) (f : Frame) (x : Session) (op : OpReq) (next : KMat), s.atTurn id 0x20 f x op → op.key = [] → op.val = [] → op.ns = 0 →
    op.arg = 0 → s.sends f.sess x → (s.admitOp (s.setOf f.epoch) x 0).isSome = true → x.cipher ≠ 0 → x.slot = some n → (s.slot n).next = some next → (s.slot n).shadow = none → (s.slot n).erasing = false →
    (s.slot n).gen < 0xFFFFFFFF → s.earlierFrames id f = false → s.canSend f.port = true →
    ends (exec (.rekey id) s) fun u => u.frame id = none ∧ (u.slot n).cur = some next ∧ (u.slot n).next = none ∧ (u.slot n).gen = (s.slot n).gen + 1 ∧
      (u.slot n).shadow = (s.slot n).cur.map (fun k => (k, (s.slot n).gen)) ∧ (u.slot n).grace = true ∧
      ∃ y ∈ u.sess f.sess, y.h = 0 ∧ y.tx = 1 ∧ y.done = [] ∧ (y.old.map fun o => o.gen) = some (s.slot n).gen) ∧
  (∀ (s : State) (sid : Fin 65536) (n : Nat) (x : Session) (o : OldWindow), s.serving → s.sess sid = some x → x.old = some o → x.slot = some n →
    (s.slot n).erasing = false → (s.slot n).inflightSh = 0 → s.cph.queue = [] →
    ends (exec (.rekeyGraceExpiry sid) s) fun u => u.sess sid = some { x with old := none } ∧ (u.slot n).shadow = none ∧ (u.slot n).cur = (s.slot n).cur) ∧
  (∀ (s : State) (id : Nat) (f : Frame) (x : Session) (op : OpReq), s.atTurn id 0x21 f x op → s.noCommit → op.key = [] → op.val = [] → op.ns = 0 → op.arg = 0 →
    s.sess f.sess = some x → (s.admitOp (s.setOf f.epoch) x 0).isSome = true → s.framesOf f.sess = [(id, f)] → s.canSend f.port = true →
    ends (exec (.close id) s) fun u => u.frame id = none ∧ u.sess f.sess = none) ∧
  (∀ (s t : State) (m : FMsg) (x : Session), s.serving → s.noCommit → s.takeClose false = some (m, t) → s.sess (leAt m.data 0 2) = some x →
    s.framesOf (leAt m.data 0 2) = [] → ends (exec .sessionClose s) fun u => u.sess (leAt m.data 0 2) = none) ∧
  (∀ (s t : State) (m : FMsg) (x : Session), s.serving → s.noCommit → s.takeClose false = some (m, t) → s.sess (leAt m.data 0 2) = some x →
    s.framesOf (leAt m.data 0 2) ≠ [] → ends (exec .sessionClose s) fun u => u.sess (leAt m.data 0 2) = some { x with closing := true }) ∧
  (∀ (s t : State) (m : FMsg) (x : Session) (n : Nat), s.serving → s.noCommit → s.takeClose true = some (m, t) → s.sess (leAt m.data 0 2) = some x →
    s.framesOf (leAt m.data 0 2) = [] → x.slot = some n → (s.slot n).sess = some (leAt m.data 0 2) → s.cph.queue = [] →
    ends (exec .sessionCloseEraseNow s) fun u => u.sess (leAt m.data 0 2) = none ∧ (u.slot n).cur = none ∧ (u.slot n).typ = 0)

/-- O34. DMA, emit and cipher jobs (R262, R230, R263, R232, R421, R424, R423, R228). -/
def Obligations.TeamJobResults : Prop :=
  (∀ (s : State) (m : Fin 8) (j : DmaJob), s.serving → s.jobs.dma = [j] → j.thread / 32 = m.val → j.running = false → s.dmaValid j = true →
    ends (exec (.dmaJobStart m) s) fun u => u.jobs.dma = [{ j with running := true }] ∧ { u with jobs := s.jobs } = s) ∧
  (∀ (s : State) (m : Fin 8) (j : DmaJob), s.serving → s.jobs.dma = [j] → j.thread / 32 = m.val → j.running = false → s.dmaValid j = false →
    s.owes j.thread j.ticket →
    ends (exec (.dmaJobStart m) s) fun u => u.jobs.dma = [] ∧ ticketDone u j.thread j.ticket 3 0 ∧ u.mem = s.mem) ∧
  (∀ (s : State) (j : DmaJob), s.serving → s.jobs.dma = [j] → j.running = true → j.src / 2 ^ 60 ≤ 2 → j.dst / 2 ^ 60 ≤ 2 →
    poisonLines s (engineOf j.thread) (j.src / 2 ^ 60) (j.src % 2 ^ 40) j.len = [] → s.owes j.thread j.ticket →
    ends (exec (.dmaJobComplete j.id [] [] .good) s) fun u => u.jobs.dma = [] ∧ ticketDone u j.thread j.ticket 0 j.len ∧
      spaceRead u (engineOf j.thread) (j.dst / 2 ^ 60) (j.dst % 2 ^ 40) j.len = spaceRead s (engineOf j.thread) (j.src / 2 ^ 60) (j.src % 2 ^ 40) j.len ∧
      u.mem.dram = s.mem.dram ∧ u.mem.istore = s.mem.istore) ∧
  (∀ (s : State) (j : DmaJob), s.serving → s.jobs.dma = [j] → j.running = true → (j.src / 2 ^ 60 = 3 ∨ j.dst / 2 ^ 60 = 3 → s.dramReady = true) →
    (j.dst / 2 ^ 60 = 3 → s.dramTakes (j.dst % 2 ^ 40) j.len = true) →
    poisonLines s (engineOf j.thread) (j.src / 2 ^ 60) (j.src % 2 ^ 40) j.len = [] → s.owes j.thread j.ticket →
    ends (exec (.dmaJobComplete j.id [] [] .good) s) fun u => u.jobs.dma = [] ∧ ticketDone u j.thread j.ticket 0 j.len ∧
      (j.dst / 2 ^ 60 = 5 → j.src / 2 ^ 60 ≤ 3 →
        memRead u.mem.istore (j.dst % 2 ^ 40) j.len = spaceRead s (engineOf j.thread) (j.src / 2 ^ 60) (j.src % 2 ^ 40) j.len)) ∧
  (∀ (s : State) (j : DmaJob), s.serving → s.jobs.dma = [j] → j.running = true → (j.src / 2 ^ 60 = 1 ∨ j.src / 2 ^ 60 = 2) → j.dst / 2 ^ 60 = 0 →
    0 < j.len → s.owes j.thread j.ticket →
    ends (exec (.dmaJobComplete j.id [] [0] .good) s) fun u => u.jobs.dma = [] ∧ ticketDone u j.thread j.ticket 1 j.len) ∧
  (∀ (s : State) (j : EmitJob) (x : Session), s.serving → s.halted = false → s.jobs.emits = [j] → byteAt j.desc 5 ≤ 1 → bits (byteAt j.desc 2) 0 2 = 0 →
    gathers j.desc = [] → s.sends (leAt j.desc 0 2) x → x.addr.length = 16 → s.canSend (byteAt j.desc 5) = true → 256 ≤ s.maxFrame (byteAt j.desc 5) →
    ends (exec (.femitComplete j.id [] []) s) fun u => (u.sess (leAt j.desc 0 2)).map (·.tx) = some (x.tx + 1) ∧ u.jobs.emits = [] ∧ u.mem = s.mem) ∧
  cjobIs .gcmEnc 1 ∧ cjobIs .gcmDec 2 ∧ cjobIs .xtsEnc 3 ∧ cjobIs .xtsDec 4 ∧ cjobIs .kwWrap 5 ∧ cjobIs .kwUnwrap 6 ∧ cjobIs .sha384 7 ∧
  cjobIs .sealJob 8 ∧ cjobIs .unsealJob 9 ∧
  (∀ (s : State) (m : Fin 8) (j : CJob), s.serving → s.cph.jobs = [j] → j.state = .queued → j.lane = m.val → j.op = 7 → s.flag rCphCtl 0 = true →
    s.flag rCphStatus (8 + m.val) = false → s.cjobValid j = true →
    ends (exec (.cipherJobStart m) s) fun u => u.cph.jobs = [{ j with state := .running }] ∧ { u with cph := s.cph } = s) ∧
  (∀ (s : State) (m : Fin 8) (j : CJob) (k : KMat), s.serving → s.cph.jobs = [j] → j.state = .queued → j.lane = m.val → (j.op = 1 ∨ j.op = 2) →
    s.flag rCphCtl 0 = true → s.flag rCphStatus (8 + m.val) = false → s.cjobValid j = true → ((s.slot j.keysel).typ = 1 ∨ (s.slot j.keysel).typ = 2) →
    (s.slot j.keysel).erasing = false → (s.slot j.keysel).cur = some k → leAt j.desc 4 4 = 0 →
    ends (exec (.cipherJobStart m) s) fun u => u.cph.jobs = [{ j with state := .running, bound := some (j.keysel * 2 ^ 32 + (s.slot j.keysel).gen) }] ∧
      (u.slot j.keysel).inflight = (s.slot j.keysel).inflight + 1 ∧ (u.slot j.keysel).cur = some k ∧ u.mem = s.mem) ∧
  (∀ (s : State) (j : CJob), s.serving → s.cph.jobs = [j] → j.state = .running → j.op = 7 → j.gone = false → j.svc = none → j.bound = none →
    j.src / 2 ^ 60 ≤ 2 → j.dst / 2 ^ 60 ≤ 2 → poisonLines s (engineOf j.thread) (j.src / 2 ^ 60) (j.src % 2 ^ 40) j.nIn = [] → s.owes j.thread j.ticket →
    ends (exec (.cipherJobEnd j.id [] [] .good) s) fun u => u.cph.jobs = [] ∧ ticketDone u j.thread j.ticket 0 48 ∧
      spaceRead u (engineOf j.thread) (j.dst / 2 ^ 60) (j.dst % 2 ^ 40) 48 =
        padTo 48 (Config.sha384 (spaceRead s (engineOf j.thread) (j.src / 2 ^ 60) (j.src % 2 ^ 40) j.len))) ∧
  (∀ (s : State) (j : CJob) (n g : Nat), s.serving → s.cph.jobs = [j] → j.state = .running → j.op ≠ 7 → j.op ≠ 8 → j.gone = false →
    j.svc = none → j.bound = some (n * 2 ^ 32 + g) → n < 4096 → g < 2 ^ 32 → g = (s.slot n).gen → (s.slot n).typ ≠ 4 → (s.slot n).erasing = false →
    s.cph.queue = [] → j.src / 2 ^ 60 ≤ 2 → j.dst / 2 ^ 60 ≤ 2 →
    poisonLines s (engineOf j.thread) (j.src / 2 ^ 60) (j.src % 2 ^ 40) j.nIn = [] → s.owes j.thread j.ticket →
    ends (exec (.cipherJobEnd j.id [] [] .good) s) fun u => u.cph.jobs = [] ∧ (u.slot n).inflight = (s.slot n).inflight - 1 ∧
      (∀ out ∈ s.cjobOut j (boundKey (s.slot n) g) [] (spaceRead s (engineOf j.thread) (j.src / 2 ^ 60) (j.src % 2 ^ 40) j.nIn),
        ticketDone u j.thread j.ticket 0 out.length ∧ spaceRead u (engineOf j.thread) (j.dst / 2 ^ 60) (j.dst % 2 ^ 40) out.length = out) ∧
      (s.cjobOut j (boundKey (s.slot n) g) [] (spaceRead s (engineOf j.thread) (j.src / 2 ^ 60) (j.src % 2 ^ 40) j.nIn) = none →
        ∃ k, ticketDone u j.thread j.ticket 4 (2 ^ 28 + k))) ∧
  (∀ (s : State) (j : CJob), s.serving → s.cph.jobs = [j] → j.state = .running → j.gone = true → j.svc = none → j.dst / 2 ^ 60 ≤ 2 →
    j.src / 2 ^ 60 ≤ 2 → s.owes j.thread j.ticket →
    ends (exec (.cipherJobEnd j.id [] [] .good) s) fun u => u.cph.jobs = [] ∧ ∃ k, ticketDone u j.thread j.ticket 2 k) ∧
  (∀ (s : State) (j : CJob), s.serving → s.cph.jobs = [j] → j.state = .running → j.op = 7 → j.gone = false → j.svc = none → j.bound = none →
    (j.src / 2 ^ 60 = 1 ∨ j.src / 2 ^ 60 = 2) → j.dst / 2 ^ 60 ≤ 2 → 0 < j.len → s.owes j.thread j.ticket →
    ends (exec (.cipherJobEnd j.id [] [0] .good) s) fun u => u.cph.jobs = [] ∧ ∃ k, ticketDone u j.thread j.ticket 1 k)

/-- O35. Tricks: start, end, read and machine services (R272, R273, R274, R275, R277, R126). -/
def Obligations.TrickResults : Prop :=
  (∀ (s t2 : State) (id : Nat) (t : Fin 256) (f : Frame) (x : Session) (op : OpReq) (k : Trick), s.atTurn id 0x0B f x op → mget s.tricks.invokes t = none →
    (s.tricks.invokes.any fun e => e.2.frame == id) = false →
    s.trickPlace f (s.setOf f.epoch) op (s.trickChecks (s.setOf f.epoch) f x op) = .pass t2 →
    mget s.tricks.slots (bits op.arg 0 8) = some k → s.trickThread t = true → 4 * k.entry < k.code.length → k.code.length ≤ 2048 → 1 ≤ k.budget →
    k.budget ≤ 200000 → (s.th t).mzLoops = [] →
    ends (exec (.trick id t) s) fun u => (u.th t).muzzled = true ∧ (u.th t).pc = 0xE000 + 0x800 * (t % 4) + 4 * k.entry ∧
      (u.th t).csr cMZLEFT = k.budget ∧ (u.th t).regs = Vector.replicate 32 0 ∧ (mget u.tricks.invokes t).map (fun v => (v.frame, v.trick, v.calls)) = some (id, k, 0)) ∧
  (∀ (s : State) (id n : Nat) (t : Fin 256) (f : Frame) (x : Session) (op : OpReq) (v : Invoke), s.atTurn id 0x0B f x op → mget s.tricks.invokes t = some v →
    v.frame = id → (s.th t).muzzled = false → (s.th t).run = true → (s.th t).csr cMZCAUSE % 256 = mEXIT → (s.th t).csr cMZTVAL = n → n ≤ 7936 →
    n ≤ s.valueRoom f x →
    ends (exec (.trick id t) s) fun u => mget u.tricks.invokes t = none ∧ ∃ g ∈ u.frame id, ∃ r ∈ g.res[f.res.length]?, r.status = 0 ∧ r.arg = v.lastVersion ∧
      r.val = s.dread t (trickWin t + 0x2100) n) ∧
  (∀ (s : State) (t : Fin 256) (v : Invoke) (f : Frame) (x : Session) (op : OpReq) (w : Ver), s.trickCalls t v →
    (s.th t).inWindow (s.gn t 3) (s.gn t 4) = true → (s.th t).inWindow (s.gn t 5) (s.gn t 6) = true → s.trickSess v = some (f, x) →
    op = { s.serviceOp t 1 f with flags := 0 } → keyOk op.key = true → hasRight x 0 = true → op.ns < 4096 → nsAllowed (s.setOf f.epoch) x op.ns = true →
    f.waits = none → s.noseOpen = true → s.findPlace f (s.setOf f.epoch) op (s.placeCheck (s.setOf f.epoch) x op false) = .pass s →
    s.isPending op.ns op.key = false → s.liveOf op.ns op.key = some w → (s.valueDamage op.ns op.key).contains false = false →
    ends (exec (.kget t false) s) fun u => (u.th t).g 2 = 0 ∧ (u.th t).g 3 = BitVec.ofNat 64 w.version ∧ (u.th t).g 4 = BitVec.ofNat 64 w.value.length ∧
      (s.gn t 5 + s.gn t 6 ≤ 0x20000 → u.dread t (s.gn t 5) (min (s.gn t 6) w.value.length) = w.value.take (s.gn t 6))) ∧
  (∀ (s : State) (t : Fin 256) (v : Invoke) (f : Frame) (x : Session) (op : OpReq) (w : Ver), s.trickCalls t v →
    (s.th t).inWindow (s.gn t 3) (s.gn t 4) = true → s.trickSess v = some (f, x) →
    op = { s.serviceOp t 7 f with flags := 0 } → keyOk op.key = true → hasRight x 0 = true → op.ns < 4096 → nsAllowed (s.setOf f.epoch) x op.ns = true →
    f.waits = none → s.noseOpen = true → s.findPlace f (s.setOf f.epoch) op (s.placeCheck (s.setOf f.epoch) x op false) = .pass s →
    s.isPending op.ns op.key = false → s.liveOf op.ns op.key = some w → (s.valueDamage op.ns op.key).contains false = false →
    ends (exec (.khead t false) s) fun u => (u.th t).g 2 = 0 ∧ (u.th t).g 3 = BitVec.ofNat 64 w.version ∧ (u.th t).g 4 = BitVec.ofNat 64 w.value.length ∧
      u.mem = s.mem) ∧
  (∀ (s : State) (t : Fin 256) (v : Invoke), s.trickCalls t v → (s.th t).inWindow (s.gn t 3) (s.gn t 4) = true →
    ends (exec (.input t) s) fun u => (u.th t).g 2 = 0 ∧ (u.th t).g 4 = BitVec.ofNat 64 (slice v.input (s.gn t 2) (s.gn t 4)).length ∧
      (s.gn t 3 + s.gn t 4 ≤ 0x20000 → u.dread t (s.gn t 3) (slice v.input (s.gn t 2) (s.gn t 4)).length = slice v.input (s.gn t 2) (s.gn t 4))) ∧
  (∀ (s : State) (t : Fin 256) (v : Invoke), s.trickCalls t v →
    ends (exec (.now t) s) fun u => (u.th t).g 2 = 0 ∧ (u.th t).g 3 = BitVec.ofNat 64 s.phcNs ∧ u.mem = s.mem ∧
      (mget u.tricks.invokes t).map (·.calls) = some (v.calls + 1)) ∧
  (∀ (s : State) (t : Fin 256) (v : Invoke), s.trickCalls t v → s.flag rRngStatus 1 = false →
    ends (exec (.random t) s) fun u => (u.th t).g 2 = 0 ∧ (u.th t).g 3 = Config.freeWord s.free ∧ u.cph.drbgReqs = s.cph.drbgReqs + 1 ∧ u.mem = s.mem) ∧
  (∀ (s : State) (t : Fin 256) (v : Invoke) (ks i : Nat), s.trickCalls t v → (s.th t).inWindow (s.gn t 2) (s.gn t 3) = true →
    (s.th t).inWindow (s.gn t 4) (s.gn t 3 + 28) = true → v.trick.keyslot = some ks → freeTicket (s.th t).tickets = some i →
    ends (exec (.sealService t) s) fun u => (mget u.tricks.invokes t).map (·.job) = some (some i) ∧ ∃ j ∈ u.cph.jobs.getLast?, j.op = 8 ∧
      j.src = s.gn t 2 ∧ j.dst = s.gn t 4 ∧ j.len = s.gn t 3 % 2 ^ 32 ∧ j.keysel = ks % 4096 ∧ j.state = .queued ∧ j.svc = some (s.trickLane t ks)) ∧
  (∀ (s : State) (t : Fin 256) (v : Invoke) (ks i w : Nat), s.serviceJobDone t 0x020 i w v → (s.th t).inWindow (s.gn t 2) (s.gn t 3) = true →
    (s.th t).inWindow (s.gn t 4) (s.gn t 3 + 28) = true → v.trick.keyslot = some ks → w % 256 = 0 →
    ends (exec (.sealService t) s) fun u => (u.th t).g 2 = 0 ∧ (u.th t).g 4 = BitVec.ofNat 64 (bits w 32 28) ∧ (u.th t).muzzled = true) ∧
  (∀ (s : State) (t : Fin 256) (v : Invoke) (ks i : Nat), s.trickCalls t v → (s.th t).inWindow (s.gn t 2) (s.gn t 3) = true →
    (s.th t).inWindow (s.gn t 4) (s.gn t 3 - 28) = true → v.trick.keyslot = some ks → freeTicket (s.th t).tickets = some i →
    ends (exec (.unsealService t) s) fun u => (mget u.tricks.invokes t).map (·.job) = some (some i) ∧ ∃ j ∈ u.cph.jobs.getLast?, j.op = 9 ∧
      j.src = s.gn t 2 ∧ j.dst = s.gn t 4 ∧ j.len = s.gn t 3 % 2 ^ 32 ∧ j.keysel = ks % 4096 ∧ j.state = .queued ∧ j.svc = some (s.trickLane t ks)) ∧
  (∀ (s : State) (t : Fin 256) (v : Invoke) (ks i w : Nat), s.serviceJobDone t 0x021 i w v → (s.th t).inWindow (s.gn t 2) (s.gn t 3) = true →
    (s.th t).inWindow (s.gn t 4) (s.gn t 3 - 28) = true → v.trick.keyslot = some ks → w % 256 = 0 →
    ends (exec (.unsealService t) s) fun u => (u.th t).g 2 = 0 ∧ (u.th t).g 4 = BitVec.ofNat 64 (bits w 32 28) ∧ (u.th t).muzzled = true)

/-- O36. Trick write services (R275, R53, R120). -/
def Obligations.TrickWriteResults : Prop :=
  serviceWrites .kput 2 (fun op _ => some (false, op.val)) ∧
  serviceWrites .kcas 4 (fun op cur => match cur with
    | none => if op.arg = 0 then some (false, op.val) else none
    | some v => if op.arg ≠ 0 ∧ v.version = op.arg then some (false, op.val) else none) ∧
  serviceWrites .kdel 3 (fun _ cur => cur.map fun _ => (true, [])) ∧
  serviceWrites .kadd 5 (fun op cur => match cur with
    | none => some (false, beBytes 8 (op.arg % 2 ^ 64))
    | some v => if v.value.length = 8 then some (false, beBytes 8 ((beNat v.value + op.arg) % 2 ^ 64)) else none)

/-- O37. The key store's messages (R425, R426, R427, R428, R434, R440, 10_encryption.md Table 10-6). -/
def Obligations.KeyStoreResults : Prop :=
  (∀ (s t : State) (m : FMsg) (k : Bytes), s.serving → s.takeS 0x12 = some (m, t) → byteAt m.data 2 ≠ 8 →
    t.keyWriteCheck (bits (leAt m.data 0 2) 0 12) (byteAt m.data 2) (byteAt m.data 3) (bits (leAt m.data 4 2) 0 12) (m.data.drop 16) = (0, k) →
    ends (exec .keyWrite s) fun u => (u.slot (bits (leAt m.data 0 2) 0 12)).cur = some { key := k, salt := slice m.data 8 4 } ∧
      (u.slot (bits (leAt m.data 0 2) 0 12)).gen = (s.slot (bits (leAt m.data 0 2) 0 12)).gen + 1 ∧
      ((s.slot (bits (leAt m.data 0 2) 0 12)).typ ≠ 0 → (s.slot (bits (leAt m.data 0 2) 0 12)).inflight ≠ 0 →
        (u.slot (bits (leAt m.data 0 2) 0 12)).shadow =
          (s.slot (bits (leAt m.data 0 2) 0 12)).cur.map fun x => (x, (s.slot (bits (leAt m.data 0 2) 0 12)).gen))) ∧
  (∀ (s t : State) (m : FMsg) (x : Session) (n : Nat), s.serving → s.takeS 0x13 = some (m, t) → s.sess (leAt m.data 0 2) = some x → x.closing = false →
    byteAt m.data 3 = 0 → x.cipher ≠ 0 → byteAt m.data 2 = x.cipher → x.slot = some n →
    ends (exec .keyStage s) fun u => u.slot n = { s.slot n with next := some { key := (m.data.drop 16).take (keyLen x.cipher), salt := slice m.data 8 4 } }) ∧
  (∀ (s t : State) (m : FMsg) (n : Nat), s.serving → s.takeS 0x14 = some (m, t) → n = bits (leAt m.data 0 2) 0 12 → s.lockedSlot n = false →
    (s.slot n).typ ≠ 0 → (s.slot n).inflight = 0 → (s.slot n).inflightSh = 0 → s.cph.queue = [] →
    ends (exec .keyErase s) fun u => u.slot n = { Slot.empty with gen := (s.slot n).gen }) ∧
  (∀ (s t : State) (m : FMsg), s.serving → s.noCommit → s.takeS 0x15 = some (m, t) → leAt m.data 0 2 < 4096 → s.lockedSlot (leAt m.data 0 2) = false →
    s.cph.queue = [] → ends (exec .keyEraseNow s) fun u => u.slot (leAt m.data 0 2) = { Slot.empty with gen := (s.slot (leAt m.data 0 2)).gen }) ∧
  (∀ (s t : State) (m : FMsg), s.serving → s.noCommit → s.takeS 0x15 = some (m, t) → leAt m.data 0 2 < 4096 → s.lockedSlot (leAt m.data 0 2) = true →
    s.power.brace = false → s.power.fault = false → ends (exec .keyEraseNow s) fun u => u.power.fault = true ∧ u.fld rPwrFault 7 0 = 3) ∧
  (∀ (s t : State) (m : FMsg) (n : Nat), s.serving → s.takeS 0x16 = some (m, t) → n = bits (leAt m.data 0 2) 0 12 → s.fenceIdle →
    ends (exec .keyQuery s) fun u => u.cph = s.cph ∧ sentToKeeper u 0x19 true m.tag (keyResult 0 n (s.slot n).gen (s.slot n).inflight (s.slot n).inflightSh
      (s.slot n).typ (s.slotFlags n) (s.ownerOf n))) ∧
  (∀ (s t : State) (m : FMsg) (c : Nat), s.serving → s.takeS 0x17 = some (m, t) → c = leAt m.data 0 2 % 16 → byteAt m.data 3 = 0 →
    (byteAt m.data 2 = 1 ∨ byteAt m.data 2 = 2) → ((s.collar c).page.typ = 0 ∨ (s.collar c).page.typ = byteAt m.data 2) → (s.collar c).page.shadow = none →
    (s.collar c).page.gen < 0xFFFFFFFF →
    ends (exec .collarWrite s) fun u => (u.collar c).tenant = leAt m.data 6 2 % 1024 ∧ (u.collar c).page.gen = (s.collar c).page.gen + 1 ∧
      (u.collar c).page.cur = some { key := (m.data.drop 16).take (keyLen (byteAt m.data 2)), salt := slice m.data 8 4 }) ∧
  (∀ (s t : State) (m : FMsg), s.serving → s.takeS 0x18 = some (m, t) →
    ends (exec .collarEraseNow s) fun u => (u.collar (byteAt m.data 0 % 16)).page.cur = none ∧ (u.collar (byteAt m.data 0 % 16)).page.typ = 0 ∧
      u.cph.slots = s.cph.slots) ∧
  (∀ (s : State) (rct apt : Nat), s.serving → s.flag rCphCtl 2 = true → s.flag rRngStatus 1 = false → s.flag rRngStatus 0 = false →
    ends (exec (.drbgReseed true rct apt) s) fun u => u.flag rRngStatus 0 = true ∧ u.cph.drbgReqs = 0 ∧ u.c64 0x10700148 = (s.c64 0x10700148 + rct + apt) % 2 ^ 64)

/-- O38. Flash jobs from issue to completion (R302, R303, R304, R305, R294, R295, R296, R301, R228, 07_storage_path.md Table 7-5). -/
def Obligations.FlashJobResults : Prop :=
  fljobIs .flashRead 1 ∧ fljobIs .flashProgram 2 ∧ fljobIs .flashParity 3 ∧ fljobIs .flashErase 4 ∧ fljobIs .flashRaw 5 ∧
  (∀ (s : State) (lun : Fin 256) (j : FJob), s.serving → s.st.jobs = [j] → j.running = false → (s.jobLuns j).contains lun.val = true → s.flag rFlcCtl 0 = true →
    s.fjobValid j = true → s.power.base ≠ .test → j.xts = false → j.acc = false → j.op ≠ 3 →
    ends (exec (.flashJobStart lun) s) fun u => u.st.jobs = [{ j with running := true, bound := false }] ∧ { u with st := s.st } = s) ∧
  (∀ (s : State) (lun : Fin 256) (j : FJob), s.serving → s.st.jobs = [j] → j.running = false → (s.jobLuns j).contains lun.val = true → j.bound = false →
    (s.flag rFlcCtl 0 = false ∨ s.fjobValid j = false) → s.owes j.thread j.ticket →
    ends (exec (.flashJobStart lun) s) fun u => u.st.jobs = [] ∧ ticketDone u j.thread j.ticket 3 0 ∧ u.mem = s.mem ∧ u.st.media = s.st.media) ∧
  (∀ (s : State) (j : FJob) (w : Cw), s.serving → s.st.jobs = [j] → j.running = true → j.bound = false → j.op = 1 → j.count = 1 → j.xts = false →
    j.buf / 2 ^ 60 = 1 → s.st.lostGroups.contains (j.seg % s.flGroups) = false → mget s.st.media (cwKey j.seg j.cw) = some w → w.xts = none → s.owes j.thread j.ticket →
    ends (exec (.flashJobComplete j.id [.read 0 0] none [] [] .good []) s) fun u => u.st.jobs = [] ∧ ticketDone u j.thread j.ticket 0 0 ∧
      spaceRead u (engineOf j.thread) 1 (j.buf % 2 ^ 40) 4096 = padTo 4096 w.data ∧ u.st.media = s.st.media ∧ u.mem.dstore = s.mem.dstore) ∧
  (∀ (s : State) (j : FJob), s.serving → s.st.jobs = [j] → j.running = true → j.bound = false → j.op = 2 → j.xts = false → j.acc = false →
    j.buf / 2 ^ 60 = 1 → poisonLines s (engineOf j.thread) 1 (j.buf % 2 ^ 40) (s.pageSet * 4096) = [] → s.owes j.thread j.ticket →
    ends (exec (.flashJobComplete j.id [] none [] [] .good []) s) fun u => u.st.jobs = [] ∧ ticketDone u j.thread j.ticket 0 0xFFE0 ∧ u.mem = s.mem ∧
      (List.range s.pageSet).all (fun i => mget u.st.media (cwKey j.seg (j.cw + i)) =
        some { data := slice (spaceRead s (engineOf j.thread) 1 (j.buf % 2 ^ 40) (s.pageSet * 4096)) (4096 * i) 4096, xts := none }) = true) ∧
  (∀ (s : State) (j : FJob) (slot status : Nat), s.serving → s.st.jobs = [j] → j.running = true → j.bound = false → j.op = 2 → j.xts = false → j.acc = false →
    j.buf / 2 ^ 60 = 1 → poisonLines s (engineOf j.thread) 1 (j.buf % 2 ^ 40) (s.pageSet * 4096) = [] → s.owes j.thread j.ticket →
    ends (exec (.flashJobComplete j.id [] (some (slot, status)) [] [] .good []) s) fun u => ticketDone u j.thread j.ticket 0 (slot * 256 + status) ∧
      (u.seg j.seg).state = 3 ∧ u.st.media = s.st.media ∧ countsOne u s 0x10400430 ∧ countsOne u s 0x10005050) ∧
  (∀ (s : State) (j : FJob) (a : Accum), s.serving → s.st.jobs = [j] → j.running = true → j.bound = false → j.op = 3 → j.xts = false →
    mget s.st.accums (s.accKey j) = some a → s.owes j.thread j.ticket →
    ends (exec (.flashJobComplete j.id [] none [] [] .good []) s) fun u => ticketDone u j.thread j.ticket 0 0xFFE0 ∧ mget u.st.accums (s.accKey j) = none ∧
      mget u.st.parity (j.seg * 2 ^ 18 + s.cwStripe j.cw) = some a.data ∧ u.mem = s.mem) ∧
  (∀ (s : State) (j : FJob), s.serving → s.st.jobs = [j] → j.running = true → j.bound = false → j.op = 4 → j.xts = false → s.owes j.thread j.ticket →
    ends (exec (.flashJobComplete j.id [] none [] [] .good []) s) fun u => u.st.jobs = [] ∧ ticketDone u j.thread j.ticket 0 0xFFE0 ∧ u.mem = s.mem ∧
      u.seg j.seg = { Segm.erased with erases := (s.seg j.seg).erases + 1 } ∧ u.st.media = s.st.media.filter (fun e => e.1 / 2 ^ 18 != j.seg)) ∧
  (∀ (s : State) (j : FJob) (raw : Bytes), s.serving → s.st.jobs = [j] → j.running = true → j.bound = false → j.op = 5 → j.xts = false →
    j.buf / 2 ^ 60 = 1 → byteAt j.desc 45 = 0 → s.owes j.thread j.ticket →
    ends (exec (.flashJobComplete j.id [] none [] [] .good raw) s) fun u => ticketDone u j.thread j.ticket 0 j.rawLen ∧
      spaceRead u (engineOf j.thread) 1 (j.buf % 2 ^ 40) j.rawLen = padTo j.rawLen raw ∧ u.st.media = s.st.media) ∧
  (∀ (s : State) (l : Fin 256), s.serving → ((s.st.jobs.filter (·.running)).flatMap s.jobLuns).contains l.val = true → s.lunPresent l = true →
    ends (exec (.flashStatusPoll [l]) s) fun u => u.lunPresent l = false ∧ u.flag rStState 2 = true ∧ u.st.lostGroups.contains (l.val % 16) = true ∧
      { u.st with lostGroups := s.st.lostGroups, braceErased := s.st.braceErased } = s.st) ∧
  (∀ (s : State), s.serving → ends (exec (.flashStatusPoll []) s) fun u => u = s) ∧
  (∀ (s : State) (ch : Fin 16) (mode rate : Fin 8) (present : Word) (bad : List Nat), s.serving →
    ends (exec (.flashChannelInit ch mode rate present bad) s) fun u => u.st.initing = s.st.initing.filter (· != ch.val) ∧
      u.flag rFlcStatus 0 = (s.st.initing.filter (· != ch.val)).isEmpty ∧
      u.rd (0x10400104 + 16 * ch) = (((s.enabledLuns ch).filter fun b => bit present.toNat b).map fun b => 2 ^ b).sum ∧
      (∀ n ∈ bad, n ∈ u.st.badBlocks) ∧ u.st.media = s.st.media) ∧
  (∀ (s : State) (j : FJob), s.serving → s.st.jobs = [j] → j.running = true → j.bound = false → j.op = 2 → j.xts = false →
    j.buf / 2 ^ 60 = 1 → 0 < s.pageSet → s.owes j.thread j.ticket →
    ends (exec (.flashJobComplete j.id [] none [] [0] .good []) s) fun u => ticketDone u j.thread j.ticket 1 0 ∧ u.st.media = s.st.media ∧
      countsOne u s 0x10400448)

/-- O39. Flush, hard log and grooming (R311, R288, R315, R316, R290). -/
def Obligations.StorageResults : Prop :=
  (∀ (s : State), s.serving → s.st.flush = none → s.flushWanted = true →
    ends (exec .flushPass s) fun u => u.st = { s.st with flush := some (s.c64 rJrnTail) } ∧ u.flag rStState 3 = true ∧ u.ks = s.ks ∧ u.mem = s.mem) ∧
  (∀ (s : State), s.serving → s.st.flush = none → s.flushWanted = false → ends (exec .flushPass s) fun u => u = s) ∧
  (∀ (s : State) (t0 : Nat), s.serving → s.st.flush = some t0 → s.resolvedBelow t0 = false → ends (exec .flushPass s) fun u => u = s) ∧
  (∀ (s : State) (t0 : Nat), s.serving → s.st.flush = some t0 → s.resolvedBelow t0 = true → s.ks.keys.flatMap (s.flushEnts t0) = [] →
    ends (exec .flushPass s) fun u => u.st.flush = none ∧ u.c64 rJrnHead = t0 % 2 ^ 64 ∧ u.flag rStState 3 = false ∧ u.st.runs = s.st.runs ∧
      u.st.jrn = s.st.jrn.filter (fun r => decide (t0 ≤ r.jsn))) ∧
  (∀ (s q : State) (t0 : Nat) (es : List RunEnt), s.serving → s.st.flush = some t0 → s.resolvedBelow t0 = true →
    es = sortEnts (s.ks.keys.flatMap (s.flushEnts t0)) → es ≠ [] → q = s.noseQuiet.progSearch (es.length + 1) → (q.writeRun 0 es t0 []).isSome = true →
    ends (exec .flushPass s) fun u => u.st.runs = q.st.runs ++ ((q.writeRun 0 es t0 []).map (·.1)).toList ∧
      (u.st.runs.getLast?).map (fun r => (r.ents, r.level, r.jsnEnd)) = some (es, 0, t0) ∧ u.st.flush = none ∧ u.c64 rJrnHead = t0 % 2 ^ 64) ∧
  (∀ (s : State) (h : HardRec), s.serving → s.flag rFlcCtl 0 = true → s.hardDue = [h] → (s.logWrite s.st.logDone false [h.r]).isNone = true →
    ends (exec .hardWaitExpiry s) fun u => u = s) ∧
  (∀ (s : State) (h : HardRec), s.serving → s.flag rFlcCtl 0 = true → s.st.hard = [h] → s.hardDue = [h] → s.st.logDone < 64 * h.r.lines →
    (s.logWrite s.st.logDone false [h.r]).isSome = true →
    ends (exec .hardWaitExpiry s) fun u => some u.st = (s.logWrite s.st.logDone false [h.r]).map
        (fun t => { t.st with hard := [{ h with programmed := true }], logDone := 0 }) ∧ u.mem = s.mem ∧
      (h.r.typ = 6 → (u.nsOf h.r.ns).lease = max (s.nsOf h.r.ns).lease h.r.version) ∧
      (h.r.typ ≠ 6 → u.ks = s.ks ∧ (u.ft.frames.all fun e => e.2.writes.all fun d => !(d.cls == 1 && d.jsn == h.r.jsn) || d.reached) = true)) ∧
  (∀ (s : State) (n : Fin 8), s.serving → s.levelFull n = false → ends (exec (.groomMerge n) s) fun u => u = s) ∧
  (∀ (s : State) (n : Fin 8), s.serving → n.val < 7 → s.levelFull n = true → s.mergeInputs n ≠ [] → ((s.mergeInputs n).flatMap (·.ents)) ≠ [] →
    ((s.mergeInputs n).all fun r => r.ents.all fun e => s.ofLife r e && s.entCurrent e && !e.tomb) = true →
    (s.writeRun (n + 1) (sortEnts ((s.mergeInputs n).flatMap (·.ents))) (((s.mergeInputs n).map (·.jsnEnd)).foldl max 0) ((s.mergeInputs n).map (·.no))).isSome = true →
    (s.st.index.all fun e => decide (e.1 < 4 * s.st.nbuckets)) = true →
    ends (exec (.groomMerge n) s) fun u => ∃ r ∈ u.st.runs.getLast?, u.st.runs = s.st.runs.filter (fun x => !((s.mergeInputs n).map (·.no)).contains x.no) ++ [r] ∧ r.level = n + 1 ∧
      r.ents = sortEnts ((s.mergeInputs n).flatMap (·.ents)) ∧ r.replaced = (s.mergeInputs n).map (·.no) ∧ indexAreaOnly u s) ∧
  (∀ (s : State) (n : BitVec 18) (k : Nat), s.serving → s.groomTarget n.toNat = true → s.bestSeg = some k → (s.st.runs.any fun r => r.segs.contains n.toNat) = true →
    (s.st.segs.map (·.1)).Pairwise (· < ·) → (s.st.index.all fun e => decide (e.1 < 4 * s.st.nbuckets)) = true →
    ends (exec (.groomRelocate n) s) fun u => u.ks = s.ks ∧ indexAreaOnly u s ∧ (u.seg k).state = 2 ∧
      u.st.runs = s.st.runs.map (fun r => { r with segs := r.segs.map fun x => if x = n.toNat then k else x }))

/-- O40. DRAM lines, commands and errors (R335, R338, R343, R345, R349, R350, R351, R352, R337, R366, R367, R368). -/
def Obligations.DramRequestResults : Prop :=
  (∀ (s : State) (a : BitVec 40) (data : Bytes) (k : Nat), s.serving → s.dramKeys (a.toNat / 64 * 64) 64 = some (k, [k]) → data.length = 64 →
    s.drc.waiting = [] → s.drc.fifos = [] → s.chanOpen (s.dramPlace k).ch = true → (s.chan (s.dramPlace k).ch).wq.length < 48 →
    ends (exec (.dramRequest a true data (List.replicate 8 0xFF) .good none) s) fun u => memRead u.mem.dram k 64 = data ∧
      u.mem.dram.filter (fun c => c.1 < k || k + 64 ≤ c.1) = s.mem.dram.filter (fun c => c.1 < k || k + 64 ≤ c.1) ∧
      { u.mem with dram := s.mem.dram, poison := s.mem.poison } = s.mem ∧ u.drc.nextId = s.drc.nextId + 1) ∧
  (∀ (s : State) (a : BitVec 40) (k ch : Nat) (ks : List Nat), s.serving → s.dramKeys (a.toNat / 64 * 64) 64 = some (k, ks) → ch = (s.dramPlace k).ch →
    s.drc.waiting = [] → s.drc.fifos = [] → s.chanOpen ch = true → (s.chan ch).rq.length < 64 → (s.chan ch).newest (k / 64) = none →
    ends (exec (.dramRequest a false [] [] .good none) s) fun u => u.mem = s.mem ∧ (u.chan ch).rq = (s.chan ch).rq ++
      [{ id := s.drc.nextId, ch := ch, line := k / 64, write := false, partialMask := false, data := memRead s.mem.dram k 64, mask := [], old := .good, rt := none, since := s.now }]) ∧
  (∀ (s : State) (a : BitVec 40) (data mask : Bytes) (old : Ecc) (k : Nat), s.serving → s.dramKeys (a.toNat / 64 * 64) 64 = some (k, [k]) →
    mask.length = 8 → (mask.any (· != 0xFF)) = true → s.drc.waiting = [] → s.drc.fifos = [] → s.chanOpen (s.dramPlace k).ch = true →
    (s.chan (s.dramPlace k).ch).wq.length < 48 →
    ends (exec (.dramRequest a true data mask old none) s) fun u => memRead u.mem.dram k 64 = mergeLine (memRead s.mem.dram k 64) data mask ∧
      countsOne u s (drcBlock (s.dramPlace k).ch + 0x428) ∧ (old = .bad → u.mem.poison.contains (3, k / 64) = true) ∧
      (old ≠ .bad → u.mem.poison = s.mem.poison)) ∧
  (∀ (s : State) (a : BitVec 40) (data : Bytes) (k : Nat), s.serving → s.dramKeys (a.toNat / 64 * 64) 64 = some (k, [k]) → s.drc.fifos = [] →
    s.chanOpen (s.dramPlace k).ch = false → s.drc.waiting = [] →
    ends (exec (.dramRequest a true data (List.replicate 8 0xFF) .good none) s) fun u => u.mem = s.mem ∧
      (u.drc.waiting.map fun r => (r.id, r.line, r.write)) = [(s.drc.nextId, k / 64, true)]) ∧
  (∀ (s : State) (a : BitVec 40) (w : Bool) (data mask : Bytes), s.serving → s.dramKeys (a.toNat / 64 * 64) 64 = none →
    ends (exec (.dramRequest a w data mask .good none) s) fun u => u = s) ∧
  (∀ (s : State) (ch : Fin 8) (l : List Nat), s.serving → s.flag rDrcStatus 6 = false → (s.chan ch).forced = true →
    ends (exec (.dramCommandIssue ch l) s) fun u => u.chan ch = { s.chan ch with forced := false, rows := [] } ∧
      u.drc.cmds = { ch := ch, what := 4, bank := 0, arg := 0 } :: s.drc.cmds ∧ u.mem = s.mem) ∧
  (∀ (s : State) (ch : Fin 8) (r : DReq), s.serving → s.dramReady = true → bit (s.fld rTrain 7 0) ch = false → (s.chan ch).forced = false →
    (s.chan ch).rq = [r] → (s.chan ch).wq = [] → (s.chan ch).staging = [] → r.ch = ch → r.write = false →
    mget (s.chan ch).rows (s.dramPlace (r.line * 64)).bank = some (s.dramPlace (r.line * 64)).row → s.drc.waiting = [] → s.drc.fifos = [] →
    ends (exec (.dramCommandIssue ch [r.id]) s) fun u => u.drc.served = (r.id, r.data) :: s.drc.served ∧ (u.chan ch).rq = [] ∧
      countsOne u s (drcBlock ch + 0x410) ∧ u.mem = s.mem) ∧
  (∀ (s : State) (ch : Fin 8) (r : DReq), s.serving → s.dramReady = true → bit (s.fld rTrain 7 0) ch = false → (s.chan ch).forced = false →
    (s.chan ch).rq = [r] → (s.chan ch).wq = [] → (s.chan ch).staging = [] → r.write = false → mget (s.chan ch).rows (s.dramPlace (r.line * 64)).bank = none →
    ends (exec (.dramCommandIssue ch [r.id]) s) fun u => (u.chan ch).rq = [r] ∧
      mget (u.chan ch).rows (s.dramPlace (r.line * 64)).bank = some (s.dramPlace (r.line * 64)).row ∧ u.drc.cmds =
        { ch := ch, what := 1, bank := (s.dramPlace (r.line * 64)).bank, arg := (s.dramPlace (r.line * 64)).row } :: s.drc.cmds) ∧
  (∀ (s : State) (ch : Fin 8), s.serving → s.flag rDrcStatus 6 = false → (s.chan ch).rq = [] → (s.chan ch).wq = [] → (s.chan ch).staging = [] → (s.chan ch).down = false →
    ends (exec (.dramPowerDown ch) s) fun u => u.chan ch = { s.chan ch with down := true } ∧ u.drc.cmds = { ch := ch, what := 9, bank := 0, arg := 0 } :: s.drc.cmds ∧
      { u with drc := s.drc } = s) ∧
  (∀ (s : State) (ch : Fin 8), s.serving → s.flag rDrcStatus 6 = false → s.howlAt (ctlOf ch) = false →
    ends (exec (.dramRefreshDue ch) s) fun u => u.chan ch = { s.chan ch with rows := [] } ∧ u.drc.cmds = { ch := ch, what := 4, bank := 0, arg := 0 } :: s.drc.cmds ∧
      { u with drc := s.drc } = s) ∧
  (∀ (s : State) (ch : Fin 8), s.serving → s.flag rDrcStatus 6 = false → s.howlAt (ctlOf ch) = true →
    ends (exec (.dramRefreshDue ch) s) fun u => u.drc.cmds = s.drc.cmds ∧ (if s.fld 0x10300080 27 24 ≤ (s.chan ch).debt
      then u.chan ch = { s.chan ch with forced := true } else u.chan ch = { s.chan ch with debt := (s.chan ch).debt + 1 } ∧ countsOne u s (drcBlock ch + 0x430))) ∧
  (∀ (s : State) (ch : Fin 8), s.serving → s.flag rDrcStatus 6 = false →
    ends (exec (.zqLatch ch) s) fun u => u.drc.cmds = { ch := ch, what := 5, bank := 0, arg := 0 } :: s.drc.cmds ∧ { u with drc := s.drc } = s) ∧
  (∀ (s : State) (hot : Bool), s.serving → s.flag rDrcStatus 6 = false →
    ends (exec (.mr4Poll hot) s) fun u => u.flag 0x10300080 28 = hot ∧ { u with csr := s.csr } = s) ∧
  (∀ (s : State), s.serving → s.flag rDrcStatus 0 = false → s.flag rDrcStatus 6 = false → s.flag rDrcCtl 0 = true → s.drc.partInit = false →
    s.power.waking = false → ¬ ((s.power.base = .boot ∨ s.power.base = .heel) ∧ (s.power.step = 3 ∨ s.power.step = 5)) →
    s.drc.waiting = [] → s.drc.fifos = [] →
    ends (exec .dramInitComplete s) fun u => u.flag rDrcStatus 0 = true ∧ u.mem.dram = [] ∧ u.mem.poison = s.mem.poison.filter (fun x => x.1 != 3) ∧
      u.mem.dstore = s.mem.dstore) ∧
  (∀ (s : State), s.serving → s.flag rDrcCtl 2 = true → s.fld 0x10300090 13 0 ≠ 0 → s.dramReady = true → s.halted = false →
    ends (exec (.dramScrub []) s) fun u => u.mem = s.mem ∧ s.dramChans.all (fun ch => u.c64 (drcBlock ch + 0x410) == (s.c64 (drcBlock ch + 0x410) + 1) % 2 ^ 64) = true) ∧
  (∀ (s : State) (ch : Nat), s.serving → s.flag rDrcCtl 2 = true → s.fld 0x10300090 13 0 ≠ 0 → s.dramReady = true → s.halted = false → s.dramChans = [ch] →
    s.flag rDrcStatus 24 = false → s.fld 0x1030008C 23 16 ≤ (s.chan (s.dramPlace (s.scrubKey ch s.drc.scrub)).ch).ueWin + 1 → s.modeNow = .serve →
    ends (exec (.dramScrub (List.replicate 8 .bad)) s) fun u => u.flag rDrcStatus 24 = true ∧ u.modeNow = .sit ∧
      u.mem.poison.contains (3, s.scrubKey ch s.drc.scrub / 64) = true) ∧
  (∀ (s : State) (ch : Fin 8), s.serving → (s.chan ch).ceWin ≤ s.fld 0x1030008C 15 0 →
    ends (exec (.eccWindow ch) s) fun u => u.chan ch = { s.chan ch with ceWin := 0, ueWin := 0 } ∧ { u with drc := s.drc } = s) ∧
  (∀ (s : State) (ch : Fin 8), s.serving → s.fld 0x1030008C 15 0 < (s.chan ch).ceWin →
    ends (exec (.eccWindow ch) s) fun u => u.chan ch = { s.chan ch with ceWin := 0, ueWin := 0 } ∧ u.flag rDrcStatus (16 + ch) = true)

/-- O41. DRAM set points, self-refresh and training (R353, R354, R355, R357, R359, R360, R361, R362, 08_dram_controller.md Table 8-6). -/
def Obligations.DramControlResults : Prop :=
  (∀ (s : State) (t : Fin 4), s.serving → s.drc.change = none → t.val ≤ 2 → s.fld rTrain 7 0 = 0 → s.flag (0x10300010 + 4 * t) 8 = true → t.val ≠ s.fspOp →
    ends (exec (.fspChange t) s) fun u => u.drc.change = some t.val ∧ u.flag rFspCtl 31 = true ∧ u.fspOp = s.fspOp ∧ u.mem = s.mem) ∧
  (∀ (s : State) (t : Fin 4), s.serving → s.drc.change = none → t.val ≤ 2 → (s.fld rTrain 7 0 ≠ 0 ∨ s.flag (0x10300010 + 4 * t) 8 = false ∨ t.val = s.fspOp) →
    ends (exec (.fspChange t) s) fun u => u.drc = s.drc ∧ u.flag rDrcStatus 2 = true) ∧
  (∀ (s : State) (t : Nat), s.serving → s.drc.change = some t → s.drc.howl ≠ [] →
    ends (exec .fspHowlTimeout s) fun u => u.drc.change = none ∧ u.flag rDrcStatus 2 = true ∧ u.flag rFspCtl 31 = false ∧ u.fspOp = s.fspOp) ∧
  (∀ (s : State) (t : Nat), s.serving → s.drc.change = some t → s.drc.howl = [] → s.drc.waiting = [] → s.drc.fifos = [] →
    ends (exec .fspChangeComplete s) fun u => u.drc.change = none ∧ u.fspOp = t % 4 ∧ u.flag rFspCtl 31 = false ∧ u.mem = s.mem ∧
      (List.range 8).all (fun ch => (u.chan ch).rq.isEmpty && (u.chan ch).wq.isEmpty && (u.chan ch).staging.isEmpty) = true) ∧
  (∀ (s : State), s.serving → s.flag rDrcStatus 6 = false →
    ends (exec .selfRefreshEnter s) fun u => u.flag rDrcStatus 6 = true ∧ u.flag rDrcCtl 3 = true ∧ u.mem = s.mem ∧
      (List.range 8).all (fun ch => (u.chan ch).rq.isEmpty && (u.chan ch).wq.isEmpty && (u.chan ch).staging.isEmpty) = true) ∧
  (∀ (s : State), s.serving → s.flag rDrcStatus 6 = true → s.drc.waiting = [] → s.drc.fifos = [] →
    ends (exec .selfRefreshExit s) fun u => u.flag rDrcStatus 6 = false ∧ u.flag rDrcCtl 3 = false ∧ u.mem = s.mem ∧
      (((List.range 8).any fun c => s.rd (0x103000A0 + 4 * c) != 0) = true → u.flag rDrcStatus 0 = false ∧ u.drc.partInit = true)) ∧
  (∀ (s : State) (ch : Fin 8), s.serving → s.flag rFspCtl 31 = false → bit (s.fld rTrain 7 0) ch = false →
    ends (exec (.trainWindowOpen ch) s) fun u => u.flag rTrain ch = true ∧ u.mem = s.mem ∧
      mget u.drc.windows ch = some { saved := (delayRegs ch s.fspOp).map fun a => (a, s.rd a), live := s.flag rDrcCtl 0 }) ∧
  (∀ (s : State) (ch : Fin 8) (w : DWin), s.serving → bit (s.fld rTrain 7 0) ch = true → mget s.drc.windows ch = some w →
    ends (exec (.trainWindowClose ch true) s) fun u => u.flag rTrain ch = false ∧ mget u.drc.windows ch = none ∧
      (delayRegs ch s.fspOp).all (fun a => u.rd a == s.rd a) = true) ∧
  (∀ (s : State) (ch : Fin 8) (w : DWin), s.serving → bit (s.fld rTrain 7 0) ch = true → mget s.drc.windows ch = some w → (w.saved.map (·.1)).Nodup → s.drc.waiting = [] → s.drc.fifos = [] →
    (w.saved.all fun x => decide (0x10301000 ≤ x.1)) = true →
    ends (exec (.trainWindowClose ch false) s) fun u => u.flag rTrain ch = false ∧ mget u.drc.windows ch = none ∧
      w.saved.all (fun x => u.rd x.1 == x.2 % 2 ^ 32) = true) ∧
  (∀ (s : State) (ch : Fin 8) (w : DWin), s.serving → mget s.drc.windows ch = some w → w.live = true → (w.saved.map (·.1)).Nodup → s.drc.waiting = [] → s.drc.fifos = [] →
    (w.saved.all fun x => decide (0x10301000 ≤ x.1)) = true →
    ends (exec (.trainWindowTimeout ch) s) fun u => u.flag rTrain ch = false ∧ u.flag rTrnStatus 1 = true ∧ mget u.drc.windows ch = none ∧
      w.saved.all (fun x => u.rd x.1 == x.2 % 2 ^ 32) = true) ∧
  (∀ (s : State) (ch : Fin 8) (rank : Fin 2) (ma opd : Byte), s.mayTrain ch →
    ends (exec (.mrWrite ch rank ma opd) s) fun u => trainStarts u s ch rank 0 ma.toNat opd.toNat 6) ∧
  (∀ (s : State) (ch : Fin 8) (rank : Fin 2) (ma : Byte), s.mayTrain ch → ends (exec (.mrRead ch rank ma) s) fun u => trainStarts u s ch rank 1 ma.toNat 0 7) ∧
  (∀ (s : State) (ch : Fin 8) (rank : Fin 2), s.mayTrain ch → ends (exec (.caTrainingStep ch rank) s) fun u => trainStarts u s ch rank 2 0 0 8) ∧
  (∀ (s : State) (ch : Fin 8) (rank : Fin 2), s.mayTrain ch → ends (exec (.wckLevellingStep ch rank) s) fun u => trainStarts u s ch rank 3 0 0 8) ∧
  (∀ (s : State) (ch : Fin 8) (rank : Fin 2), s.mayTrain ch → ends (exec (.readDqCalibration ch rank) s) fun u => trainStarts u s ch rank 4 0 0 8) ∧
  (∀ (s : State) (ch : Fin 8) (rank : Fin 2), s.mayTrain ch → ends (exec (.writeFifo ch rank) s) fun u => trainStarts u s ch rank 5 0 0 8) ∧
  (∀ (s : State) (ch : Fin 8) (rank : Fin 2), s.mayTrain ch → ends (exec (.readFifo ch rank) s) fun u => trainStarts u s ch rank 6 0 0 8) ∧
  (∀ (s : State) (b : Byte) (tr : DTrain), s.serving → s.drc.train = some tr → tr.op = 1 →
    ends (exec (.trainOpComplete [b]) s) fun u => u.drc.train = none ∧ u.flag rTrnStatus 0 = false ∧ u.fld 0x10300040 7 0 = b.toNat ∧ u.mem = s.mem)

/-- O42. Links and modules (R371, R372, R375, R376, R378, R379, R397, 09_network_ports.md Table 9-13). -/
def Obligations.LinkResults : Prop :=
  (∀ (s : State) (p : Fin 2), s.serving → ends (exec (.linkRestart p) s) fun u => u.linkUp p = false ∧ (u.port p).txq = [] ∧ (u.port p).change = none ∧
      u.fld (macBase p + 4) 11 9 = fSPEED p s ∧ ((s.fld (macBase p) 9 8 ≠ 0 ∨ s.flag (macBase p + 0x20C) 2 = false) →
        u.portState p = (if s.flag (macBase p) 0 && fecOk (fSPEED p s) (s.fld (macBase p) 7 6) then 1 else 0)) ∧
      ((s.fld (macBase p) 9 8 = 0 ∧ s.flag (macBase p + 0x20C) 2 = true) → u.fld (macBase p + 0x210) 3 2 = 0) ∧
      (s.linkUp p = true → countsOne u s (macBase p + 0x8D8))) ∧
  (∀ (s : State) (p : Fin 2), s.serving → s.portState p = 1 → s.fld (0x10900010 + 4 * p) 2 0 ≠ 4 → (s.fld (macBase p) 9 8 = 0 → (s.port p).dataPath = true) →
    ends (exec (.linkUp p) s) fun u => u.linkUp p = true ∧ u.portState p = 2 ∧ u.flag (macBase p + 4) 1 = true ∧ (u.port p).change = none ∧
      ((s.port p).change.isSome = true → countsOne u s (macBase p + 0x8E0)) ∧ (u.port p).rx = (s.port p).rx) ∧
  (∀ (s : State) (p : Fin 2), s.serving → s.linkUp p = true → s.loopDepth p = 0 →
    ends (exec (.linkDown p) s) fun u => u.linkUp p = false ∧ (u.port p).txq = [] ∧ countsOne u s (macBase p + 0x8D8) ∧ u.flag (macBase p + 4) 1 = true ∧
      u.portState p = (if s.flag (macBase p) 0 && fecOk (s.fld (macBase p + 4) 11 9) (s.fld (macBase p) 7 6) then 1 else 0)) ∧
  (∀ (s : State) (p : Fin 2), s.serving → s.linkUp p = false → ends (exec (.linkDown p) s) fun u => u = s) ∧
  (∀ (s : State) (p : Fin 2) (addr page : Byte) (len : Fin 8) (paged : Bool), s.serving → s.flag (macBase p + 0x200) 31 = false →
    ends (exec (.moduleRead p addr page len paged) s) fun u => u.rd (macBase p + 0x200) =
      addr.toNat + page.toNat * 65536 + len.val * 2 ^ 24 + (if paged then 2 ^ 29 else 0) + 2 ^ 31 ∧ { u with csr := s.csr } = s) ∧
  (∀ (s : State) (p : Fin 2) (addr page : Byte) (len : Fin 8) (paged : Bool) (data : DWord), s.serving → s.flag (macBase p + 0x200) 31 = false →
    ends (exec (.moduleWrite p addr page len paged data) s) fun u => u.rd (macBase p + 0x200) =
      addr.toNat + page.toNat * 65536 + len.val * 2 ^ 24 + (if paged then 2 ^ 29 else 0) + 2 ^ 30 + 2 ^ 31 ∧ u.rd (macBase p + 0x204) = data.toNat % 2 ^ 32 ∧
      u.rd (macBase p + 0x208) = data.toNat / 2 ^ 32 ∧ { u with csr := s.csr } = s) ∧
  (∀ (s : State) (p : Fin 2) (nack timeout : Bool) (data : Bytes), s.serving → s.flag (macBase p + 0x200) 31 = true → (s.port p).cmis = none →
    ends (exec (.moduleTransactionEnd p nack timeout data) s) fun u => u.flag (macBase p + 0x200) 31 = false ∧ u.flag (macBase p + 0x20C) 0 = nack ∧
      u.flag (macBase p + 0x20C) 1 = timeout ∧ { u with csr := s.csr, net := s.net } = s) ∧
  (∀ (s : State) (p : Fin 2) (data : Bytes), s.serving → s.flag (macBase p + 0x200) 31 = true → s.flag (macBase p + 0x200) 30 = false →
    s.fld (macBase p + 0x200) 26 24 = 7 → data.length = 8 → (s.port p).cmis = none →
    ends (exec (.moduleTransactionEnd p false false data) s) fun u => u.rd (macBase p + 0x204) = leAt data 0 4 ∧ u.rd (macBase p + 0x208) = leAt data 4 4) ∧
  (∀ (s : State) (p : Fin 2) (data : Bytes) (got : List Bytes), s.serving → s.flag (macBase p + 0x200) 31 = true → s.flag (macBase p + 0x200) 30 = false →
    s.fld (macBase p + 0x200) 26 24 = 7 → data.length = 8 → (s.port p).cmis = some got → (s.port p).cmisBusy = true →
    ends (exec (.moduleTransactionEnd p false false data) s) fun u =>
      (Config.cmisNext (s.fld (macBase p + 4) 11 9) (got ++ [data]) = .activated → (u.port p).dataPath = true ∧ (u.port p).cmis = none) ∧
      (Config.cmisNext (s.fld (macBase p + 4) 11 9) (got ++ [data]) = .noApp → u.portState p = 0 ∧ (u.port p).cmis = none)) ∧
  (∀ (s : State) (p : Fin 2) (present : Bool), s.serving → s.flag (macBase p + 0x20C) 2 ≠ present →
    ends (exec (.modulePresenceChange p present) s) fun u => u.flag (macBase p + 0x20C) 2 = present ∧ u.flag (macBase p + 0x20C) 4 = true ∧
      u.flag (macBase p + 4) 5 = present ∧ (s.fld (macBase p) 9 8 ≠ 0 → { u with csr := s.csr } = s) ∧
      (s.fld (macBase p) 9 8 = 0 → (present = true → u.fld (macBase p + 0x210) 3 2 = 0) ∧ (present = false → (u.port p).dataPath = false))) ∧
  (∀ (s : State) (p : Fin 2) (low : Bool), s.serving →
    ends (exec (.moduleInterrupt p low) s) fun u => u.flag (macBase p + 0x20C) 3 = low ∧ (low = true → u.flag (macBase p + 0x20C) 5 = true) ∧
      { u with csr := s.csr } = s) ∧
  (∀ (s : State) (up : Bool), s.operating → s.flag 0x50004 0 ≠ up → s.mgtDepth = 0 →
    ends (exec (.mgtLinkChange up) s) fun u => u.flag 0x50004 0 = up ∧ u.flag 0x50004 1 = true ∧ { u with csr := s.csr } = s)

/-- O43. Flow control and the transmitter (R386, R399, R400, R401, R396). -/
def Obligations.TransmitResults : Prop :=
  (∀ (s : State) (p : Fin 2) (a : BitVec 23) (r : RxFrame), s.serving → (s.port p).rx.find? (fun r => r.addr = a.toNat) = some r →
    ends (exec (.rxFree p a) s) fun u => (u.port p).rx = (s.port p).rx.erase r ∧ (u.port p).txq = (s.port p).txq ∧ { u with net := s.net } = s) ∧
  (∀ (s : State) (p : Fin 2) (a : BitVec 23), s.serving → (s.port p).rx.find? (fun r => r.addr = a.toNat) = none →
    ends (exec (.rxFree p a) s) fun u => u = s) ∧
  (∀ (s : State) (p : Fin 2) (prio : Fin 9), s.serving →
    ends (exec (.pfcRefresh p prio) s) fun u => { u with net := s.net } = s ∧ u.port p = { s.port p with
      ctl := (s.port p).ctl ++ (if (s.port p).xoff.contains prio.val ∧ s.fld (macBase p + 0x14) 31 16 < (s.port p).held prio then [(prio.val, 0xFFFF)] else []) }) ∧
  (∀ (s : State) (p : Fin 2) (prio : Fin 9), s.serving →
    ends (exec (.pauseExpiry p prio) s) fun u => u.port p = { s.port p with paused := mdel (s.port p).paused prio } ∧ { u with net := s.net } = s) ∧
  (∀ (s : State) (p : Fin 2) (prio : Fin 9), s.serving → mhas (s.port p).paused prio = true →
    ends (exec (.pauseWatchdog p prio) s) fun u => u.port p = { s.port p with paused := mdel (s.port p).paused prio, hold := (s.port p).hold ++ [prio.val] } ∧
      countsOne u s (macBase p + 0x898)) ∧
  (∀ (s : State) (p : Fin 2) (prio : Fin 9), s.serving →
    ends (exec (.watchdogHoldEnd p prio) s) fun u => u.port p = { s.port p with hold := (s.port p).hold.filter (· != prio.val) } ∧ { u with net := s.net } = s) ∧
  (∀ (s : State) (p : Fin 2) (prio quanta : Nat) (t : List (Nat × Nat)), s.serving → (s.port p).sending = none → s.linkUp p = true → s.flag (macBase p) 1 = true →
    s.halted = false → (s.port p).ctl = (prio, quanta) :: t →
    ends (exec (.macTxSelect p) s) fun u => (u.port p).sending.map (·.bytes) = some (pauseFrame (s.portMac p) prio quanta) ∧ (u.port p).ctl = t ∧
      (u.port p).txq = (s.port p).txq ∧ countsOne u s (macBase p + 0x878)) ∧
  (∀ (s : State) (p : Fin 2) (a b : List TxFrame) (f : TxFrame), s.serving → (s.port p).sending = none → s.linkUp p = true → s.flag (macBase p) 1 = true →
    s.halted = false → (s.port p).ctl = [] → (s.port p).paused = [] → s.flag (macBase p + 0x300) 0 = false → (s.port p).txq = a ++ f :: b →
    f.prio ≤ 7 → ((a ++ b).all fun g => decide (g.prio < f.prio)) = true → f.stamp = none →
    ends (exec (.macTxSelect p) s) fun u => (u.port p).sending = some f ∧ (u.port p).txq = a ++ b ∧ { u with net := s.net } = s) ∧
  (∀ (s : State) (p : Fin 2) (f : TxFrame), s.serving → (s.port p).sending = some f → f.emit = none → s.loopDepth p = 0 →
    ends (exec (.macTxFrameEnd p) s) fun u => u.port p = { s.port p with sending := none, wire := (f.bytes, f.bad) :: (s.port p).wire, txLoad := (s.port p).txLoad + f.bytes.length + 24 } ∧
      countsOne u s (macBase p + 0x860) ∧ u.c64 (macBase p + 0x868) = (s.c64 (macBase p + 0x868) + f.bytes.length + 4) % 2 ^ 64 ∧
      (f.bad = true → countsOne u s (macBase p + 0x870)) ∧ u.mem = s.mem)

/-- O44. Time gates, the PHC and Doze (R402, R403, R405, R409, R410, R411, R446). -/
def Obligations.GateAndDozeResults : Prop :=
  (∀ (s : State) (p : Fin 2), s.serving → s.flag (macBase p + 0x300) 0 = true →
    ends (exec (.gateEntryChange p) s) fun u => u.port p = { s.port p with gate := (s.gateNow p).1 } ∧ { u with net := s.net } = s) ∧
  (∀ (s : State) (p : Fin 2), s.serving → s.flag (macBase p + 0x300) 0 = false → ends (exec (.gateEntryChange p) s) fun u => u = s) ∧
  (∀ (s : State) (p : Fin 2), s.serving →
    ends (exec (.tgCommit p) s) fun u => u.flag (macBase p + 0x300) 1 = true ∧
      u.c64 (macBase p + 0x318) = changeTime (s.c64 (macBase p + 0x310)) (s.rd (macBase p + 0x304)) s.phcNs % 2 ^ 64 ∧
      (List.range 64).all (fun i => u.rd (macBase p + 0x500 + 4 * i) == s.rd (macBase p + 0x500 + 4 * i)) = true) ∧
  (∀ (s : State) (p : Fin 2), s.serving → ends (exec (.tgCancel p) s) fun u => u.flag (macBase p + 0x300) 1 = false ∧ { u with csr := s.csr } = s) ∧
  (∀ (s : State) (p : Fin 2), s.serving → s.flag (macBase p + 0x300) 1 = true → s.c64 (macBase p + 0x318) ≤ s.phcNs →
    ends (exec (.tgChange p) s) fun u => (List.range 64).all (fun i => u.rd (macBase p + 0x500 + 4 * i) == s.rd (macBase p + 0x400 + 4 * i) % 2 ^ 32) = true ∧
      u.flag (macBase p + 0x300) 1 = false ∧ (u.port p).operLen = s.fld (macBase p + 0x308) 6 0 ∧ (u.port p).operCycle = s.rd (macBase p + 0x304) ∧
      (u.port p).operBase = s.c64 (macBase p + 0x310)) ∧
  (∀ (s : State), s.serving → ends (exec .phcStep s) fun u => u.phc = s.c64 0x10500910 * 2 ^ 32 ∧ u.mem = s.mem ∧
    u.ks = s.ks) ∧
  (∀ (s : State) (p : Fin 2), s.serving → bit (byteAt (s.cfg.active.get secPort p) 14) 2 = true → s.portTakes p = true → s.flag (macBase p + 4) 8 = false →
    (s.port p).change = none → (s.port (other p)).change = none → s.linkUp (other p) = true → (s.port p).lastChange = none → (s.port p).noAutoUntil ≤ s.now →
    ends (exec (.dozeLower p) s) fun u => (u.port p).change = some (fSPEED p s, byteAt (s.cfg.active.get secPort p) 15) ∧ u.portState p = 3 ∧
      (s.modeNow = .serve → u.modeNow = .doze ∧ u.power.prev = .serve)) ∧
  (∀ (s : State) (p : Fin 2), s.serving → s.portTakes p = true → s.fld (macBase p + 4) 11 9 ≠ fSPEED p s → (s.port p).change = none →
    (s.port (other p)).change = none → (s.port p).noAutoUntil ≤ s.now →
    ends (exec (.dozeRaise p) s) fun u => (u.port p).change = some (s.fld (macBase p + 4) 11 9, fSPEED p s) ∧ u.portState p = 3) ∧
  (∀ (s : State) (p : Fin 2) (old new : Nat), s.serving → (s.port p).change = some (old, new) → s.portState p = 3 →
    ends (exec (.dozeLinkDown p) s) fun u => u.linkUp p = false ∧ (u.port p).txq = [] ∧ u.fld (macBase p + 4) 11 9 = new % 8 ∧
      u.flag (macBase p + 4) 8 = (new % 8 != fSPEED p s) ∧ (u.port p).change = some (old, new)) ∧
  (∀ (s : State) (p : Fin 2) (old new : Nat), s.serving → (s.port p).change = some (old, new) → s.linkUp p = false →
    ends (exec (.dozeFail p) s) fun u => (u.port p).change = none ∧ (u.port p).noAutoUntil = s.now + 900000000000 ∧
      u.fld (macBase p + 4) 11 9 = old % 8 ∧ u.flag (macBase p + 4) 8 = (old != fSPEED p s))

/-- O45. Configuration sets (R470, R484, R493, R494, R495, R497, R498, R499, R501, R594, 12_fence_and_configuration.md Table 12-10, 12_fence_and_configuration.md Table 12-11). -/
def Obligations.ConfigResults : Prop :=
  (∀ (s : State) (m : FMsg) (c : CfgSet), s.atLead 0x01 m → s.cfg.waiting = none → byteAt m.data 1 = 0 → byteAt m.data 0 ≤ 13 →
    m.data.length = 12 + leAt m.data 8 4 * recSize (byteAt m.data 0) → leAt m.data 8 4 ≠ 0 → (byteAt m.data 0 = secDir → leAt m.data 4 4 = 0) →
    applyPayload s.cfg.shadow (byteAt m.data 0) 0 (leAt m.data 4 4) (chunks (leAt m.data 8 4) (recSize (byteAt m.data 0)) (m.data.drop 12)) = some c →
    s.fenceIdle →
    ends (exec .cfgWrite s) fun u => u.cfg = { s.cfg with shadow := c } ∧ u.rd rCfgShadowGen = (s.rd rCfgShadowGen + 1) % 2 ^ 32 ∧
      sentToKeeper u 0x04 true m.tag (u.cfgResultBytes 0 0 (byteAt m.data 0) 0 (leAt m.data 4 4) (s.rd rCfgEpoch))) ∧
  (∀ (s : State) (m : FMsg), s.atLead 0x01 m → s.cfg.waiting = none → byteAt m.data 1 = 1 → byteAt m.data 0 = secDir → leAt m.data 8 4 = 0 →
    m.data.length = 12 → s.fenceIdle →
    ends (exec .clearNs s) fun u => u.cfg = { s.cfg with shadow := { s.cfg.shadow with
        dir := s.cfg.shadow.dir.filter fun e => dirNs e ≠ leAt m.data 4 4 } } ∧ u.rd rCfgShadowGen = (s.rd rCfgShadowGen + 1) % 2 ^ 32 ∧
      sentToKeeper u 0x04 true m.tag (u.cfgResultBytes 0 0 secDir 0 (leAt m.data 4 4) (s.rd rCfgEpoch))) ∧
  (∀ (s : State) (m : FMsg), s.atLead 0x02 m → s.cfg.waiting = none → leAt m.data 0 4 ≠ 0 → leAt m.data 0 4 ≠ s.rd rCfgShadowGen → s.fenceIdle →
    ends (exec .cfgCommit s) fun u => u.cfg = s.cfg ∧ sentToKeeper u 0x04 true m.tag (s.cfgResultBytes 2 1 0 0 0 (s.rd rCfgEpoch))) ∧
  (∀ (s t : State) (m : FMsg) (sec i r : Nat), s.serving → s.takeLead 0x02 = some (m, t) → t.cfg.waiting = none →
    (leAt m.data 0 4 = 0 ∨ leAt m.data 0 4 = t.rd rCfgShadowGen) → t.checkSet t.candidate (List.range 14) = some (sec, i, r) → t.fenceIdle →
    ends (exec .cfgCommit s) fun u => u.cfg = s.cfg ∧ sentToKeeper u 0x04 true m.tag (t.cfgResultBytes 4 1 sec r i (t.rd rCfgEpoch))) ∧
  (∀ (s t : State) (m : FMsg), s.serving → s.takeLead 0x02 = some (m, t) → t.noCommit → (leAt m.data 0 4 = 0 ∨ leAt m.data 0 4 = t.rd rCfgShadowGen) →
    t.checkSet t.candidate (List.range 14) = none → t.power.base ≠ .heel →
    ends (exec .cfgCommit s) fun u =>
      u.cfg.active = { t.candidate with epoch := if t.cfg.active.epoch = 0xFFFFFFFF then 1 else t.cfg.active.epoch + 1 } ∧ u.cfg.shadow = u.cfg.active ∧
      u.rd rCfgEpoch = u.cfg.active.epoch % 2 ^ 32 ∧ u.cfg.waiting = none ∧
      u.cfg.prev = (if t.epochHeld t.cfg.active.epoch then some t.cfg.active else none)) ∧
  (∀ (s t : State) (page : FlashPage), s.bringsUp t page → page.ok = true → s.segCws true ≤ 262144 → s.segCws false ≤ 262144 → t.flag rDrcStatus 7 = false →
    t.checkSet t.candidate (List.range 14) = none → t.flag rDrcStatus 0 = true → t.flashBlank = true → byteAt (t.candidate.get secStorage 0) 5 ≠ 1 →
    ends (exec (.startCommit page) s) fun u => u.cfg.active = { t.candidate with epoch := t.cfg.shadow.epoch } ∧ u.cfg.shadow = u.cfg.active ∧
      u.rd rCfgEpoch = t.cfg.shadow.epoch % 2 ^ 32 ∧ u.power.base = .heel ∧ u.power.step = 5 ∧ u.brace.codes = [2]) ∧
  (∀ (s t : State) (page : FlashPage), s.bringsUp t page → page.ok = true → s.segCws true ≤ 262144 → s.segCws false ≤ 262144 → t.flag rDrcStatus 7 = false →
    t.checkSet t.candidate (List.range 14) = none → t.flag rDrcStatus 0 = true →
    (t.flashBlank = false ∨ byteAt (t.candidate.get secStorage 0) 5 = 1) → s.keeper.storeTricks = [] →
    ((s.fence.toS ++ s.keeper.outQ).any fun p => p.typ == 0x21 || p.typ == 0x22) = false → s.flag rPwrCtl 2 = false →
    ends (exec (.startCommit page) s) fun u => u.cfg.active = { t.candidate with epoch := t.cfg.shadow.epoch } ∧ u.cfg.shadow = u.cfg.active ∧
      u.rd rCfgEpoch = t.cfg.shadow.epoch % 2 ^ 32 ∧ u.power.base = .heel ∧ u.power.step = 8 ∧ u.brace.codes = []) ∧
  (∀ (s t : State) (page : FlashPage), s.bringsUp t page → page.ok = true → s.segCws true ≤ 262144 → s.segCws false ≤ 262144 → t.flag rDrcStatus 7 = false →
    t.checkSet t.candidate (List.range 14) = none → t.flag rDrcStatus 0 = false →
    ends (exec (.startCommit page) s) fun u => u.cfg.active = { t.candidate with epoch := t.cfg.shadow.epoch } ∧ u.power.base = .boot ∧ u.power.step = 5) ∧
  (∀ (s t : State) (page : FlashPage), s.bringsUp t page → page.ok = true → s.segCws true ≤ 262144 → s.segCws false ≤ 262144 → t.flag rDrcStatus 7 = false →
    t.checkSet t.candidate (List.range 14) ≠ none →
    ends (exec (.startCommit page) s) fun u => u.cfg = t.cfg ∧ u.power.base = .heel ∧ u.power.step = 4) ∧
  (∀ (s t : State) (page : FlashPage), s.bringsUp t page → page.ok = false → t.flag rDrcStatus 7 = false →
    ends (exec (.startCommit page) s) fun u => u.cfg = t.cfg ∧ u.power.base = .heel ∧ u.power.step = 3 ∧ u.brace.codes = [3]) ∧
  (∀ (s : State) (tag : Nat) (b : Bool), s.serving → s.cfg.waiting = some (tag, b) → s.fenceIdle →
    ends (exec .commitOldHeldTimeout s) fun u => u.cfg = { s.cfg with waiting := none } ∧
      sentToKeeper u 0x04 true tag (s.cfgResultBytes 4 1 0 7 0 (s.rd rCfgEpoch))) ∧
  (∀ (s : State) (m : FMsg), s.atLead 0x03 m → s.cfg.waiting = none → s.fenceIdle →
    ends (exec .cfgDiscard s) fun u => u.cfg = { s.cfg with shadow := s.cfg.active } ∧ u.rd rCfgShadowGen = (s.rd rCfgShadowGen + 1) % 2 ^ 32 ∧
      sentToKeeper u 0x04 true m.tag (u.cfgResultBytes 0 0 0 0 0 (s.rd rCfgEpoch))) ∧
  (∀ (s : State) (m : FMsg) (src : OpSrc) (tag : Nat), s.atK 0x04 m → s.fromI3c m.tag tag src →
    ends (exec .cfgResult s) fun u => answersI3c u s 0x04 tag m.data ∧ mget u.keeper.tags m.tag = none ∧ u.cfg = s.cfg ∧
      u.keeper.commits = s.keeper.commits ++ (if byteAt m.data 0 = 0 ∧ byteAt m.data 1 = 1 then [(src, tag, m.data)] else [])) ∧
  (∀ (s : State) (m : FMsg), s.atK 0x05 m → byteAt m.data 1 = 2 →
    ends (exec .cfgPersist s) fun u => u.cfg = { s.cfg with incoming := some { s.persistBase with epoch := leAt m.data 4 4 } }) ∧
  (∀ (s : State) (m : FMsg) (c : CfgSet), s.atK 0x05 m → byteAt m.data 1 = 0 → byteAt m.data 0 ≤ 13 → byteAt m.data 0 ≠ secDir → leAt m.data 8 4 = 1 →
    m.data.length = 12 + recSize (byteAt m.data 0) → s.cfg.incoming = some c →
    ends (exec .cfgPersist s) fun u => { u.cfg with incoming := s.cfg.incoming } = s.cfg ∧
      u.cfg.incoming.map (fun d => d.get (byteAt m.data 0) (leAt m.data 4 4)) = some (m.data.drop 12)) ∧
  (∀ (s : State) (m : FMsg) (c : CfgSet), s.atK 0x05 m → byteAt m.data 1 = 3 → s.cfg.incoming = some c →
    ends (exec .cfgPersist s) fun u => u.cfg = { s.cfg with incoming := none, persisting := s.cfg.persisting ++ [.image c] }) ∧
  (∀ (s : State) (c : CfgSet) (t : List Persist) (src : OpSrc) (tag : Nat) (d : Bytes) (rest : List (OpSrc × Nat × Bytes)) (ok : Bool), s.operating →
    s.norFree = true → s.cfg.persisting = .image c :: t → s.cfg.half0.valid = false → s.keeper.commits = (src, tag, d) :: rest → src.chan = 1 →
    ends (exec (.persistComplete ok) s) fun u => u.cfg.half0.valid = ok ∧ (ok = true → u.cfg.half0.set = c ∧ u.cfg.half0.serial = s.cfg.serial + 1) ∧
      u.cfg.half1 = s.cfg.half1 ∧ u.cfg.active = s.cfg.active ∧ u.cfg.persisting = t ∧ u.keeper.commits = rest ∧
      answersI3c u s 0x04 tag (patch d 1 [if ok then 2 else 3])) ∧
  (∀ (s : State) (m : FMsg) (src : OpSrc) (tag : Nat), s.atK 0x19 m → s.fromI3c m.tag tag src →
    ends (exec .keyResult s) fun u => answersI3c u s 0x19 tag m.data ∧ mget u.keeper.tags m.tag = none ∧ u.cph = s.cph)

/-- O46. Loading the serving program, handler and tricks; mode and heartbeat messages (R260, R266, R269, R271, R461, R474, R477, R482, R483, R500, 12_fence_and_configuration.md Table 12-4, 11_operating_modes.md Table 11-6). -/
def Obligations.LoadMessageResults : Prop :=
  (∀ (s : State) (m : FMsg), s.atS 0x20 m → (s.th 0).run = false → leAt m.data 0 4 % 32 = 0 → leAt m.data 0 4 + 32 ≤ 0x10000 →
    bit (byteAt m.data 4) 0 = false →
    ends (exec .serveLoad s) fun u => memRead u.mem.istore (leAt m.data 0 4) 32 = slice m.data 8 32 ∧ { u.mem with istore := s.mem.istore } = s.mem ∧
      (∀ a, a < leAt m.data 0 4 ∨ leAt m.data 0 4 + 32 ≤ a → memGet u.mem.istore a = memGet s.mem.istore a) ∧ u.threads = s.threads) ∧
  (∀ (s : State) (m : FMsg) (a : Nat), s.atS 0x20 m → (s.th 0).run = false → leAt m.data 0 4 = 2 ^ 31 + a → a % 32 = 0 → a + 32 ≤ 0x20000 →
    bit (byteAt m.data 4) 0 = true →
    ends (exec .serveLoad s) fun u => memRead u.mem.dstore a 32 = slice m.data 8 32 ∧ { u.mem with dstore := s.mem.dstore } = s.mem ∧
      (u.th 0).run = true ∧ (u.th 0).pc = 0 ∧ (u.deng 0).epoch = 1 ∧ (u.deng 0).role = 7 ∧ u.keeper.heartbeats = true ∧ u.power.step = 1) ∧
  (∀ (s : State) (m : FMsg), s.atS 0x20 m → (s.th 0).run = true → s.fenceIdle →
    ends (exec .serveLoad s) fun u => u.mem = s.mem ∧ u.threads = s.threads ∧ sentToKeeper u 0x7E true m.tag [0x20, 5]) ∧
  (∀ (s : State) (m : FMsg), s.atLead 0x21 m → leAt m.data 0 4 % 32 = 0 → leAt m.data 0 4 < 16384 →
    leAt m.data 0 4 = (if leAt m.data 0 4 = 0 then 0 else s.tricks.handlerIn.length) → bit (byteAt m.data 4) 0 = false →
    ends (exec .handlerLoad s) fun u => u.tricks = { s.tricks with
      handlerIn := (if leAt m.data 0 4 = 0 then [] else s.tricks.handlerIn) ++ slice m.data 8 32 }) ∧
  (∀ (s : State) (m : FMsg), s.atLead 0x21 m → leAt m.data 0 4 % 32 = 0 → leAt m.data 0 4 < 16384 →
    leAt m.data 0 4 = s.tricks.handlerIn.length → bit (byteAt m.data 4) 0 = true → s.fenceIdle → s.power.step ≠ 7 →
    ends (exec .handlerLoad s) fun u => u.tricks = { s.tricks with handler := some (s.tricks.handlerIn ++ slice m.data 8 32), handlerIn := [] } ∧
      sentToKeeper u 0x24 true m.tag (zeros 8)) ∧
  (∀ (s t : State) (m : FMsg) (w : Nat), s.serving → s.takeLead 0x22 = some (m, t) → t.verifyTrick m.data = (0, w) → t.fenceIdle → s.power.step ≠ 7 →
    ends (exec .trickLoad s) fun u => mget u.tricks.slots (byteAt m.data 0) = some { tenant := leAt m.data 2 2, entry := leAt m.data 6 2, budget := leAt m.data 8 4, keyslot := (if bit (leAt m.data 12 4) 15 then some (bits (leAt m.data 12 4) 0 12) else none), code := m.data.drop 32 } ∧
      (∀ k, k ≠ byteAt m.data 0 → mget u.tricks.slots k = mget s.tricks.slots k) ∧
      sentToKeeper u 0x24 true m.tag (leBytes 1 1 ++ leBytes 1 0 ++ leBytes 1 (byteAt m.data 0) ++ zeros 1 ++ leBytes 4 w)) ∧
  (∀ (s t : State) (m : FMsg) (code w : Nat), s.serving → s.takeLead 0x22 = some (m, t) → t.verifyTrick m.data = (code, w) → code ≠ 0 → t.fenceIdle → s.power.step ≠ 7 →
    ends (exec .trickLoad s) fun u => u.tricks = s.tricks ∧
      sentToKeeper u 0x24 true m.tag (leBytes 1 1 ++ leBytes 1 code ++ leBytes 1 (byteAt m.data 0) ++ zeros 1 ++ leBytes 4 w)) ∧
  (∀ (s : State) (m : FMsg) (x : Trick), s.atLead 0x23 m → mget s.tricks.slots (byteAt m.data 0) = some x → x.tenant = leAt m.data 2 2 → s.fenceIdle →
    ends (exec .trickUnload s) fun u => mget u.tricks.slots (byteAt m.data 0) = none ∧
      (∀ k, k ≠ byteAt m.data 0 → mget u.tricks.slots k = mget s.tricks.slots k) ∧
      sentToKeeper u 0x24 true m.tag (leBytes 1 2 ++ leBytes 1 0 ++ leBytes 1 (byteAt m.data 0) ++ zeros 5)) ∧
  (∀ (s : State) (m : FMsg) (x : Trick), s.atLead 0x23 m → mget s.tricks.slots (byteAt m.data 0) = some x → x.tenant ≠ leAt m.data 2 2 → s.fenceIdle →
    ends (exec .trickUnload s) fun u => u.tricks = s.tricks ∧
      sentToKeeper u 0x24 true m.tag (leBytes 1 2 ++ leBytes 1 8 ++ leBytes 1 (byteAt m.data 0) ++ zeros 5)) ∧
  (∀ (s : State) (m : FMsg) (src : OpSrc) (tag : Nat) (b : Bytes), s.atK 0x24 m → s.fromI3c m.tag tag src → byteAt m.data 1 = 0 → byteAt m.data 0 = 1 →
    mget s.keeper.loading (byteAt m.data 2) = some b →
    ends (exec .loadResult s) fun u => mget u.keeper.storeTricks (byteAt m.data 2) = some b ∧ mget u.keeper.loading (byteAt m.data 2) = none ∧
      answersI3c u s 0x24 tag m.data) ∧
  (∀ (s : State) (m : FMsg) (src : OpSrc) (tag : Nat), s.atK 0x24 m → s.fromI3c m.tag tag src → byteAt m.data 1 ≠ 0 →
    ends (exec .loadResult s) fun u => u.keeper.storeTricks = s.keeper.storeTricks ∧ u.keeper.storeHandler = s.keeper.storeHandler ∧
      answersI3c u s 0x24 tag m.data) ∧
  (∀ (s : State) (m : FMsg), s.atS 0x31 m →
    ends (exec .pmonSet s) fun u => u.fld 0x10000018 11 0 = leAt m.data 0 2 % 4096 ∧ u.fld 0x10000018 27 16 = leAt m.data 2 2 % 4096) ∧
  (∀ (s : State) (m : FMsg) (a : Bytes) (p : Nat), s.atK 0x32 m → s.keeper.lastSrc = some (a, p) →
    ends (exec .modeReport s) fun u => u.power.testSeen = decide (byteAt m.data 0 = 9) ∧
      u.upd.heelSeen = (s.upd.heelSeen || decide (2 ≤ byteAt m.data 0 ∧ byteAt m.data 0 ≤ 9)) ∧
      (u.keeper.sent.head?).map (fun d => (d.addr, d.port, d.counter, d.msgs)) = some (a, p, s.keeper.txCounter + 1, opParts 0x32 false 0 m.data)) ∧
  (∀ (s : State), s.operating → s.svUp = true → s.keeper.heartbeats = true → 1 ≤ s.power.step → s.fenceIdle → s.noKept →
    ends (exec .heartbeat s) fun u => u.fence.toK = [] ∧ u.keeper.heardAt = s.now ∧ countsOne u s 0x10006000 ∧ countsOne u s 0x20408) ∧
  (∀ (s : State), s.operating → s.svUp = true → s.keeper.heartbeats = true → s.power.brace = false → s.power.fault = false → s.keeper.running = true →
    ends (exec .svSilent s) fun u => u.modeNow = .fault ∧ u.power.prev = s.modeNow ∧ u.fld rPwrFault 7 0 = 6 ∧ u.brace.running = true ∧
      u.brace.after = 1)

/-- O47. Time, PTP, diagnostics and events across the Fence (R405, R407, R408, R477, R480, R484, R492, R503, R505, R507, R520, R592). -/
def Obligations.TimeAndDiagnosticResults : Prop :=
  (∀ (s : State) (m : FMsg), s.atLead 0x40 m →
    ends (exec .timeSet s) fun u => u.phc = leAt m.data 0 8 * 2 ^ 32 ∧ u.c64 0x10500910 = leAt m.data 0 8 ∧ u.mem = s.mem ∧ u.ks = s.ks) ∧
  (∀ (s : State) (m : FMsg), s.atLead 0x41 m → ends (exec .timeAdj s) fun u => u.rd 0x1050090C = leAt m.data 0 4 ∧ u.phc = s.phc) ∧
  (∀ (s : State) (m : FMsg) (p : Fin 2), s.atS 0x42 m → byteAt m.data 0 % 2 = p → s.portTakes p = true →
    ends (exec .ptpTx s) fun u => (u.port p).txq = (s.port p).txq ++ [{ bytes := slice m.data 8 (leAt m.data 6 2), prio := byteAt m.data 1 % 8, emit := none, stamp := (if bit (byteAt m.data 4) 0 then some (leAt m.data 2 2) else none), bad := false, quick := false, sess := none }]) ∧
  (∀ (s : State) (m : FMsg) (p : Fin 2), s.atS 0x42 m → byteAt m.data 0 % 2 = p → s.portTakes p = false →
    ends (exec .ptpTx s) fun u => u.net = s.net ∧ countsOne u s (macBase p + 0x880)) ∧
  (∀ (s : State) (m : FMsg) (rest : List FPart), s.operating → frontMsg s.fence.toK = some (m, rest) → s.fence.waiting = [] → s.noKept →
    (m.typ = 0x43 → 24 ≤ m.data.length → ends (exec .ptpRx s) fun u => u.fence = { s.fence with toK := rest } ∧ countsOne u s 0x20408 ∧ u.keeper.heardAt = s.now) ∧
    (m.typ = 0x45 → 144 ≤ m.data.length → ends (exec .diagTap s) fun u => u.fence = { s.fence with toK := rest } ∧ countsOne u s 0x20408 ∧ u.keeper.heardAt = s.now)) ∧
  (∀ (s : State) (p : Fin 2) (e : TsEnt) (t : List TsEnt), s.serving → (s.port p).ts = e :: t → s.fenceIdle →
    ends (exec (.txTimestamp p) s) fun u => (u.port p).ts = t ∧
      sentToKeeper u 0x44 false 0 (leBytes 8 e.ns ++ leBytes 2 e.frac ++ leBytes 2 e.seqId ++ leBytes 1 p ++ leBytes 1 0 ++ leBytes 2 0)) ∧
  (∀ (s : State) (p : Fin 2) (m : TsMark), s.serving → (s.port p).ts = [] → (s.port p).mark = some m → s.fenceIdle →
    ends (exec (.txTimestamp p) s) fun u => (u.port p).mark = none ∧
      sentToKeeper u 0x44 false 0 (leBytes 8 m.ns ++ leBytes 2 m.last ++ leBytes 2 m.first ++ leBytes 1 p ++ leBytes 1 1 ++ leBytes 2 m.count)) ∧
  (∀ (s t : State) (m : FMsg) (a n : Nat), s.serving → s.takeS 0x50 = some (m, t) → leAt m.data 0 4 = a → byteAt m.data 4 = n → 1 ≤ n → n ≤ 10 → a % 4 = 0 →
    ((List.range n).all fun i => diagAllowed (a + 4 * i)) = true → t.fenceIdle →
    ends (exec .diagRead s) fun u => sentToKeeper u 0x51 true m.tag (leBytes 1 0 ++ leBytes 1 n ++ zeros 2 ++ leBytes 4 a ++
      padTo 40 ((List.range n).flatMap fun i => leBytes 4 (t.peek (a + 4 * i))))) ∧
  (∀ (s t : State) (m : FMsg) (a n : Nat), s.corrupt = false → s.svPresent = true → s.takeS 0x50 = some (m, t) → leAt m.data 0 4 = a →
    byteAt m.data 4 = n → 1 ≤ n → n ≤ 10 → a % 4 = 0 → t.fenceIdle →
    (((List.range n).all fun i => diagAllowed (a + 4 * i)) = false →
      ends (exec .diagRead s) fun u => sentToKeeper u 0x51 true m.tag (leBytes 1 1 ++ leBytes 1 n ++ zeros 2 ++ leBytes 4 a ++ zeros 40)) ∧
    (((List.range n).all fun i => diagAllowed (a + 4 * i)) = true → s.svUp = false →
      ends (exec .diagRead s) fun u => sentToKeeper u 0x51 true m.tag (leBytes 1 2 ++ leBytes 1 n ++ zeros 2 ++ leBytes 4 a ++ zeros 40))) ∧
  (∀ (s : State) (m : FMsg) (src : OpSrc) (tag : Nat), s.atK 0x51 m → s.fromI3c m.tag tag src →
    ends (exec .diagData s) fun u => answersI3c u s 0x51 tag m.data ∧ mget u.keeper.tags m.tag = none) ∧
  (∀ (s : State) (m : FMsg), s.atK 0x60 m → m.data.length = 32 → s.appends → isAlarm (leAt m.data 0 2) = false →
    s.repeats (leAt m.data 0 2) (sourceOf (leAt m.data 2 2)) (slice m.data 16 16) = false →
    ends (exec .event s) fun u => recorded u s (leAt m.data 0 2) (sourceOf (leAt m.data 2 2)) (slice m.data 16 16) ∧ u.keeper.i3cOut = s.keeper.i3cOut) ∧
  (∀ (s : State) (m : FMsg), s.atK 0x60 m → m.data.length = 32 → s.appends →
    s.repeats (leAt m.data 0 2) (sourceOf (leAt m.data 2 2)) (slice m.data 16 16) = true →
    ends (exec .event s) fun u => u.c64 rTrlSeq = s.c64 rTrlSeq ∧ countsOne u s 0x30208 ∧
      (newestHead u.trail.ring).map (fun x => x.1.r.rep) =
        (newestHead s.trail.ring).map (fun x => min (x.1.r.rep + max (leAt m.data 4 4) 1) 0xFFFFFF) ∧ u.keeper.i3cOut = s.keeper.i3cOut) ∧
  (∀ (s : State) (m : FMsg), s.atK 0x61 m → m.data.length = 32 → s.appends → isAlarm (leAt m.data 0 2) = true →
    s.repeats (leAt m.data 0 2) (sourceOf (leAt m.data 2 2)) (slice m.data 16 16) = false →
    ends (exec .alarm s) fun u => recorded u s (leAt m.data 0 2) (sourceOf (leAt m.data 2 2)) (slice m.data 16 16) ∧ u.flag rTrlStatus 2 = true ∧
      (u.keeper.i3cOut.drop s.keeper.i3cOut.length).map (slice · 16 32) = [m.data])

/-- O48. Fence queues and the Keeper channels (R139, R414, R415, R475, R478, R479, R480, R481, R482, R485, R488, R499). -/
def Obligations.FenceAndKeeperResults : Prop :=
  (∀ (s : State), s.operating → s.flag 0x20000 0 = true → s.svPresent = true → s.fence.toS.length < 64 →
    ends (exec .fenTxPush s) fun u => u.fence = { s.fence with
        toS := s.fence.toS ++ [partOfBytes ((List.range 16).flatMap fun i => leBytes 4 (s.rd (0x20100 + 4 * i))) 0] } ∧ countsOne u s 0x20400) ∧
  (∀ (s : State), s.operating → s.flag 0x20000 0 = true → s.svPresent = true → 64 ≤ s.fence.toS.length →
    ends (exec .fenTxPush s) fun u => u.fence = s.fence ∧ u.flag 0x20004 1 = true ∧ { u with csr := s.csr } = s) ∧
  (∀ (s : State), s.operating → s.flag 0x20000 0 = true → s.svPresent = false →
    ends (exec .fenTxPush s) fun u => countsOne u s 0x20410 ∧ { u with csr := s.csr } = s) ∧
  (∀ (s : State) (p : FPart) (t : List FPart), s.operating → s.fence.toK = p :: t → s.fence.waiting = [] → s.noKept →
    ends (exec .fenRxPop s) fun u => u.fence = { s.fence with toK := t } ∧ countsOne u s 0x20408 ∧ u.keeper = { s.keeper with heardAt := s.now }) ∧
  (∀ (s : State) (h : Nat), s.corrupt = false → s.fence.hold = some h → s.fence.waiting = [] → s.noKept →
    ends (exec .fenceHoldTimeout s) fun u => u = s.setFence { s.fence with hold := none, cut := h :: s.fence.cut }) ∧
  (∀ (s : State) (r n : Nat) (p : FPart), s.operating → badFront typesToK minLenK s.fence.toK = some (r, p, n) → s.takeK 0x7E = none → s.svPresent = true →
    s.fence.toS.length < 64 → s.keeper.outQ = [] → s.fence.waiting = [] → s.noKept →
    ends (exec (.nak true none) s) fun u => u.fence = { s.fence with toK := s.fence.toK.drop n, toS := s.fence.toS ++ partsOf 0x7E true p.tag 0 (leBytes 1 p.typ ++ leBytes 1 r) }) ∧
  (∀ (s : State) (p : FPart) (t : List FPart) (readable : Bool), s.operating → s.fence.toK = p :: t → s.svPresent = true → s.fence.toS.length < 64 →
    s.keeper.outQ = [] → s.fence.waiting = [] → s.noKept →
    ends (exec (.nak true (some readable)) s) fun u => countsOne u s 0x20418 ∧ u.fence = { s.fence with
      toK := (p :: t).drop (splitFirst (p :: t)).1.length, toS := s.fence.toS ++ partsOf 0x7E true p.tag 0 (leBytes 1 (if readable then p.typ else 0xFF) ++ [4]) }) ∧
  (∀ (s : State) (r n : Nat) (p : FPart), s.serving → badFront typesToS minLenS s.fence.toS = some (r, p, n) → s.takeLead 0x7E = none → s.fenceIdle →
    ends (exec (.nak false none) s) fun u => u.fence.toS = s.fence.toS.drop n ∧ countsOne u s 0x10006018 ∧
      sentToKeeper u 0x7E true p.tag (leBytes 1 p.typ ++ leBytes 1 r)) ∧
  (∀ (s : State) (p : FPart) (t : List FPart) (readable : Bool), s.serving → s.fence.toS = p :: t → s.fenceIdle →
    ends (exec (.nak false (some readable)) s) fun u => u.fence.toS = (p :: t).drop (splitFirst (p :: t)).1.length ∧ countsOne u s 0x10006018 ∧
      countsOne u s 0x10006020 ∧ sentToKeeper u 0x7E true p.tag (leBytes 1 (if readable then p.typ else 0xFF) ++ [4])) ∧
  (∀ (s : State) (id : Nat) (f : Frame) (x : Session) (op : OpReq), s.atTurn id opImage f x op → isOperator x = true → f.ops.length = 1 → op.ns = 0 →
    op.key = [] → s.fenceIdle →
    ends (exec (.imageFwd (some id)) s) fun u => u.frame id = some { f with waits := some 4 } ∧
      sentToKeeper u 0x70 false 0 (leBytes 2 f.sess ++ zeros 2 ++ leBytes 4 f.seq ++ leBytes 8 op.arg ++ leBytes 2 op.val.length ++ zeros 6 ++ op.val)) ∧
  (∀ (s : State) (id : Nat) (f : Frame) (x : Session) (op : OpReq), s.atTurn id opImage f x op → isOperator x = false →
    ends (exec (.imageFwd (some id)) s) fun u => answered u id f (resOf op stDENIED 0 [] 0) ∧ u.fence = s.fence) ∧
  (∀ (s : State) (m : FMsg), s.atK 0x70 m → s.keeper.running = true → s.keeper.inbox = [] → s.imgKnown (leAt m.data 8 8) = true →
    ends (exec (.imageFwd none) s) fun u => u.keeper.inbox = [{ src := { chan := 2, addr := [], port := 0, sess := leAt m.data 0 2, seq := leAt m.data 4 4 }, typ := 0x70, tag := m.tag, arg := leAt m.data 8 8, data := slice m.data 24 (leAt m.data 16 2) }] ∧ u.upd = s.upd) ∧
  (∀ (s : State) (m : FMsg) (id : Nat) (f : Frame) (op : OpReq), s.atLead 0x71 m → s.frame id = some f → f.op = some op →
    (s.ft.frames.find? fun e => e.2.sess = leAt m.data 0 2 && e.2.seq = leAt m.data 4 4 && e.2.waits == some 4 && e.2.isClient) = some (id, f) →
    ends (exec .imageReply s) fun u => answered u id f (resOf op (byteAt m.data 8) (leAt m.data 16 8) (slice m.data 32 (leAt m.data 24 2)) 0)) ∧
  (∀ (s t : State) (m : OpMsg), s.operating → s.takeOwn 0x80 = some (m, t) → t.keeperIdle → m.src.chan = 1 → 1 ≤ byteAt m.data 4 → byteAt m.data 4 ≤ 10 →
    ends (exec (.keeperRd none) s) fun u => answersI3c u s 0x83 m.tag (leBytes 1 0 ++ zeros 3 ++ leBytes 4 (leAt m.data 0 4) ++
      padTo 40 (readMany (byteAt m.data 4) (leAt m.data 0 4) t).1) ∧ u.mem = s.mem) ∧
  (∀ (s t : State) (m : OpMsg), s.operating → s.takeOwn 0x80 = some (m, t) → t.keeperIdle → m.src.chan = 1 →
    (byteAt m.data 4 = 0 ∨ 10 < byteAt m.data 4) →
    ends (exec (.keeperRd none) s) fun u => answersI3c u s 0x83 m.tag (leBytes 1 1 ++ zeros 3 ++ leBytes 4 (leAt m.data 0 4) ++ zeros 40)) ∧
  (∀ (s : State) (b : Bytes), s.operating → s.flag 0x58000 0 = true → s.keeper.running = true → s.keeperIdle → s.keeper.i3cParts = [] →
    recAccess s.keeper.rcd = 2 → s.flag 0x58000 1 = false → b.length = 64 → byteAt b 6 = 0x80 → byteAt b 8 = 3 → byteAt b 9 = 0 → 5 ≤ byteAt b 10 → byteAt b 10 ≤ 48 →
    leAt b 16 4 = 0x10018 → byteAt b 20 = 1 →
    ends (exec (.keeperRd (some b)) s) fun u => countsOne u s 0x58100 ∧
      answersI3c u s 0x83 (leAt b 12 2) (leBytes 1 0 ++ zeros 3 ++ leBytes 4 0x10018 ++ padTo 40 (leBytes 4 (s.readReg 0x10018).1))) ∧
  (∀ (s t w : State) (m : OpMsg) (i : WriteIn), s.operating → s.takeOwn 0x81 = some (m, t) → leAt m.data 0 4 < 0x10000000 →
    w = (t.keeperReply m.src m.tag 0 (leAt m.data 0 4) []).writeReg i (leAt m.data 0 4) (leAt m.data 4 4) → w.keeperIdle →
    ends (exec (.keeperWr i none) s) fun u => u = { w with pending := s.pending }) ∧
  (∀ (s t : State) (m : OpMsg) (i : WriteIn), s.operating → s.takeOwn 0x81 = some (m, t) → 0x10000000 ≤ leAt m.data 0 4 → t.keeperIdle → m.src.chan = 1 →
    ends (exec (.keeperWr i none) s) fun u => answersI3c u s 0x83 m.tag (leBytes 1 0 ++ zeros 3 ++ leBytes 4 (leAt m.data 0 4) ++ zeros 40) ∧
      { u with keeper := s.keeper } = s) ∧
  (∀ (s t : State) (m : OpMsg), s.operating → s.takeOwn 0x82 = some (m, t) → t.keeperIdle →
    ends (exec (.keeperCfg none) s) fun u => u.cfg = { s.cfg with persisting := s.cfg.persisting ++ [.record (m.data.take 64) m.src m.tag] } ∧
      u.keeper = t.keeper) ∧
  (∀ (s : State), s.operating → s.flag 0x58000 0 = true →
    ends (exec .i3cPrivateRead s) fun u => u.readData = ((match s.keeper.i3cOut with | b :: _ => s.withPec true (padTo 64 b) | [] => s.withPec true [0]).map (fun (x : Byte) => x.toNat)) ∧
      u.keeper = { s.keeper with i3cOut := s.keeper.i3cOut.drop 1 }) ∧
  (∀ (s : State) (da : BitVec 7), s.operating → s.flag 0x58000 0 = true → s.flag 0x58000 1 = false →
    ends (exec (.i3cDynamicAddress da) s) fun u => u.fld 0x58004 6 0 = da.toNat ∧ u.flag 0x58004 7 = true ∧ { u with csr := s.csr } = s) ∧
  (∀ (s : State), s.operating → ends (exec .wdogKick s) fun u => u = s.setKeeper { s.keeper with kickAt := s.now }) ∧
  (∀ (s : State) (i : RomIn), s.operating → s.flag 0x10 31 = true →
    ends (exec (.keeperWatchdogExpiry i) s) fun u => u.flag rPwrCause 3 = true ∧ u.fence.toS = [] ∧ u.keeper.inbox = [] ∧ u.keeper.tags = [] ∧
      (u.power.base = .recovery ∨ (u.mem = s.mem ∧ u.threads = s.threads ∧ u.ks = s.ks ∧ u.cfg.active = s.cfg.active))) ∧
  (∀ (s : State) (raw : Bytes), s.operating → s.flag 0x50000 0 = true → s.flag 0x50004 0 = true → s.mgtDepth = 0 → raw.length < 64 → s.keeper.inbox = [] →
    s.net.mgtRing = [] →
    ends (exec (.mgtRxFrame raw true) s) fun u => countsOne u s 0x50108 ∧ { u with csr := s.csr } = s) ∧
  (∀ (s : State) (raw : Bytes), s.operating → s.flag 0x50000 0 = true → s.flag 0x50004 0 = true → s.mgtDepth = 0 → 64 ≤ raw.length → raw.length ≤ 1522 →
    beAt raw 0 6 = s.c64 0x50008 % 2 ^ 48 → s.net.mgtRing.length < 32 → s.keeper.running = false → s.power.base ≠ .recovery →
    ends (exec (.mgtRxFrame raw true) s) fun u => countsOne u s 0x50100 ∧ u.net = { s.net with mgtRing := s.net.mgtRing ++ [raw] }) ∧
  (∀ (s : State) (raw tpa : Bytes), s.operating → s.flag 0x50000 0 = true → s.flag 0x50004 0 = true → s.mgtDepth = 0 → raw.length = 64 → beAt raw 0 6 = 2 ^ 48 - 1 →
    beAt raw 12 2 = 0x0806 → isArpNd raw = true → beAt raw 20 2 = 1 → tpa = slice raw 38 4 → s.mgtAddrs.contains (mapped tpa) = true →
    s.keeper.running = true → s.keeperIdle →
    ends (exec (.mgtRxFrame raw true) s) fun u => countsOne u s 0x50100 ∧ countsOne u s 0x50118 ∧ u.net = { s.net with
      mgtSent := arpFrame (slice raw 6 6) (beBytes 6 (s.c64 0x50008 % 2 ^ 48)) 2 (beBytes 6 (s.c64 0x50008 % 2 ^ 48)) tpa (slice raw 22 6) (slice raw 28 4) ::
        s.net.mgtSent })

/-- O49. Mode requests, Drain and Nap (R448, R449, R451, R456, R457, R458, R459, R460, R461, R550, 11_operating_modes.md Table 11-2, 11_operating_modes.md Table 11-3). -/
def Obligations.ModeRequestResults : Prop :=
  (∀ (s : State), s.operating → s.power.reqBusy = false → (s.modeNow = .heel ∨ s.modeNow = .sit) → s.power.base ≠ .nap → s.serveRefusal = 0 →
    ends (exec .requestServe s) fun u => u.power.base = .serve ∧ u.power.sit = false ∧ u.flag rRtvCtl 0 = true ∧
      u.modeNow = (if s.dozing then .doze else .serve) ∧ u.power.prev = s.modeNow) ∧
  (∀ (s : State), s.operating → s.power.reqBusy = false → s.modeNow = .heel → s.serveRefusal ≠ 0 →
    ends (exec .requestServe s) fun u => u.flag rPwrModeSt 1 = true ∧ u.fld rPwrModeSt 15 8 = s.serveRefusal ∧ u.power = s.power) ∧
  (∀ (s : State), s.operating → s.power.reqBusy = false → (s.modeNow = .boot ∨ s.modeNow = .serve) →
    ends (exec .requestServe s) fun u => u.flag rPwrModeSt 1 = true ∧ u.fld rPwrModeSt 15 8 = 2 ∧ u.power = s.power) ∧
  (∀ (s : State), s.operating → s.power.reqBusy = false → s.power.waking = false → (s.modeNow = .serve ∨ s.modeNow = .doze) →
    ends (exec .requestSit s) fun u => u.modeNow = .sit ∧ u.power.base = s.power.base ∧ u.brace.sitFlush = false ∧ u.power.prev = s.modeNow) ∧
  (∀ (s : State) (after wakeTo : BitVec 4), s.operating → s.power.reqBusy = false → s.power.waking = false →
    (s.modeNow = .heel ∨ s.modeNow = .serve ∨ s.modeNow = .doze ∨ s.modeNow = .sit) →
    (after = 0 ∨ after = 1 ∨ after = 2 ∨ (after = 5 ∧ (wakeTo = 2 ∨ wakeTo = 3))) →
    ends (exec (.requestDrain after wakeTo) s) fun u => u.modeNow = .drain ∧ u.power.drainAfter = after.toNat ∧ u.power.wakeTo = wakeTo.toNat ∧
      u.power.reqBusy = true ∧ u.flag rRtvCtl 0 = false ∧ u.power.prev = s.modeNow) ∧
  (∀ (s : State) (after wakeTo : BitVec 4), s.operating → s.power.reqBusy = false → s.power.waking = false →
    (s.modeNow = .heel ∨ s.modeNow = .serve ∨ s.modeNow = .doze ∨ s.modeNow = .sit) →
    after ≠ 0 → after ≠ 1 → after ≠ 2 → (after = 5 → wakeTo ≠ 2 ∧ wakeTo ≠ 3) →
    ends (exec (.requestDrain after wakeTo) s) fun u => u.flag rPwrModeSt 1 = true ∧ u.fld rPwrModeSt 15 8 = 7 ∧ u.power = s.power) ∧
  (∀ (s : State), s.operating → s.modeNow = .drain → s.brace.running = false →
    ends (exec .drainTimeout s) fun u => u.modeNow = .drain ∧ u.brace.running = true ∧ u.brace.after = 2 ∧
      u.power.drainStep = (if s.framesDone = false then 3 else if s.mirrorsDone = false then 4 else 5) ∧
      u.power.drainAfter = (if s.power.drainAfter = 5 then 2 else s.power.drainAfter)) ∧
  (∀ (s : State) (i : RomIn), s.corrupt = false → s.modeNow = .drain → s.brace.running = false → s.framesDone = true →
    (s.power.drainAfter = 2 → ends (exec (.drainComplete i) s) fun u => u.modeNow = .heel ∧ u.power.prev = .drain ∧ u.power.reqBusy = false ∧ u.st.stop.isSome = true) ∧
    (s.power.drainAfter = 5 → ends (exec (.drainComplete i) s) fun u => u.modeNow = .nap ∧ u.power.stopped = true ∧ u.nose = Nose.reset ∧ u.mem.vcache = [] ∧
      u.flag rDrcStatus 6 = true ∧ u.st.stop.isSome = true) ∧
    (s.power.drainAfter = 0 → ends (exec (.drainComplete i) s) fun u => u.flag rPwrCause 4 = true ∧ u.svPresent = false ∧ u.mem = Mems.reset ∧
      u.threads = [] ∧ (u.power.base = .boot ∨ u.power.base = .recovery)) ∧
    (s.power.drainAfter = 1 → ends (exec (.drainComplete i) s) fun u => u.modeNow = .boot ∧ u.svPresent = false ∧ u.flag rPwrCause 5 = true ∧ u.mem = Mems.reset)) ∧
  (∀ (s : State) (goal : Bool), s.operating → s.power.reqBusy = false → s.power.base = .nap → s.power.brace = false → s.power.waking = false →
    ends (exec (.requestWake goal) s) fun u => u.power.stopped = false ∧ u.power.wakeTo = (if goal then 3 else 2) ∧
      u.power.waking = !u.flag rDrcStatus 0 ∧ u.power.reqBusy = u.power.waking) ∧
  (∀ (s : State) (goal : Bool), s.operating → s.power.base = .nap → s.power.brace = false → s.power.waking = true →
    ends (exec (.requestWake goal) s) fun u => u.power = { s.power with wakeTo := if goal then 3 else 2 }) ∧
  (∀ (s : State), s.operating → s.power.base = .nap → s.power.brace = false → s.power.waking = false → s.rd 0x10038 ≠ 0 →
    ends (exec .napTimerExpiry s) fun u => u.power.stopped = false ∧ u.power.wakeTo = s.power.wakeTo ∧ u.power.waking = !u.flag rDrcStatus 0) ∧
  (∀ (s : State), s.operating → s.power.reqBusy = false → s.power.waking = false → s.modeNow = .heel → s.flag 0x10028 1 = true → s.flag 0x10000014 3 = true →
    ends (exec .requestTest s) fun u => u.modeNow = .test ∧ u.flag 0x10900000 0 = true ∧ u.flag rRtvCtl 0 = false) ∧
  (∀ (s : State), s.operating → s.power.reqBusy = false → s.power.waking = false → s.modeNow = .heel → s.flag 0x10028 1 = false →
    ends (exec .requestTest s) fun u => u.flag rPwrModeSt 1 = true ∧ u.fld rPwrModeSt 15 8 = 6 ∧ u.power = s.power) ∧
  (∀ (s : State), s.operating → s.power.reqBusy = false → s.power.fault = true → s.brace.running = false →
    ends (exec .requestBoot s) fun u => u.modeNow = .boot ∧ u.svPresent = false ∧ u.flag rPwrCause 5 = true ∧ u.flag rPwrCtl 0 = true ∧ u.flag rPwrCtl 1 = false) ∧
  (∀ (s : State), s.operating → s.power.reqBusy = false → s.modeNow = .test →
    ends (exec .requestBoot s) fun u => u.modeNow = .boot ∧ u.svPresent = false ∧ u.flag rPwrCause 5 = true ∧ u.rd 0x50030 = 0x1E00 ∧ u.rd 0x200 = 0) ∧
  (∀ (s : State), s.operating → s.svPresent = true → s.power.fault = false → s.power.brace = false →
    ends (exec .requestFault s) fun u => u.modeNow = .fault ∧ u.fld rPwrFault 7 0 = 8 ∧ u.brace.running = true ∧ u.brace.after = 1) ∧
  (∀ (s : State), s.corrupt = false → s.svPresent = true → s.power.fault = false → s.power.brace = false →
    ends (exec .thermTrip s) fun u => u.modeNow = .fault ∧ u.fld rPwrFault 7 0 = 4 ∧ u.brace.running = true ∧ u.brace.after = 1) ∧
  (∀ (s : State), s.corrupt = false → s.svPresent = true → s.power.fault = false → s.power.brace = true → s.brace.running = true →
    s.brace.pendingFault = none → ends (exec .thermTrip s) fun u => u = s.setBrace { s.brace with pendingFault := some (4, 0) })

/-- O50. Supplies and resets (R28, R453, R454, R461, R463, R464, R467, R471, R481, R564, 11_operating_modes.md Table 11-4, 11_operating_modes.md Table 11-4a). -/
def Obligations.PowerAndResetResults : Prop :=
  (∀ (s : State), s.corrupt = false → s.flag rPwrCtl 0 = true → ends (exec .svPgoodRise s) fun u => u = s.setPower { s.power with svPgood := true }) ∧
  (∀ (s : State), s.corrupt = false → s.power.svPgood = true → s.flag rPwrCtl 0 = true → s.svPresent = true → s.power.fault = false →
    ends (exec .svPgoodFall s) fun u => u.modeNow = .fault ∧ u.fld rPwrFault 7 0 = 5 ∧ u.flag rPwrCause 6 = true ∧ u.svPresent = false ∧
      u.power.svPgood = false ∧ u.flag rPwrCtl 0 = false ∧ u.flag rPwrCtl 1 = true ∧ u.mem = Mems.reset ∧ u.st.media = s.st.media) ∧
  (∀ (s : State), s.corrupt = false → s.flag rPwrCtl 0 = false → ends (exec .svPgoodFall s) fun u => u = s.setPower { s.power with svPgood := false }) ∧
  (∀ (s : State) (pos : BitVec 3) (testEn : Bool) (post : Half) (kat : BitVec 11), s.corrupt = false → s.power.svPgood = true → s.flag rPwrCtl 0 = true →
    s.flag rPwrCtl 1 = false → s.svPresent = false → s.power.fault = false → s.power.dip = false →
    ends (exec (.svrstRelease pos testEn post kat) s) fun u => u.svPresent = true ∧ u.power.base = .boot ∧ u.power.step = 0 ∧
      u.rd 0x10000014 = pos.toNat + (if testEn then 8 else 0) ∧ u.fld rPckStatus 10 8 = pos.toNat ∧ u.flag rCphStatus 0 = decide (kat = 0) ∧
      (testEn = true → u.rd 0x10900004 = post.toNat + 65536) ∧
      u.brace.codes = (if kat = 0 then [] else [4]) ++ (if testEn = true ∧ post ≠ 0 then [6] else [])) ∧
  (∀ (s : State), s.operating → s.power.svPgood = false → s.flag rPwrCtl 0 = true → s.appends → s.repeats 0x104 2 (zeros 16) = false →
    ends (exec .svPwrTimeout s) fun u => u.power.svPwrFail = true ∧ u.flag rPwrCtl 0 = false ∧ u.flag rPwrCtl 1 = true ∧ u.svPresent = false ∧
      recorded u s 0x104 2 (zeros 16)) ∧
  (∀ (s : State), s.operating → ends (exec .svPwrEnSet s) fun u => u.flag rPwrCtl 0 = true ∧ u.flag rPwrCtl 1 = s.flag rPwrCtl 1 ∧ { u with csr := s.csr } = s) ∧
  (∀ (s : State), s.operating → (s.modeNow = .heel ∨ s.modeNow = .recovery) →
    ends (exec .svPwrEnClear s) fun u => u.flag rPwrCtl 0 = false ∧ u.flag rPwrCtl 1 = true ∧ u.svPresent = false ∧ u.modeNow = s.modeNow ∧ u.mem = Mems.reset) ∧
  (∀ (s : State), s.operating → (s.modeNow = .serve ∨ s.modeNow = .boot ∨ s.modeNow = .drain) → ends (exec .svPwrEnClear s) fun u => u = s) ∧
  (∀ (s : State), s.operating → ends (exec .svResetSet s) fun u => u.flag rPwrCtl 1 = true ∧ u.flag rPwrCause 5 = true ∧ u.svPresent = false ∧
    u.modeNow = .boot ∧ u.mem = Mems.reset ∧ u.threads = [] ∧ u.ks = Keyspace.reset ∧ u.cph = Cipher.reset ∧ u.st.media = s.st.media ∧ u.cfg.half0 = s.cfg.half0 ∧
    u.upd.fuses = s.upd.fuses ∧ u.trail = s.trail) ∧
  (∀ (s : State), s.operating → ends (exec .svResetClear s) fun u => u.flag rPwrCtl 1 = false ∧ u.flag rPwrCtl 0 = s.flag rPwrCtl 0 ∧ { u with csr := s.csr } = s) ∧
  (∀ (s : State) (i : RomIn), s.operating → s.upd.fuseOp = none → ends (exec (.fullReset i) s) fun u => u.flag rPwrCause 4 = true ∧ u.svPresent = false ∧ u.power.fault = false ∧
    u.mem = Mems.reset ∧ u.threads = [] ∧ u.ks = Keyspace.reset ∧ u.cph = Cipher.reset ∧ u.st.media = s.st.media ∧ u.cfg.half0 = s.cfg.half0 ∧
    u.upd.fuses = s.upd.fuses ∧ u.keeper.inbox = [] ∧ (u.power.base = .boot ∨ u.power.base = .recovery)) ∧
  (∀ (s : State), s.operating → ends (exec .pwrLock s) fun u => u.flag rPwrCtl 3 = true ∧ u.rd 0x10018 = s.rd 0x10018 ∧ u.rd rPwrWarn = s.rd rPwrWarn ∧
    { u with csr := s.csr } = s) ∧
  (∀ (s : State), s.upd.fuseOp = none → ends (exec .aonPor s) fun u => u.csr = State.reset.csr ∧ u.corrupt = false ∧ u.modeNow = .off ∧ u.mem = Mems.reset ∧ u.threads = [] ∧
    u.st.media = s.st.media ∧ u.cfg.half0 = s.cfg.half0 ∧ u.cfg.half1 = s.cfg.half1 ∧ u.upd.fuses = s.upd.fuses ∧ u.upd.active = s.upd.active ∧
    u.trail.half0 = s.trail.half0 ∧ u.trail.half1 = s.trail.half1 ∧ u.flag rPwrCause 0 = true) ∧
  (∀ (s : State), s.power.aon = true → s.power.porstHigh = true → s.upd.fuseOp = none →
    ends (exec (.porst .falls) s) fun u => u.power.porstHigh = false ∧ u.modeNow = .off ∧ u.flag rPwrCause 1 = true ∧ u.corrupt = s.jtag.drives ∧
      u.mem = Mems.reset ∧ u.svPresent = false ∧ u.st.media = s.st.media ∧ u.upd.fuses = s.upd.fuses ∧ u.fld rPwrCtl 1 0 = 2) ∧
  (∀ (s : State) (r t m : Bool) (i : RomIn), s.power.aon = true → s.power.porstHigh = false → s.power.dip = false →
    ends (exec (.porst (.rises r t m i)) s) fun u => u.power.porstHigh = true ∧ u.corrupt = s.jtag.drives ∧
      u.flag 0x10028 0 = r ∧ u.flag 0x10028 1 = t ∧ u.flag 0x10028 2 = m ∧ (u.power.base = .boot ∨ u.power.base = .recovery)) ∧
  (∀ (s : State), s.corrupt = false → s.svPresent = true →
    ends (exec .svUv s) fun u => u.flag rPwrCause 7 = true ∧ u.svPresent = false ∧ u.modeNow = .boot ∧ u.keeper.running = s.keeper.running ∧ u.trail = s.trail) ∧
  (∀ (s : State) (mv : BitVec 12), s.corrupt = false → s.power.aon = true → s.power.dip = false → mv.toNat < s.fld rPwrReset 11 0 →
    ends (exec (.senseResetLevel mv) s) fun u => u.power.dip = true ∧ u.flag rPwrCause 2 = true ∧ u.svPresent = false ∧ u.opUp = false ∧ u.mem = Mems.reset ∧
      u.keeper.running = false ∧ u.st.media = s.st.media) ∧
  (∀ (s : State) (mv : BitVec 12) (i : RomIn), s.corrupt = false → s.power.dip = true → s.svPresent = false → s.okLevel ≤ mv.toNat → s.power.porstHigh = true →
    ends (exec (.resetLevelRelease mv i) s) fun u => u.power.dip = false ∧ u.power.warn = false ∧ u.power.senseOk = true ∧ u.power.sense = mv.toNat ∧
      (u.power.base = .boot ∨ u.power.base = .recovery))

/-- O51. Supply warning, Brace and return (R450, R461, R465, R466, R469, 11_operating_modes.md Table 11-6). -/
def Obligations.BraceResults : Prop :=
  (∀ (s : State) (mv : BitVec 12) (pfail : Bool), s.corrupt = false →
    (s.modeNow = .heel ∨ s.modeNow = .serve ∨ s.modeNow = .doze ∨ s.modeNow = .sit ∨ s.modeNow = .drain ∨ s.modeNow = .nap) →
    ((s.flag rPwrWarn 28 = true ∧ mv.toNat < s.warnLevel) ∨ (s.flag rPwrWarn 29 = true ∧ pfail = true)) →
    ends (exec (.supplyWarning mv pfail) s) fun u => u.modeNow = .brace ∧ u.power.prev = s.modeNow ∧ u.brace.running = true ∧ u.power.warn = true ∧
      u.power.sense = mv.toNat ∧ u.power.base = s.power.base ∧ countsOne u s 0x10100) ∧
  (∀ (s : State) (mv : BitVec 12) (pfail : Bool), s.operating →
    (s.modeNow = .boot ∨ s.modeNow = .recovery ∨ s.modeNow = .test ∨ s.modeNow = .fault) →
    ((s.flag rPwrWarn 28 = true ∧ mv.toNat < s.warnLevel) ∨ (s.flag rPwrWarn 29 = true ∧ pfail = true)) → s.appends →
    s.repeats 0x101 2 (leBytes 2 mv.toNat ++ leBytes 1 s.modeNow.code ++ zeros 13) = false →
    ends (exec (.supplyWarning mv pfail) s) fun u => u.modeNow = s.modeNow ∧ u.power.warn = true ∧ u.brace.running = s.brace.running ∧
      recorded u s 0x101 2 (leBytes 2 mv.toNat ++ leBytes 1 s.modeNow.code ++ zeros 13)) ∧
  (∀ (s : State) (mv : BitVec 12), s.corrupt = false → s.okLevel ≤ mv.toNat →
    ends (exec (.supplyWarningClear mv) s) fun u => u.power = { s.power with sense := mv.toNat, pfail := false, warn := false, senseOk := true } ∧
      u.brace.count = (if s.power.brace && s.brace.done then some s.now else s.brace.count)) ∧
  (∀ (s : State) (i : RomIn), s.corrupt = false → s.brace.running = true → s.drc.change = none → s.power.brace = true → s.power.fault = false →
    s.brace.pendingFault = none → s.power.base ≠ .nap →
    ends (exec (.braceComplete true i) s) fun u => u.modeNow = .brace ∧ u.brace.running = false ∧ u.brace.done = true ∧
      u.rd 0x10030 = s.usSince s.brace.since % 2 ^ 20 ∧ u.rd 0x10034 = s.unsavedMib % 1024 + s.power.sense % 4096 * 65536 ∧
      u.brace.count = (if s.power.senseOk && !s.power.pfail then some s.now else none)) ∧
  (∀ (s : State) (i : RomIn), s.corrupt = false → s.brace.running = true → s.drc.change = none → s.power.fault = false → s.power.base ≠ .nap →
    ends (exec (.braceComplete false i) s) fun u => u.modeNow = .fault ∧ u.fld rPwrFault 7 0 = 7 ∧ u.svPresent = false ∧ u.mem = Mems.reset) ∧
  (∀ (s : State) (i : RomIn), s.corrupt = false → s.brace.running = true → s.drc.change = none → s.power.fault = true → s.power.brace = false →
    s.brace.pendingFault = none → s.fld rPwrFault 7 0 ≠ 5 →
    ends (exec (.braceComplete true i) s) fun u => u.modeNow = .fault ∧ u.fld rPwrFault 7 0 = s.fld rPwrFault 7 0 ∧ u.svPresent = false) ∧
  (∀ (s : State) (i : RomIn), s.corrupt = false → s.power.brace = true → s.brace.done = true → s.brace.count.isSome = true → s.power.warn = false →
    s.power.base ≠ .nap → s.brace.after ≠ 2 →
    ends (exec (.braceReturn i) s) fun u => u.power = { s.power with brace := false, prev := .brace } ∧ u.brace.done = false ∧ u.brace.count = none ∧
      u.flag rFlcCtl 2 = false ∧ countsOne u s 0x10108) ∧
  (∀ (s : State) (i : RomIn), s.corrupt = false → s.power.brace = true → s.brace.done = true → s.brace.count.isSome = true → s.power.warn = false →
    s.power.base = .nap →
    ends (exec (.braceReturn i) s) fun u => u.power.brace = false ∧ u.power.stopped = false ∧ u.power.waking = !u.flag rDrcStatus 0 ∧ countsOne u s 0x10108)

/-- O52. The Trail (R503, R504, R505, R507, R509, R510, R512, R517, R518, R520, R521, R592). -/
def Obligations.TrailResults : Prop :=
  (∀ (s : State) (code src : Nat) (args : Bytes), s.operating → s.appends → code = bits (s.rd 0x30040) 0 16 → src = bits (s.rd 0x30040) 16 7 →
    args = ((List.range 4).flatMap fun i => leBytes 4 (s.rd (0x30050 + 4 * i))) → s.repeats code src args = false →
    ends (exec .trlAppGo s) fun u => recorded u s code src args ∧ u.flag rTrlStatus 2 = (isAlarm code || s.flag rTrlStatus 2)) ∧
  (∀ (s : State), s.operating → s.flag rTrlCtl 0 = false → ends (exec .trlAppGo s) fun u => u = s) ∧
  (∀ (s : State), s.operating → ends (exec .eventClose s) fun u =>
    u = s.setTrail { s.trail with ring := closeNewest s.trail.ring } ∧
      (newestHead u.trail.ring).all (fun x => !x.1.opened) = true) ∧
  (∀ (s : State), s.operating → s.norFree = true → s.trail.pos < 16383 → s.trail.due ≠ [] → s.flag rTrlCtl 1 = true → s.flag rTrlStatus 1 = false →
    s.trail.leaseNext = none → s.trail.cur = 0 →
    ends (exec (.trailPageProgram true) s) fun u =>
      mget u.trail.half0 s.trail.pos = some { recs := s.trail.due.map (·.r), boot := s.rd rTrlBoot, brace := false } ∧ u.trail.half1 = s.trail.half1 ∧
      u.trail.pos = s.trail.pos + 1 ∧ countsOne u s 0x30218 ∧
      u.trail.ring = s.trail.ring.map (fun x => if (s.trail.due.map (·.r.seq)).contains x.r.seq then { x with written := true, unflushed := false } else x)) ∧
  (∀ (s : State), s.operating → s.norFree = true → s.trail.pos < 16384 → s.trail.due ≠ [] → s.flag rTrlCtl 1 = true → s.flag rTrlStatus 1 = false →
    ends (exec (.trailPageProgram false) s) fun u => u.flag rTrlStatus 1 = true ∧ countsOne u s 0x30220 ∧ u.trail.half0 = s.trail.half0 ∧
      u.trail.half1 = s.trail.half1) ∧
  (∀ (s : State), s.operating → s.norFree = true → 12288 ≤ s.trail.pos → s.trail.pos < 16384 → s.trail.erased < 64 → s.flag rTrlCtl 1 = true →
    s.flag rTrlStatus 1 = false → s.trail.cur = 0 →
    ends (exec (.trailHalfErase true) s) fun u => u = s.setTrail { s.trail with
      half1 := s.trail.half1.filter (fun e => e.1 / 256 != s.trail.erased), erased := s.trail.erased + 1 }) ∧
  (∀ (s : State) (a : BitVec 19), s.operating →
    (ends (exec (.trailScrub .good a) s) fun u => u = s) ∧ (ends (exec (.trailScrub .corrected a) s) fun u => countsOne u s 0x30228 ∧ { u with csr := s.csr } = s) ∧
    (s.flag rTrlStatus 0 = false → ends (exec (.trailScrub .bad a) s) fun u => u.flag rTrlStatus 0 = true)) ∧
  (∀ (s : State) (seq : BitVec 48), s.operating →
    ends (exec (.trailLookup seq .good) s) fun u => u.c64 rTrlRdSeq = seq.toNat ∧ u.trail.fromNor = none ∧
      u.trail.looking = !(s.trail.ring.any fun x => x.r.seq = seq.toNat) ∧ u.trail.ring = s.trail.ring) ∧
  (∀ (s : State), s.operating → s.norFree = true → s.trail.looking = true →
    ends (exec .trailLookupDone s) fun u => u = s.setTrail { s.trail with looking := false, fromNor := (findPage s.trail.half0 (s.c64 rTrlRdSeq)).orElse fun _ => findPage s.trail.half1 (s.c64 rTrlRdSeq) }) ∧
  (∀ (s : State) (v : DWord), s.operating → s.leaseFar → s.repeats evClockStep 0 (leBytes 8 (s.c64 rTrlWall) ++ leBytes 8 v.toNat) = false →
    ends (exec (.trlWallWrite v) s) fun u => u.c64 rTrlWall = v.toNat ∧ u.trail.wallSet = true ∧
      recorded u s evClockStep 0 (leBytes 8 (s.c64 rTrlWall) ++ leBytes 8 v.toNat)) ∧
  (∀ (s : State), s.operating → s.flag rTrlStatus 1 = true →
    (ends (exec (.norRetry true) s) fun u => u.flag rTrlStatus 1 = false ∧ (u.trail.ring.all fun x => !x.unflushed) = true) ∧
    (ends (exec (.norRetry false) s) fun u => u.flag rTrlStatus 1 = true ∧ countsOne u s 0x30220 ∧ { u with csr := s.csr } = s)) ∧
  (∀ (s : State), s.operating → ends (exec .alarmClear s) fun u => u.flag rTrlStatus 2 = false ∧ u.flag rTrlStatus 1 = s.flag rTrlStatus 1 ∧
    { u with csr := s.csr } = s)

/-- O53. Firmware update and fuses (R524, R528, R531, R533, R534, R535, R541, R542, R543, R548, 14_firmware_update.md Table 14-7, 14_firmware_update.md Table 14-9). -/
def Obligations.UpdateResults : Prop :=
  (∀ (s t : State) (m : OpMsg), s.imgInTurn t m 1 → s.upd.claim = none → s.upd.reverting = false → s.upd.inProbation = false → m.data.length = 768 →
    ends (exec (.imageBegin true) s) fun u => if headerCode s.upd.fuses m.data = 0 then
        u.upd.claim = some { holder := 1, session := m.src.sess, next := 768, at0 := s.now } ∧ u.upd.kennel.data = m.data ∧
        u.upd.kennel.desc.map (fun d => (d.length, d.version, d.svn, d.flags)) = some (hdrLength m.data, hdrVersion m.data, hdrSvn m.data, 1) ∧
        u.upd.lastUcode = 0
      else u.upd.claim = none ∧ u.upd.kennel = s.upd.kennel ∧ u.upd.lastUcode = headerCode s.upd.fuses m.data) ∧
  (∀ (s t : State) (m : OpMsg) (c : Claim), s.imgInTurn t m 1 → s.upd.claim = some c → c.holder = 2 →
    ends (exec (.imageBegin true) s) fun u => u.upd = { s.upd with lastUcode := 1 } ∧ imgAnswered u m.src 1 [] (t.imgArg 1)) ∧
  (∀ (s t : State) (m : OpMsg) (c : Claim) (d : Desc), s.imgInTurn t m 2 → s.upd.claim = some c → c.holder = 1 → s.upd.kennel.desc = some d → m.data ≠ [] →
    m.data.length ≤ 1024 → imgOffset m.arg = c.next → c.next + m.data.length ≤ d.length →
    ends (exec (.imageData true) s) fun u => u.upd = { s.upd with lastUcode := 0, claim := some { c with next := c.next + m.data.length, at0 := s.now }, kennel := { s.upd.kennel with data := norPad c.next s.upd.kennel.data ++ m.data } } ∧
      imgAnswered u m.src 0 [] (u.imgArg 0)) ∧
  (∀ (s t : State) (m : OpMsg), s.imgInTurn t m 2 → s.upd.claim = none →
    ends (exec (.imageData true) s) fun u => u.upd = { s.upd with lastUcode := 6 } ∧ imgAnswered u m.src 6 [] (t.imgArg 6)) ∧
  (∀ (s t : State) (m : OpMsg) (i : RomIn) (c : Claim) (d : Desc) (k : Area), s.imgInTurn t m 3 → s.inRecovery = false → s.upd.claim = some c →
    c.holder = 1 → s.upd.kennel.desc = some d → c.next = d.length →
    k = { s.upd.kennel with desc := some { d.set 1 with hash := Config.sha384 s.upd.kennel.image } } →
    ends (exec (.imageEnd true i) s) fun u => u.upd.claim = none ∧ u.upd.lastUcode = imageCode s.upd.fuses s.upd.kennel.image ∧
      u.upd.kennel = (if imageCode s.upd.fuses s.upd.kennel.image = 0 then k.set 2 else k) ∧ u.upd.active = s.upd.active ∧ u.upd.backup = s.upd.backup) ∧
  (∀ (s t : State) (m : OpMsg) (i : RomIn) (c : Claim) (d : Desc), s.imgInTurn t m 3 → s.upd.claim = some c → c.holder = 1 → s.upd.kennel.desc = some d →
    c.next ≠ d.length →
    ends (exec (.imageEnd true i) s) fun u => u.upd = { s.upd with claim := none, lastUcode := 8 }) ∧
  (∀ (s t : State) (m : OpMsg), s.imgInTurn t m 4 → s.upd.claim = none ∨ (s.upd.claim.map (·.holder)) = some 1 →
    ends (exec .imageAbort s) fun u => u.upd = { s.upd with claim := none, lastUcode := 0 } ∧ imgAnswered u m.src 0 [] (u.imgArg 0)) ∧
  (∀ (s t : State) (m : OpMsg), s.imgInTurn t m 5 →
    ends (exec .imageStatus s) fun u => u.upd = { s.upd with lastUcode := 0 } ∧ imgAnswered u m.src 0
      (beBytes 1 s.holder?.1 ++ zeros 1 ++ beBytes 2 s.holder?.2.1 ++ beBytes 4 s.holder?.2.2 ++ beBytes 1 (kennelState s.upd.kennel) ++
        beBytes 1 s.upd.active.tries ++ beBytes 1 s.upd.fuses.svn ++ zeros 1 ++ beBytes 4 s.probationLeft ++ beBytes 8 s.upd.active.version ++
        beBytes 8 s.upd.backup.version) (s.imgArg 0)) ∧
  (∀ (s t : State) (m : OpMsg), s.imgInTurn t m 6 → s.upd.inProbation = true → s.upd.reverting = false → s.upd.bootedBackup = false → s.upd.heelSeen = true →
    ends (exec (.imageConfirm true) s) fun u => u.upd.active = s.upd.active.set 4 ∧ u.upd.probation = none ∧
      u.upd.fuses.svn = max s.upd.fuses.svn (min s.upd.active.svn s.upd.backup.svn) ∧ imgAnswered u m.src 0 [] (u.imgArg 0)) ∧
  (∀ (s t : State) (m : OpMsg), s.imgInTurn t m 7 → s.upd.active.valid = true → s.upd.active.flag 4 = true → s.upd.active.flag 6 = false →
    ends (exec (.imageFuseNow true) s) fun u => u.upd.active = s.upd.active ∧ u.upd.fuses.svn = max s.upd.fuses.svn s.upd.active.svn ∧
      u.upd.backup = (if s.upd.backup.desc.isSome && decide (s.upd.backup.svn < max s.upd.fuses.svn s.upd.active.svn) then
        { s.upd.backup with desc := none } else s.upd.backup) ∧ imgAnswered u m.src 0 [] (u.imgArg 0)) ∧
  (∀ (s : State), s.operating → s.keeper.running = true → s.upd.inProbation = true → s.upd.reverting = false → s.upd.bootedBackup = false →
    s.upd.heelSeen = true →
    ends (exec (.updConfirm true) s) fun u => u.upd.active = s.upd.active.set 4 ∧ u.upd.probation = none ∧ u.upd.lastUcode = 0 ∧
      u.upd.fuses.svn = max s.upd.fuses.svn (min s.upd.active.svn s.upd.backup.svn)) ∧
  (∀ (s : State) (nor : Bool), s.operating → s.keeper.running = true → s.upd.inProbation = false → s.upd.reverting = false →
    ends (exec (.updConfirm nor) s) fun u => u = s.setUpd { s.upd with lastUcode := 0xD }) ∧
  (∀ (s : State), s.operating → s.keeper.running = true → s.upd.active.valid = true → s.upd.active.flag 4 = true → s.upd.active.flag 6 = false →
    ends (exec (.updFuseNow true) s) fun u => u.upd.active = s.upd.active ∧ u.upd.fuses.svn = max s.upd.fuses.svn s.upd.active.svn ∧ u.upd.lastUcode = 0) ∧
  (∀ (s : State), s.operating → ends (exec .updAbort s) fun u => u = s.setUpd { s.upd with claim := none }) ∧
  (∀ (s : State) (c : Claim), s.operating → s.upd.claim = some c → s.appends →
    s.repeats 0x201 3 (leBytes 1 c.holder ++ zeros 3 ++ leBytes 4 c.next ++ zeros 8) = false →
    ends (exec .claimLapse s) fun u => u.upd = { s.upd with claim := none } ∧ recorded u s 0x201 3 (leBytes 1 c.holder ++ zeros 3 ++ leBytes 4 c.next ++ zeros 8)) ∧
  (∀ (s : State) (p : Nat × Nat), s.operating → s.upd.probation = some p → s.modeNow = .serve → s.power.reqBusy = false → s.power.waking = false →
    ends (exec .probationExpiry s) fun u => u.upd = { s.upd with active := s.upd.active.set 5, probation := none } ∧ u.modeNow = .drain ∧
      u.power.drainAfter = 0) ∧
  (∀ (s : State), s.operating → s.upd.fuseOp = none → s.modeNow = .heel →
    (blankFuse s.upd.fuses.opImage = true → ends (exec .fuseOpImageAnchor s) fun u => u.upd = { s.upd with fuseOp := some (1, 0) } ∧ u.fld 0x40044 2 0 = 1) ∧
    (blankFuse s.upd.fuses.opHandler = true → ends (exec .fuseOpHandlerAnchor s) fun u => u.upd = { s.upd with fuseOp := some (2, 0) } ∧ u.fld 0x40044 2 0 = 1) ∧
    (blankFuse s.upd.fuses.mgmtKey = true → ends (exec .fuseMgmtKey s) fun u => u.upd = { s.upd with fuseOp := some (3, 0) } ∧ u.fld 0x40044 2 0 = 1) ∧
    (blankFuse s.upd.fuses.opImage = false → ends (exec .fuseOpImageAnchor s) fun u => u.upd = s.upd ∧ u.fld 0x40044 2 0 = 4)) ∧
  (∀ (s : State) (a : BitVec 2), s.operating → s.upd.fuseOp = none → s.modeNow = .heel → bit s.upd.fuses.revoked a.toNat = false →
    s.upd.active.valid = false → s.upd.backup.valid = false →
    ends (exec (.fuseRevoke a) s) fun u => u.upd = { s.upd with fuseOp := some (4, a.toNat) } ∧ u.fld 0x40044 2 0 = 1) ∧
  (∀ (s : State) (a : BitVec 2), s.operating → s.upd.fuseOp = none → s.modeNow ≠ .heel →
    ends (exec (.fuseRevoke a) s) fun u => u.upd = s.upd ∧ u.fld 0x40044 2 0 = 4) ∧
  (∀ (s : State) (op a : Nat), s.operating → s.upd.fuseOp = some (op, a) →
    ends (exec .fuseProgramDone s) fun u => u.upd.fuseOp = none ∧ u.fld 0x40044 2 0 = 2 ∧
      u.upd.fuses.opImage = (if op = 1 then s.fuseBytes else s.upd.fuses.opImage) ∧
      u.upd.fuses.opHandler = (if op = 2 then s.fuseBytes else s.upd.fuses.opHandler) ∧
      u.upd.fuses.mgmtKey = (if op = 3 then s.fuseBytes else s.upd.fuses.mgmtKey) ∧ u.upd.fuses.svn = s.upd.fuses.svn ∧
      (op = 4 → bit u.upd.fuses.revoked a = true))

/-- O54. Test mode (R550, R553, R554, R555, R556, R557, R558, R559, R560, R565, R566, R567). -/
def Obligations.TestUnitResults : Prop :=
  (∀ (s : State) (p : Fin 2) (d : BitVec 3) (lane : Fin 4) (b : Byte) (h : Half) (g : BitVec 15), s.serving → s.armed = false →
    (ends (exec (.netLoopbackSelect p d) s) fun u => u = s) ∧ (ends (exec (.pckLoopbackSelect lane d) s) fun u => u = s) ∧
    (ends (exec (.dramLoopbackSelect b) s) fun u => u = s) ∧ (ends (exec (.flashLoopbackSelect h) s) fun u => u = s) ∧
    (ends (exec (.bistGo g) s) fun u => u = s) ∧ (ends (exec (.fgFrameSend p) s) fun u => u = s)) ∧
  (∀ (s : State) (p : Fin 2) (d : BitVec 3), s.serving → s.armed = true → 1 ≤ d.toNat → d.toNat ≤ 4 → s.fld (0x10900010 + 4 * p) 2 0 ≠ d.toNat →
    ends (exec (.netLoopbackSelect p d) s) fun u => u.fld (0x10900010 + 4 * p) 2 0 = d.toNat ∧ u.linkUp p = decide (d.toNat ≤ 2) ∧ (u.port p).txq = []) ∧
  (∀ (s : State) (p : Fin 2), s.serving → s.armed = true → s.fld (0x10900010 + 4 * p) 2 0 ≠ 0 →
    ends (exec (.netLoopbackSelect p 0) s) fun u => u.fld (0x10900010 + 4 * p) 2 0 = 0 ∧ u.linkUp p = false ∧
      ((s.fld (macBase p) 9 8 ≠ 0 ∨ s.flag (macBase p + 0x20C) 2 = false) →
        u.portState p = (if s.flag (macBase p) 0 && fecOk (fSPEED p s) (s.fld (macBase p) 7 6) then 1 else 0))) ∧
  (∀ (s : State) (lane : Fin 4) (d : BitVec 3), s.serving → s.armed = true → (d = 3 ∨ d = 4) → s.pckUp = true → s.flag rPckStatus lane = true →
    s.fld 0x10900018 (4 * lane + 2) (4 * lane) ≠ d.toNat →
    ends (exec (.pckLoopbackSelect lane d) s) fun u => u.fld 0x10900018 (4 * lane + 2) (4 * lane) = d.toNat ∧ u.flag rPckStatus lane = false ∧
      u.flag rPckStatus 4 = false ∧ u.ringUp = false) ∧
  (∀ (s : State) (b : Byte), s.serving → s.armed = true →
    ends (exec (.dramLoopbackSelect b) s) fun u => u.rd 0x1090001C = b.toNat ∧ (b ≠ 0 → u.flag rDrcStatus 0 = false) ∧ { u with csr := s.csr } = s) ∧
  (∀ (s : State) (h : Half), s.serving → s.armed = true →
    ends (exec (.flashLoopbackSelect h) s) fun u => u.rd 0x10900020 = h.toNat ∧ u.mem = s.mem ∧
      ((List.range 16).all fun c => (!bit (s.fld 0x10900020 15 0) c || bit h.toNat c) || u.st.initing.contains c) = true) ∧
  (∀ (s : State) (d : BitVec 3) (tm : Byte), s.operating → s.testShown = true → (d = 2 ∨ d = 3 ∨ d = 4) → tm ≠ 0 →
    ends (exec (.mgtLoopbackSelect d tm) s) fun u => u.fld 0x50030 2 0 = d.toNat ∧ u.fld 0x50030 15 8 = tm.toNat ∧ u.flag 0x50004 0 = decide (d = 2) ∧
      { u with csr := s.csr } = s) ∧
  (∀ (s : State) (d : BitVec 3) (tm : Byte), s.operating → s.testShown = false → ends (exec (.mgtLoopbackSelect d tm) s) fun u => u = s) ∧
  (∀ (s : State), s.operating → ends (exec .mgtTestTimeout s) fun u => u.fld 0x50030 2 0 = 0 ∧ u.fld 0x50030 15 8 = s.fld 0x50030 15 8 ∧
      (s.mgtDepth ≠ 0 → u.flag 0x50004 0 = false) ∧ { u with csr := s.csr } = s) ∧
  (∀ (s : State), s.operating → s.testShown = true → s.flag 0x200 0 = false →
    ends (exec .norLoopback s) fun u => u.flag 0x200 0 = !s.norBusy ∧ u.flag 0x200 3 = (s.norBusy || s.flag 0x200 3) ∧ { u with csr := s.csr } = s) ∧
  (∀ (s : State) (f : BitVec 9), s.operating → s.flag 0x200 0 = true →
    ends (exec (.norLoopbackDone f) s) fun u => u.flag 0x200 0 = false ∧ u.flag 0x200 1 = true ∧ u.flag 0x200 2 = decide (f ≠ 0) ∧ u.fld 0x200 16 8 = f.toNat ∧
      { u with csr := s.csr } = s) ∧
  (∀ (s : State) (l : Fin 37), s.corrupt = false → s.laneArmed l = true → s.flag (prbsCtl l) 9 = true → s.patOk l (bits (s.rd (prbsCtl l)) 4 4) = true →
    ends (exec (.prbsLock l) s) fun u => u.prbsLocked l = true ∧ { u with csr := s.csr } = s) ∧
  (∀ (s : State) (l : Fin 37) (errs : DWord) (fail : BitVec 18), s.corrupt = false → s.laneArmed l = true → s.prbsLocked l = true →
    ends (exec (.prbsLockLost l errs fail) s) fun u => u.prbsLocked l = false ∧ u.flag (prbsStat l).1 ((prbsStat l).2 + 1) = true ∧
      u.c64 (prbsBits l + 8) = (s.c64 (prbsBits l + 8) + errs.toNat) % 2 ^ 64 ∧
      { u with csr := s.csr } = s) ∧
  (∀ (s : State) (l : Fin 37), s.corrupt = false → s.laneArmed l = true → s.flag (prbsCtl l) 8 = true → s.patOk l (bits (s.rd (prbsCtl l)) 0 4) = true →
    s.laneLoops l = true → s.prbsLocked l = true →
    ends (exec (.prbsInject l) s) fun u => u.c64 (prbsBits l + 8) = (s.c64 (prbsBits l + 8) + 1) % 2 ^ 64 ∧ u.prbsLocked l = true ∧ { u with csr := s.csr } = s) ∧
  (∀ (s : State) (p : Fin 2), s.serving → s.armed = true → s.flag (fgBase p) 14 = true → s.rd (fgBase p + 4) = 0 → s.portTakes p = true →
    64 ≤ s.fld (fgBase p) 13 0 → (s.port p).txRoom (s.fld (fgBase p) 13 0 - 4) = true →
    ends (exec (.fgFrameSend p) s) fun u => countsOne u s (fgBase p + 8) ∧ mgetD u.tst.fgSeq p 0 = (mgetD s.tst.fgSeq p 0 + 1) % 2 ^ 32 ∧
      ((u.port p).txq.drop (s.port p).txq.length).map (fun f => (f.bytes.take 18, f.bytes.length, f.prio)) =
        [(s.portMac p ++ s.portMac p ++ beBytes 2 0x88B5 ++ beBytes 4 (mgetD s.tst.fgSeq p 0), s.fld (fgBase p) 13 0 - 4, s.fld (fgBase p) 18 16)]) ∧
  (∀ (s : State) (g : BitVec 15), s.serving → s.armed = true → s.flag rBistCtl 31 = false → bit g.toNat 14 = false →
    ends (exec (.bistGo g) s) fun u => u.flag rBistCtl 31 = true ∧ u.fld rBistCtl 14 0 = g.toNat ∧ u.tst.bist = g.toNat ∧ { u with csr := s.csr, tst := s.tst } = s ∧
      ((List.range 15).all fun i => bit (u.rd rBistStatus) i == (bit g.toNat i && s.targetBusy i)) = true ∧
      u.flag rBistStatus 17 = (List.range 15).any fun i => bit g.toNat i && s.targetBusy i) ∧
  (∀ (s : State) (g : BitVec 15), s.serving → s.armed = true → s.flag rBistCtl 31 = false → bit g.toNat 14 = true →
    ends (exec (.bistGo g) s) fun u => u.cph.slots = [] ∧ u.cph.collars = [] ∧ u.flag rBistCtl 31 = true) ∧
  (∀ (s : State) (fail : BitVec 15) (a : BitVec 28), s.serving → s.flag rBistCtl 31 = true → s.fld rBistStatus 15 0 = 0 →
    (bit s.tst.bist 10 = true → ends (exec (.bistComplete fail a) s) fun u => u.mem.vcache = []) ∧
    (ends (exec (.bistComplete fail a) s) fun u => u.flag rBistCtl 31 = false ∧ u.flag rBistStatus 16 = true ∧ u.flag rBistStatus 17 = false ∧
      ((List.range 15).all fun i => bit (u.rd rBistStatus) i == (bit s.tst.bist i && bit fail.toNat i)) = true ∧
      (fail.toNat &&& s.tst.bist ≠ 0 → u.rd 0x10900038 = a.toNat)))

/-- O55. The test access port (R562, R563, R564, 15_loopback_and_test.md Table 15-4). -/
def Obligations.TestPortResults : Prop :=
  (∀ (s : State), s.power.aon = true →
    (∀ i n, (i = .extest ∧ n = 0 ∨ i = .clamp ∧ n = 3 ∨ i = .extestPulse ∧ n = 5 ∨ i = .extestTrain ∧ n = 6) →
      ends (exec i s) fun u => u = { s with jtag := { s.jtag with ir := n, driven := s.jtag.cells }, corrupt := true }) ∧
    (ends (exec .highz s) fun u => u = { s with jtag := { s.jtag with ir := 4 }, corrupt := true }) ∧
    (ends (exec .idcode s) fun u => u = { s with jtag := { s.jtag with ir := 1 }, corrupt := s.corrupt && s.power.porstHigh, readData := [0xB9640C3D] }) ∧
    (ends (exec .bypass s) fun u => u = { s with jtag := { s.jtag with ir := 0xFF }, corrupt := s.corrupt && s.power.porstHigh }) ∧
    (ends (exec .trst s) fun u => u = { s with jtag := Tap.reset, corrupt := s.corrupt && s.power.porstHigh }) ∧
    ∀ pins load : Bytes, pins.length = 356 → load.length = 356 → ends (exec (.samplePreload pins load) s) fun u =>
      u = { s with jtag := { s.jtag with ir := 2, cells := load }, corrupt := s.corrupt && s.power.porstHigh, readData := pins.map (·.toNat) }) ∧
  (∀ (s : State) (i : Instr), s.corrupt = true → i ≠ .extest → i ≠ .clamp → i ≠ .extestPulse → i ≠ .extestTrain → i ≠ .highz → i ≠ .idcode → i ≠ .bypass →
    i ≠ .trst → i ≠ .aonPor → (∀ pins load, i ≠ .samplePreload pins load) → (∀ e, i ≠ .porst e) → exec i s = .fault .functionalStateUndefined)

/-- O56. A step runs the command at the front of its queue (95_what_each_step_holds.md, 98_reader.md). -/
def Obligations.StepRunsTheFrontCommand : Prop :=
  (∀ (s : State) (c : Instr) (rest : List Instr), s.pending = c :: rest → step s = exec c { s with pending := rest }) ∧
  (∀ s : State, s.pending = [] → step s = .next s.tick) ∧
  (∀ (s : State) (nbits w : Nat), s.withFetchWord nbits w = { s with pending := (decodeTableWord nbits w).toList ++ s.pending })

/-- O57. Every command answers a next state while the functional state is defined (R564, 00_scope.md). -/
def Obligations.EveryCommandAnswers : Prop :=
  ∀ (i : Instr) (s : State), s.corrupt = false → ∃ u, exec i s = .next u ∧ u.pending = s.pending

/-- O58. While a pin-driving instruction stands in the test access port the functional state is undefined, at every step (R563, R564). -/
def Obligations.PinDrivingLeavesTheStateUndefined : Prop :=
  (∀ s t : State, (s.jtag.drives = true → s.corrupt = true) → step s = .next t → (t.jtag.drives = true → t.corrupt = true)) ∧
  (∀ (s t : State) (c : Instr) (rest : List Instr), s.corrupt = true → s.pending = c :: rest → step s = .next t →
    t.corrupt = true ∨ (∃ e, c = .porst e) ∨ c = .aonPor ∨ (s.power.porstHigh = false ∧ (c = .idcode ∨ c = .bypass ∨ c = .trst ∨ ∃ p l, c = .samplePreload p l)))

/-- O59. The machine after reset (R463, R562, 11_operating_modes.md Table 11-9, 13_trail.md Table 13-7). -/
def Obligations.ResetState : Prop :=
  State.reset.pending = [] ∧ State.reset.canonical ∧ State.reset.mem = Mems.reset ∧ State.reset.jtag.drives = false ∧ State.reset.corrupt = false ∧
  State.reset.rd rPwrCause = 1 ∧ State.reset.rd rTrlCtl = 3 ∧ State.reset.svPresent = false ∧ State.reset.ks.keys = [] ∧ State.reset.ft.sessions = [] ∧
  State.reset.ft.frames = [] ∧ State.reset.cph.slots = [] ∧ State.reset.ks.cursors = [] ∧ State.reset.ks.snaps = []

/-- O60. A command of a plane in reset has no effect (R28, R463, 11_operating_modes.md Table 11-4). -/
def Obligations.PlaneInResetTakesNoCommand : Prop :=
  (∀ (s : State) (i : Instr), s.corrupt = false → s.svUp = false →
    ((∃ t rd rs1 rs2, i = .add t rd rs1 rs2) ∨ (∃ t rd rs1 imm up, i = .ld t rd rs1 imm up) ∨ (∃ t rd rs1, i = .dma t rd rs1) ∨ (∃ t rd rs1, i = .gcmEnc t rd rs1) ∨
      (∃ t rd rs1, i = .flashRead t rd rs1) ∨ (∃ id st, i = .put id st) ∨ (∃ id b, i = .get id b) ∨ (∃ id b, i = .scan id b) ∨ (∃ p, i = .linkUp p) ∨
      (∃ p raw g, i = .macRxFrame p raw g) ∨ (∃ l, i = .packLaneLockLost l) ∨ i = .noseInitComplete ∨ i = .cfgWrite ∨ i = .cfgCommit ∨ i = .trickLoad ∨ i = .flushPass ∨ i = .dramInitComplete ∨
      i = .keyWrite ∨ (∃ m, i = .bistGo m) ∨ i = .phcStep) →
    exec i s = .next s) ∧
  (∀ (s : State) (i : Instr), s.corrupt = false → s.opUp = false →
    (i = .requestServe ∨ i = .trlAppGo ∨ i = .event ∨ i = .alarm ∨ i = .cfgResult ∨ i = .wdogKick ∨ i = .fenTxPush ∨ i = .updAbort ∨ i = .fuseProgramDone ∨
      (∃ n, i = .imageBegin n) ∨ (∃ raw g, i = .mgtRxFrame raw g)) →
    exec i s = .next s)
end

