-- ==== Sys2Proof/Laws/State.lean ====
section
/-! SUPPORT. What each record update of the state leaves as it was and what it sets, field by field. -/
namespace Sys2Proof.Machine

@[simp] theorem State.setKs_pending (s : State) (x : Keyspace) : (s.setKs x).pending = s.pending := rfl
@[simp] theorem State.setKs_now (s : State) (x : Keyspace) : (s.setKs x).now = s.now := rfl
@[simp] theorem State.setKs_free (s : State) (x : Keyspace) : (s.setKs x).free = s.free := rfl
@[simp] theorem State.setKs_readData (s : State) (x : Keyspace) : (s.setKs x).readData = s.readData := rfl
@[simp] theorem State.setKs_csr (s : State) (x : Keyspace) : (s.setKs x).csr = s.csr := rfl
@[simp] theorem State.setKs_phc (s : State) (x : Keyspace) : (s.setKs x).phc = s.phc := rfl
@[simp] theorem State.setKs_mem (s : State) (x : Keyspace) : (s.setKs x).mem = s.mem := rfl
@[simp] theorem State.setKs_threads (s : State) (x : Keyspace) : (s.setKs x).threads = s.threads := rfl
@[simp] theorem State.setKs_engines (s : State) (x : Keyspace) : (s.setKs x).engines = s.engines := rfl
@[simp] theorem State.setKs_disp (s : State) (x : Keyspace) : (s.setKs x).disp = s.disp := rfl
@[simp] theorem State.setKs_jobs (s : State) (x : Keyspace) : (s.setKs x).jobs = s.jobs := rfl
@[simp] theorem State.setKs_tricks (s : State) (x : Keyspace) : (s.setKs x).tricks = s.tricks := rfl
@[simp] theorem State.setKs_ks (s : State) (x : Keyspace) : (s.setKs x).ks = x := rfl
@[simp] theorem State.setKs_ft (s : State) (x : Keyspace) : (s.setKs x).ft = s.ft := rfl
@[simp] theorem State.setKs_nose (s : State) (x : Keyspace) : (s.setKs x).nose = s.nose := rfl
@[simp] theorem State.setKs_pack (s : State) (x : Keyspace) : (s.setKs x).pack = s.pack := rfl
@[simp] theorem State.setKs_st (s : State) (x : Keyspace) : (s.setKs x).st = s.st := rfl
@[simp] theorem State.setKs_net (s : State) (x : Keyspace) : (s.setKs x).net = s.net := rfl
@[simp] theorem State.setKs_cph (s : State) (x : Keyspace) : (s.setKs x).cph = s.cph := rfl
@[simp] theorem State.setKs_drc (s : State) (x : Keyspace) : (s.setKs x).drc = s.drc := rfl
@[simp] theorem State.setKs_fence (s : State) (x : Keyspace) : (s.setKs x).fence = s.fence := rfl
@[simp] theorem State.setKs_cfg (s : State) (x : Keyspace) : (s.setKs x).cfg = s.cfg := rfl
@[simp] theorem State.setKs_keeper (s : State) (x : Keyspace) : (s.setKs x).keeper = s.keeper := rfl
@[simp] theorem State.setKs_trail (s : State) (x : Keyspace) : (s.setKs x).trail = s.trail := rfl
@[simp] theorem State.setKs_power (s : State) (x : Keyspace) : (s.setKs x).power = s.power := rfl
@[simp] theorem State.setKs_brace (s : State) (x : Keyspace) : (s.setKs x).brace = s.brace := rfl
@[simp] theorem State.setKs_upd (s : State) (x : Keyspace) : (s.setKs x).upd = s.upd := rfl
@[simp] theorem State.setKs_tst (s : State) (x : Keyspace) : (s.setKs x).tst = s.tst := rfl
@[simp] theorem State.setKs_jtag (s : State) (x : Keyspace) : (s.setKs x).jtag = s.jtag := rfl
@[simp] theorem State.setKs_corrupt (s : State) (x : Keyspace) : (s.setKs x).corrupt = s.corrupt := rfl
@[simp] theorem State.setKs_rd (s : State) (x : Keyspace) (a : Nat) : (s.setKs x).rd a = s.rd a := rfl
@[simp] theorem State.setKs_c64 (s : State) (x : Keyspace) (a : Nat) : (s.setKs x).c64 a = s.c64 a := rfl
@[simp] theorem State.setKs_flag (s : State) (x : Keyspace) (a i : Nat) : (s.setKs x).flag a i = s.flag a i := rfl
@[simp] theorem State.setKs_fld (s : State) (x : Keyspace) (a hi lo : Nat) : (s.setKs x).fld a hi lo = s.fld a hi lo := rfl
@[simp] theorem State.setKs_th (s : State) (x : Keyspace) (t : Nat) : (s.setKs x).th t = s.th t := rfl
@[simp] theorem State.setKs_en (s : State) (x : Keyspace) (e : Nat) : (s.setKs x).en e = s.en e := rfl

@[simp] theorem State.setFt_pending (s : State) (x : FetchSt) : (s.setFt x).pending = s.pending := rfl
@[simp] theorem State.setFt_now (s : State) (x : FetchSt) : (s.setFt x).now = s.now := rfl
@[simp] theorem State.setFt_free (s : State) (x : FetchSt) : (s.setFt x).free = s.free := rfl
@[simp] theorem State.setFt_readData (s : State) (x : FetchSt) : (s.setFt x).readData = s.readData := rfl
@[simp] theorem State.setFt_csr (s : State) (x : FetchSt) : (s.setFt x).csr = s.csr := rfl
@[simp] theorem State.setFt_phc (s : State) (x : FetchSt) : (s.setFt x).phc = s.phc := rfl
@[simp] theorem State.setFt_mem (s : State) (x : FetchSt) : (s.setFt x).mem = s.mem := rfl
@[simp] theorem State.setFt_threads (s : State) (x : FetchSt) : (s.setFt x).threads = s.threads := rfl
@[simp] theorem State.setFt_engines (s : State) (x : FetchSt) : (s.setFt x).engines = s.engines := rfl
@[simp] theorem State.setFt_disp (s : State) (x : FetchSt) : (s.setFt x).disp = s.disp := rfl
@[simp] theorem State.setFt_jobs (s : State) (x : FetchSt) : (s.setFt x).jobs = s.jobs := rfl
@[simp] theorem State.setFt_tricks (s : State) (x : FetchSt) : (s.setFt x).tricks = s.tricks := rfl
@[simp] theorem State.setFt_ks (s : State) (x : FetchSt) : (s.setFt x).ks = s.ks := rfl
@[simp] theorem State.setFt_ft (s : State) (x : FetchSt) : (s.setFt x).ft = x := rfl
@[simp] theorem State.setFt_nose (s : State) (x : FetchSt) : (s.setFt x).nose = s.nose := rfl
@[simp] theorem State.setFt_pack (s : State) (x : FetchSt) : (s.setFt x).pack = s.pack := rfl
@[simp] theorem State.setFt_st (s : State) (x : FetchSt) : (s.setFt x).st = s.st := rfl
@[simp] theorem State.setFt_net (s : State) (x : FetchSt) : (s.setFt x).net = s.net := rfl
@[simp] theorem State.setFt_cph (s : State) (x : FetchSt) : (s.setFt x).cph = s.cph := rfl
@[simp] theorem State.setFt_drc (s : State) (x : FetchSt) : (s.setFt x).drc = s.drc := rfl
@[simp] theorem State.setFt_fence (s : State) (x : FetchSt) : (s.setFt x).fence = s.fence := rfl
@[simp] theorem State.setFt_cfg (s : State) (x : FetchSt) : (s.setFt x).cfg = s.cfg := rfl
@[simp] theorem State.setFt_keeper (s : State) (x : FetchSt) : (s.setFt x).keeper = s.keeper := rfl
@[simp] theorem State.setFt_trail (s : State) (x : FetchSt) : (s.setFt x).trail = s.trail := rfl
@[simp] theorem State.setFt_power (s : State) (x : FetchSt) : (s.setFt x).power = s.power := rfl
@[simp] theorem State.setFt_brace (s : State) (x : FetchSt) : (s.setFt x).brace = s.brace := rfl
@[simp] theorem State.setFt_upd (s : State) (x : FetchSt) : (s.setFt x).upd = s.upd := rfl
@[simp] theorem State.setFt_tst (s : State) (x : FetchSt) : (s.setFt x).tst = s.tst := rfl
@[simp] theorem State.setFt_jtag (s : State) (x : FetchSt) : (s.setFt x).jtag = s.jtag := rfl
@[simp] theorem State.setFt_corrupt (s : State) (x : FetchSt) : (s.setFt x).corrupt = s.corrupt := rfl
@[simp] theorem State.setFt_rd (s : State) (x : FetchSt) (a : Nat) : (s.setFt x).rd a = s.rd a := rfl
@[simp] theorem State.setFt_c64 (s : State) (x : FetchSt) (a : Nat) : (s.setFt x).c64 a = s.c64 a := rfl
@[simp] theorem State.setFt_flag (s : State) (x : FetchSt) (a i : Nat) : (s.setFt x).flag a i = s.flag a i := rfl
@[simp] theorem State.setFt_fld (s : State) (x : FetchSt) (a hi lo : Nat) : (s.setFt x).fld a hi lo = s.fld a hi lo := rfl
@[simp] theorem State.setFt_th (s : State) (x : FetchSt) (t : Nat) : (s.setFt x).th t = s.th t := rfl
@[simp] theorem State.setFt_en (s : State) (x : FetchSt) (e : Nat) : (s.setFt x).en e = s.en e := rfl

@[simp] theorem State.setNose_pending (s : State) (x : Nose) : (s.setNose x).pending = s.pending := rfl
@[simp] theorem State.setNose_now (s : State) (x : Nose) : (s.setNose x).now = s.now := rfl
@[simp] theorem State.setNose_free (s : State) (x : Nose) : (s.setNose x).free = s.free := rfl
@[simp] theorem State.setNose_readData (s : State) (x : Nose) : (s.setNose x).readData = s.readData := rfl
@[simp] theorem State.setNose_csr (s : State) (x : Nose) : (s.setNose x).csr = s.csr := rfl
@[simp] theorem State.setNose_phc (s : State) (x : Nose) : (s.setNose x).phc = s.phc := rfl
@[simp] theorem State.setNose_mem (s : State) (x : Nose) : (s.setNose x).mem = s.mem := rfl
@[simp] theorem State.setNose_threads (s : State) (x : Nose) : (s.setNose x).threads = s.threads := rfl
@[simp] theorem State.setNose_engines (s : State) (x : Nose) : (s.setNose x).engines = s.engines := rfl
@[simp] theorem State.setNose_disp (s : State) (x : Nose) : (s.setNose x).disp = s.disp := rfl
@[simp] theorem State.setNose_jobs (s : State) (x : Nose) : (s.setNose x).jobs = s.jobs := rfl
@[simp] theorem State.setNose_tricks (s : State) (x : Nose) : (s.setNose x).tricks = s.tricks := rfl
@[simp] theorem State.setNose_ks (s : State) (x : Nose) : (s.setNose x).ks = s.ks := rfl
@[simp] theorem State.setNose_ft (s : State) (x : Nose) : (s.setNose x).ft = s.ft := rfl
@[simp] theorem State.setNose_nose (s : State) (x : Nose) : (s.setNose x).nose = x := rfl
@[simp] theorem State.setNose_pack (s : State) (x : Nose) : (s.setNose x).pack = s.pack := rfl
@[simp] theorem State.setNose_st (s : State) (x : Nose) : (s.setNose x).st = s.st := rfl
@[simp] theorem State.setNose_net (s : State) (x : Nose) : (s.setNose x).net = s.net := rfl
@[simp] theorem State.setNose_cph (s : State) (x : Nose) : (s.setNose x).cph = s.cph := rfl
@[simp] theorem State.setNose_drc (s : State) (x : Nose) : (s.setNose x).drc = s.drc := rfl
@[simp] theorem State.setNose_fence (s : State) (x : Nose) : (s.setNose x).fence = s.fence := rfl
@[simp] theorem State.setNose_cfg (s : State) (x : Nose) : (s.setNose x).cfg = s.cfg := rfl
@[simp] theorem State.setNose_keeper (s : State) (x : Nose) : (s.setNose x).keeper = s.keeper := rfl
@[simp] theorem State.setNose_trail (s : State) (x : Nose) : (s.setNose x).trail = s.trail := rfl
@[simp] theorem State.setNose_power (s : State) (x : Nose) : (s.setNose x).power = s.power := rfl
@[simp] theorem State.setNose_brace (s : State) (x : Nose) : (s.setNose x).brace = s.brace := rfl
@[simp] theorem State.setNose_upd (s : State) (x : Nose) : (s.setNose x).upd = s.upd := rfl
@[simp] theorem State.setNose_tst (s : State) (x : Nose) : (s.setNose x).tst = s.tst := rfl
@[simp] theorem State.setNose_jtag (s : State) (x : Nose) : (s.setNose x).jtag = s.jtag := rfl
@[simp] theorem State.setNose_corrupt (s : State) (x : Nose) : (s.setNose x).corrupt = s.corrupt := rfl
@[simp] theorem State.setNose_rd (s : State) (x : Nose) (a : Nat) : (s.setNose x).rd a = s.rd a := rfl
@[simp] theorem State.setNose_c64 (s : State) (x : Nose) (a : Nat) : (s.setNose x).c64 a = s.c64 a := rfl
@[simp] theorem State.setNose_flag (s : State) (x : Nose) (a i : Nat) : (s.setNose x).flag a i = s.flag a i := rfl
@[simp] theorem State.setNose_fld (s : State) (x : Nose) (a hi lo : Nat) : (s.setNose x).fld a hi lo = s.fld a hi lo := rfl
@[simp] theorem State.setNose_th (s : State) (x : Nose) (t : Nat) : (s.setNose x).th t = s.th t := rfl
@[simp] theorem State.setNose_en (s : State) (x : Nose) (e : Nat) : (s.setNose x).en e = s.en e := rfl

@[simp] theorem State.setPack_pending (s : State) (x : Pack) : (s.setPack x).pending = s.pending := rfl
@[simp] theorem State.setPack_now (s : State) (x : Pack) : (s.setPack x).now = s.now := rfl
@[simp] theorem State.setPack_free (s : State) (x : Pack) : (s.setPack x).free = s.free := rfl
@[simp] theorem State.setPack_readData (s : State) (x : Pack) : (s.setPack x).readData = s.readData := rfl
@[simp] theorem State.setPack_csr (s : State) (x : Pack) : (s.setPack x).csr = s.csr := rfl
@[simp] theorem State.setPack_phc (s : State) (x : Pack) : (s.setPack x).phc = s.phc := rfl
@[simp] theorem State.setPack_mem (s : State) (x : Pack) : (s.setPack x).mem = s.mem := rfl
@[simp] theorem State.setPack_threads (s : State) (x : Pack) : (s.setPack x).threads = s.threads := rfl
@[simp] theorem State.setPack_engines (s : State) (x : Pack) : (s.setPack x).engines = s.engines := rfl
@[simp] theorem State.setPack_disp (s : State) (x : Pack) : (s.setPack x).disp = s.disp := rfl
@[simp] theorem State.setPack_jobs (s : State) (x : Pack) : (s.setPack x).jobs = s.jobs := rfl
@[simp] theorem State.setPack_tricks (s : State) (x : Pack) : (s.setPack x).tricks = s.tricks := rfl
@[simp] theorem State.setPack_ks (s : State) (x : Pack) : (s.setPack x).ks = s.ks := rfl
@[simp] theorem State.setPack_ft (s : State) (x : Pack) : (s.setPack x).ft = s.ft := rfl
@[simp] theorem State.setPack_nose (s : State) (x : Pack) : (s.setPack x).nose = s.nose := rfl
@[simp] theorem State.setPack_pack (s : State) (x : Pack) : (s.setPack x).pack = x := rfl
@[simp] theorem State.setPack_st (s : State) (x : Pack) : (s.setPack x).st = s.st := rfl
@[simp] theorem State.setPack_net (s : State) (x : Pack) : (s.setPack x).net = s.net := rfl
@[simp] theorem State.setPack_cph (s : State) (x : Pack) : (s.setPack x).cph = s.cph := rfl
@[simp] theorem State.setPack_drc (s : State) (x : Pack) : (s.setPack x).drc = s.drc := rfl
@[simp] theorem State.setPack_fence (s : State) (x : Pack) : (s.setPack x).fence = s.fence := rfl
@[simp] theorem State.setPack_cfg (s : State) (x : Pack) : (s.setPack x).cfg = s.cfg := rfl
@[simp] theorem State.setPack_keeper (s : State) (x : Pack) : (s.setPack x).keeper = s.keeper := rfl
@[simp] theorem State.setPack_trail (s : State) (x : Pack) : (s.setPack x).trail = s.trail := rfl
@[simp] theorem State.setPack_power (s : State) (x : Pack) : (s.setPack x).power = s.power := rfl
@[simp] theorem State.setPack_brace (s : State) (x : Pack) : (s.setPack x).brace = s.brace := rfl
@[simp] theorem State.setPack_upd (s : State) (x : Pack) : (s.setPack x).upd = s.upd := rfl
@[simp] theorem State.setPack_tst (s : State) (x : Pack) : (s.setPack x).tst = s.tst := rfl
@[simp] theorem State.setPack_jtag (s : State) (x : Pack) : (s.setPack x).jtag = s.jtag := rfl
@[simp] theorem State.setPack_corrupt (s : State) (x : Pack) : (s.setPack x).corrupt = s.corrupt := rfl
@[simp] theorem State.setPack_rd (s : State) (x : Pack) (a : Nat) : (s.setPack x).rd a = s.rd a := rfl
@[simp] theorem State.setPack_c64 (s : State) (x : Pack) (a : Nat) : (s.setPack x).c64 a = s.c64 a := rfl
@[simp] theorem State.setPack_flag (s : State) (x : Pack) (a i : Nat) : (s.setPack x).flag a i = s.flag a i := rfl
@[simp] theorem State.setPack_fld (s : State) (x : Pack) (a hi lo : Nat) : (s.setPack x).fld a hi lo = s.fld a hi lo := rfl
@[simp] theorem State.setPack_th (s : State) (x : Pack) (t : Nat) : (s.setPack x).th t = s.th t := rfl
@[simp] theorem State.setPack_en (s : State) (x : Pack) (e : Nat) : (s.setPack x).en e = s.en e := rfl

@[simp] theorem State.setSt_pending (s : State) (x : Storage) : (s.setSt x).pending = s.pending := rfl
@[simp] theorem State.setSt_now (s : State) (x : Storage) : (s.setSt x).now = s.now := rfl
@[simp] theorem State.setSt_free (s : State) (x : Storage) : (s.setSt x).free = s.free := rfl
@[simp] theorem State.setSt_readData (s : State) (x : Storage) : (s.setSt x).readData = s.readData := rfl
@[simp] theorem State.setSt_csr (s : State) (x : Storage) : (s.setSt x).csr = s.csr := rfl
@[simp] theorem State.setSt_phc (s : State) (x : Storage) : (s.setSt x).phc = s.phc := rfl
@[simp] theorem State.setSt_mem (s : State) (x : Storage) : (s.setSt x).mem = s.mem := rfl
@[simp] theorem State.setSt_threads (s : State) (x : Storage) : (s.setSt x).threads = s.threads := rfl
@[simp] theorem State.setSt_engines (s : State) (x : Storage) : (s.setSt x).engines = s.engines := rfl
@[simp] theorem State.setSt_disp (s : State) (x : Storage) : (s.setSt x).disp = s.disp := rfl
@[simp] theorem State.setSt_jobs (s : State) (x : Storage) : (s.setSt x).jobs = s.jobs := rfl
@[simp] theorem State.setSt_tricks (s : State) (x : Storage) : (s.setSt x).tricks = s.tricks := rfl
@[simp] theorem State.setSt_ks (s : State) (x : Storage) : (s.setSt x).ks = s.ks := rfl
@[simp] theorem State.setSt_ft (s : State) (x : Storage) : (s.setSt x).ft = s.ft := rfl
@[simp] theorem State.setSt_nose (s : State) (x : Storage) : (s.setSt x).nose = s.nose := rfl
@[simp] theorem State.setSt_pack (s : State) (x : Storage) : (s.setSt x).pack = s.pack := rfl
@[simp] theorem State.setSt_st (s : State) (x : Storage) : (s.setSt x).st = x := rfl
@[simp] theorem State.setSt_net (s : State) (x : Storage) : (s.setSt x).net = s.net := rfl
@[simp] theorem State.setSt_cph (s : State) (x : Storage) : (s.setSt x).cph = s.cph := rfl
@[simp] theorem State.setSt_drc (s : State) (x : Storage) : (s.setSt x).drc = s.drc := rfl
@[simp] theorem State.setSt_fence (s : State) (x : Storage) : (s.setSt x).fence = s.fence := rfl
@[simp] theorem State.setSt_cfg (s : State) (x : Storage) : (s.setSt x).cfg = s.cfg := rfl
@[simp] theorem State.setSt_keeper (s : State) (x : Storage) : (s.setSt x).keeper = s.keeper := rfl
@[simp] theorem State.setSt_trail (s : State) (x : Storage) : (s.setSt x).trail = s.trail := rfl
@[simp] theorem State.setSt_power (s : State) (x : Storage) : (s.setSt x).power = s.power := rfl
@[simp] theorem State.setSt_brace (s : State) (x : Storage) : (s.setSt x).brace = s.brace := rfl
@[simp] theorem State.setSt_upd (s : State) (x : Storage) : (s.setSt x).upd = s.upd := rfl
@[simp] theorem State.setSt_tst (s : State) (x : Storage) : (s.setSt x).tst = s.tst := rfl
@[simp] theorem State.setSt_jtag (s : State) (x : Storage) : (s.setSt x).jtag = s.jtag := rfl
@[simp] theorem State.setSt_corrupt (s : State) (x : Storage) : (s.setSt x).corrupt = s.corrupt := rfl
@[simp] theorem State.setSt_rd (s : State) (x : Storage) (a : Nat) : (s.setSt x).rd a = s.rd a := rfl
@[simp] theorem State.setSt_c64 (s : State) (x : Storage) (a : Nat) : (s.setSt x).c64 a = s.c64 a := rfl
@[simp] theorem State.setSt_flag (s : State) (x : Storage) (a i : Nat) : (s.setSt x).flag a i = s.flag a i := rfl
@[simp] theorem State.setSt_fld (s : State) (x : Storage) (a hi lo : Nat) : (s.setSt x).fld a hi lo = s.fld a hi lo := rfl
@[simp] theorem State.setSt_th (s : State) (x : Storage) (t : Nat) : (s.setSt x).th t = s.th t := rfl
@[simp] theorem State.setSt_en (s : State) (x : Storage) (e : Nat) : (s.setSt x).en e = s.en e := rfl

@[simp] theorem State.setMem_pending (s : State) (x : Mems) : (s.setMem x).pending = s.pending := rfl
@[simp] theorem State.setMem_now (s : State) (x : Mems) : (s.setMem x).now = s.now := rfl
@[simp] theorem State.setMem_free (s : State) (x : Mems) : (s.setMem x).free = s.free := rfl
@[simp] theorem State.setMem_readData (s : State) (x : Mems) : (s.setMem x).readData = s.readData := rfl
@[simp] theorem State.setMem_csr (s : State) (x : Mems) : (s.setMem x).csr = s.csr := rfl
@[simp] theorem State.setMem_phc (s : State) (x : Mems) : (s.setMem x).phc = s.phc := rfl
@[simp] theorem State.setMem_mem (s : State) (x : Mems) : (s.setMem x).mem = x := rfl
@[simp] theorem State.setMem_threads (s : State) (x : Mems) : (s.setMem x).threads = s.threads := rfl
@[simp] theorem State.setMem_engines (s : State) (x : Mems) : (s.setMem x).engines = s.engines := rfl
@[simp] theorem State.setMem_disp (s : State) (x : Mems) : (s.setMem x).disp = s.disp := rfl
@[simp] theorem State.setMem_jobs (s : State) (x : Mems) : (s.setMem x).jobs = s.jobs := rfl
@[simp] theorem State.setMem_tricks (s : State) (x : Mems) : (s.setMem x).tricks = s.tricks := rfl
@[simp] theorem State.setMem_ks (s : State) (x : Mems) : (s.setMem x).ks = s.ks := rfl
@[simp] theorem State.setMem_ft (s : State) (x : Mems) : (s.setMem x).ft = s.ft := rfl
@[simp] theorem State.setMem_nose (s : State) (x : Mems) : (s.setMem x).nose = s.nose := rfl
@[simp] theorem State.setMem_pack (s : State) (x : Mems) : (s.setMem x).pack = s.pack := rfl
@[simp] theorem State.setMem_st (s : State) (x : Mems) : (s.setMem x).st = s.st := rfl
@[simp] theorem State.setMem_net (s : State) (x : Mems) : (s.setMem x).net = s.net := rfl
@[simp] theorem State.setMem_cph (s : State) (x : Mems) : (s.setMem x).cph = s.cph := rfl
@[simp] theorem State.setMem_drc (s : State) (x : Mems) : (s.setMem x).drc = s.drc := rfl
@[simp] theorem State.setMem_fence (s : State) (x : Mems) : (s.setMem x).fence = s.fence := rfl
@[simp] theorem State.setMem_cfg (s : State) (x : Mems) : (s.setMem x).cfg = s.cfg := rfl
@[simp] theorem State.setMem_keeper (s : State) (x : Mems) : (s.setMem x).keeper = s.keeper := rfl
@[simp] theorem State.setMem_trail (s : State) (x : Mems) : (s.setMem x).trail = s.trail := rfl
@[simp] theorem State.setMem_power (s : State) (x : Mems) : (s.setMem x).power = s.power := rfl
@[simp] theorem State.setMem_brace (s : State) (x : Mems) : (s.setMem x).brace = s.brace := rfl
@[simp] theorem State.setMem_upd (s : State) (x : Mems) : (s.setMem x).upd = s.upd := rfl
@[simp] theorem State.setMem_tst (s : State) (x : Mems) : (s.setMem x).tst = s.tst := rfl
@[simp] theorem State.setMem_jtag (s : State) (x : Mems) : (s.setMem x).jtag = s.jtag := rfl
@[simp] theorem State.setMem_corrupt (s : State) (x : Mems) : (s.setMem x).corrupt = s.corrupt := rfl
@[simp] theorem State.setMem_rd (s : State) (x : Mems) (a : Nat) : (s.setMem x).rd a = s.rd a := rfl
@[simp] theorem State.setMem_c64 (s : State) (x : Mems) (a : Nat) : (s.setMem x).c64 a = s.c64 a := rfl
@[simp] theorem State.setMem_flag (s : State) (x : Mems) (a i : Nat) : (s.setMem x).flag a i = s.flag a i := rfl
@[simp] theorem State.setMem_fld (s : State) (x : Mems) (a hi lo : Nat) : (s.setMem x).fld a hi lo = s.fld a hi lo := rfl
@[simp] theorem State.setMem_th (s : State) (x : Mems) (t : Nat) : (s.setMem x).th t = s.th t := rfl
@[simp] theorem State.setMem_en (s : State) (x : Mems) (e : Nat) : (s.setMem x).en e = s.en e := rfl

@[simp] theorem State.setFence_pending (s : State) (x : Fence) : (s.setFence x).pending = s.pending := rfl
@[simp] theorem State.setFence_now (s : State) (x : Fence) : (s.setFence x).now = s.now := rfl
@[simp] theorem State.setFence_free (s : State) (x : Fence) : (s.setFence x).free = s.free := rfl
@[simp] theorem State.setFence_readData (s : State) (x : Fence) : (s.setFence x).readData = s.readData := rfl
@[simp] theorem State.setFence_csr (s : State) (x : Fence) : (s.setFence x).csr = s.csr := rfl
@[simp] theorem State.setFence_phc (s : State) (x : Fence) : (s.setFence x).phc = s.phc := rfl
@[simp] theorem State.setFence_mem (s : State) (x : Fence) : (s.setFence x).mem = s.mem := rfl
@[simp] theorem State.setFence_threads (s : State) (x : Fence) : (s.setFence x).threads = s.threads := rfl
@[simp] theorem State.setFence_engines (s : State) (x : Fence) : (s.setFence x).engines = s.engines := rfl
@[simp] theorem State.setFence_disp (s : State) (x : Fence) : (s.setFence x).disp = s.disp := rfl
@[simp] theorem State.setFence_jobs (s : State) (x : Fence) : (s.setFence x).jobs = s.jobs := rfl
@[simp] theorem State.setFence_tricks (s : State) (x : Fence) : (s.setFence x).tricks = s.tricks := rfl
@[simp] theorem State.setFence_ks (s : State) (x : Fence) : (s.setFence x).ks = s.ks := rfl
@[simp] theorem State.setFence_ft (s : State) (x : Fence) : (s.setFence x).ft = s.ft := rfl
@[simp] theorem State.setFence_nose (s : State) (x : Fence) : (s.setFence x).nose = s.nose := rfl
@[simp] theorem State.setFence_pack (s : State) (x : Fence) : (s.setFence x).pack = s.pack := rfl
@[simp] theorem State.setFence_st (s : State) (x : Fence) : (s.setFence x).st = s.st := rfl
@[simp] theorem State.setFence_net (s : State) (x : Fence) : (s.setFence x).net = s.net := rfl
@[simp] theorem State.setFence_cph (s : State) (x : Fence) : (s.setFence x).cph = s.cph := rfl
@[simp] theorem State.setFence_drc (s : State) (x : Fence) : (s.setFence x).drc = s.drc := rfl
@[simp] theorem State.setFence_fence (s : State) (x : Fence) : (s.setFence x).fence = x := rfl
@[simp] theorem State.setFence_cfg (s : State) (x : Fence) : (s.setFence x).cfg = s.cfg := rfl
@[simp] theorem State.setFence_keeper (s : State) (x : Fence) : (s.setFence x).keeper = s.keeper := rfl
@[simp] theorem State.setFence_trail (s : State) (x : Fence) : (s.setFence x).trail = s.trail := rfl
@[simp] theorem State.setFence_power (s : State) (x : Fence) : (s.setFence x).power = s.power := rfl
@[simp] theorem State.setFence_brace (s : State) (x : Fence) : (s.setFence x).brace = s.brace := rfl
@[simp] theorem State.setFence_upd (s : State) (x : Fence) : (s.setFence x).upd = s.upd := rfl
@[simp] theorem State.setFence_tst (s : State) (x : Fence) : (s.setFence x).tst = s.tst := rfl
@[simp] theorem State.setFence_jtag (s : State) (x : Fence) : (s.setFence x).jtag = s.jtag := rfl
@[simp] theorem State.setFence_corrupt (s : State) (x : Fence) : (s.setFence x).corrupt = s.corrupt := rfl
@[simp] theorem State.setFence_rd (s : State) (x : Fence) (a : Nat) : (s.setFence x).rd a = s.rd a := rfl
@[simp] theorem State.setFence_c64 (s : State) (x : Fence) (a : Nat) : (s.setFence x).c64 a = s.c64 a := rfl
@[simp] theorem State.setFence_flag (s : State) (x : Fence) (a i : Nat) : (s.setFence x).flag a i = s.flag a i := rfl
@[simp] theorem State.setFence_fld (s : State) (x : Fence) (a hi lo : Nat) : (s.setFence x).fld a hi lo = s.fld a hi lo := rfl
@[simp] theorem State.setFence_th (s : State) (x : Fence) (t : Nat) : (s.setFence x).th t = s.th t := rfl
@[simp] theorem State.setFence_en (s : State) (x : Fence) (e : Nat) : (s.setFence x).en e = s.en e := rfl

@[simp] theorem State.setCfg_pending (s : State) (x : Cfg) : (s.setCfg x).pending = s.pending := rfl
@[simp] theorem State.setCfg_now (s : State) (x : Cfg) : (s.setCfg x).now = s.now := rfl
@[simp] theorem State.setCfg_free (s : State) (x : Cfg) : (s.setCfg x).free = s.free := rfl
@[simp] theorem State.setCfg_readData (s : State) (x : Cfg) : (s.setCfg x).readData = s.readData := rfl
@[simp] theorem State.setCfg_csr (s : State) (x : Cfg) : (s.setCfg x).csr = s.csr := rfl
@[simp] theorem State.setCfg_phc (s : State) (x : Cfg) : (s.setCfg x).phc = s.phc := rfl
@[simp] theorem State.setCfg_mem (s : State) (x : Cfg) : (s.setCfg x).mem = s.mem := rfl
@[simp] theorem State.setCfg_threads (s : State) (x : Cfg) : (s.setCfg x).threads = s.threads := rfl
@[simp] theorem State.setCfg_engines (s : State) (x : Cfg) : (s.setCfg x).engines = s.engines := rfl
@[simp] theorem State.setCfg_disp (s : State) (x : Cfg) : (s.setCfg x).disp = s.disp := rfl
@[simp] theorem State.setCfg_jobs (s : State) (x : Cfg) : (s.setCfg x).jobs = s.jobs := rfl
@[simp] theorem State.setCfg_tricks (s : State) (x : Cfg) : (s.setCfg x).tricks = s.tricks := rfl
@[simp] theorem State.setCfg_ks (s : State) (x : Cfg) : (s.setCfg x).ks = s.ks := rfl
@[simp] theorem State.setCfg_ft (s : State) (x : Cfg) : (s.setCfg x).ft = s.ft := rfl
@[simp] theorem State.setCfg_nose (s : State) (x : Cfg) : (s.setCfg x).nose = s.nose := rfl
@[simp] theorem State.setCfg_pack (s : State) (x : Cfg) : (s.setCfg x).pack = s.pack := rfl
@[simp] theorem State.setCfg_st (s : State) (x : Cfg) : (s.setCfg x).st = s.st := rfl
@[simp] theorem State.setCfg_net (s : State) (x : Cfg) : (s.setCfg x).net = s.net := rfl
@[simp] theorem State.setCfg_cph (s : State) (x : Cfg) : (s.setCfg x).cph = s.cph := rfl
@[simp] theorem State.setCfg_drc (s : State) (x : Cfg) : (s.setCfg x).drc = s.drc := rfl
@[simp] theorem State.setCfg_fence (s : State) (x : Cfg) : (s.setCfg x).fence = s.fence := rfl
@[simp] theorem State.setCfg_cfg (s : State) (x : Cfg) : (s.setCfg x).cfg = x := rfl
@[simp] theorem State.setCfg_keeper (s : State) (x : Cfg) : (s.setCfg x).keeper = s.keeper := rfl
@[simp] theorem State.setCfg_trail (s : State) (x : Cfg) : (s.setCfg x).trail = s.trail := rfl
@[simp] theorem State.setCfg_power (s : State) (x : Cfg) : (s.setCfg x).power = s.power := rfl
@[simp] theorem State.setCfg_brace (s : State) (x : Cfg) : (s.setCfg x).brace = s.brace := rfl
@[simp] theorem State.setCfg_upd (s : State) (x : Cfg) : (s.setCfg x).upd = s.upd := rfl
@[simp] theorem State.setCfg_tst (s : State) (x : Cfg) : (s.setCfg x).tst = s.tst := rfl
@[simp] theorem State.setCfg_jtag (s : State) (x : Cfg) : (s.setCfg x).jtag = s.jtag := rfl
@[simp] theorem State.setCfg_corrupt (s : State) (x : Cfg) : (s.setCfg x).corrupt = s.corrupt := rfl
@[simp] theorem State.setCfg_rd (s : State) (x : Cfg) (a : Nat) : (s.setCfg x).rd a = s.rd a := rfl
@[simp] theorem State.setCfg_c64 (s : State) (x : Cfg) (a : Nat) : (s.setCfg x).c64 a = s.c64 a := rfl
@[simp] theorem State.setCfg_flag (s : State) (x : Cfg) (a i : Nat) : (s.setCfg x).flag a i = s.flag a i := rfl
@[simp] theorem State.setCfg_fld (s : State) (x : Cfg) (a hi lo : Nat) : (s.setCfg x).fld a hi lo = s.fld a hi lo := rfl
@[simp] theorem State.setCfg_th (s : State) (x : Cfg) (t : Nat) : (s.setCfg x).th t = s.th t := rfl
@[simp] theorem State.setCfg_en (s : State) (x : Cfg) (e : Nat) : (s.setCfg x).en e = s.en e := rfl

@[simp] theorem State.setKeeper_pending (s : State) (x : Keeper) : (s.setKeeper x).pending = s.pending := rfl
@[simp] theorem State.setKeeper_now (s : State) (x : Keeper) : (s.setKeeper x).now = s.now := rfl
@[simp] theorem State.setKeeper_free (s : State) (x : Keeper) : (s.setKeeper x).free = s.free := rfl
@[simp] theorem State.setKeeper_readData (s : State) (x : Keeper) : (s.setKeeper x).readData = s.readData := rfl
@[simp] theorem State.setKeeper_csr (s : State) (x : Keeper) : (s.setKeeper x).csr = s.csr := rfl
@[simp] theorem State.setKeeper_phc (s : State) (x : Keeper) : (s.setKeeper x).phc = s.phc := rfl
@[simp] theorem State.setKeeper_mem (s : State) (x : Keeper) : (s.setKeeper x).mem = s.mem := rfl
@[simp] theorem State.setKeeper_threads (s : State) (x : Keeper) : (s.setKeeper x).threads = s.threads := rfl
@[simp] theorem State.setKeeper_engines (s : State) (x : Keeper) : (s.setKeeper x).engines = s.engines := rfl
@[simp] theorem State.setKeeper_disp (s : State) (x : Keeper) : (s.setKeeper x).disp = s.disp := rfl
@[simp] theorem State.setKeeper_jobs (s : State) (x : Keeper) : (s.setKeeper x).jobs = s.jobs := rfl
@[simp] theorem State.setKeeper_tricks (s : State) (x : Keeper) : (s.setKeeper x).tricks = s.tricks := rfl
@[simp] theorem State.setKeeper_ks (s : State) (x : Keeper) : (s.setKeeper x).ks = s.ks := rfl
@[simp] theorem State.setKeeper_ft (s : State) (x : Keeper) : (s.setKeeper x).ft = s.ft := rfl
@[simp] theorem State.setKeeper_nose (s : State) (x : Keeper) : (s.setKeeper x).nose = s.nose := rfl
@[simp] theorem State.setKeeper_pack (s : State) (x : Keeper) : (s.setKeeper x).pack = s.pack := rfl
@[simp] theorem State.setKeeper_st (s : State) (x : Keeper) : (s.setKeeper x).st = s.st := rfl
@[simp] theorem State.setKeeper_net (s : State) (x : Keeper) : (s.setKeeper x).net = s.net := rfl
@[simp] theorem State.setKeeper_cph (s : State) (x : Keeper) : (s.setKeeper x).cph = s.cph := rfl
@[simp] theorem State.setKeeper_drc (s : State) (x : Keeper) : (s.setKeeper x).drc = s.drc := rfl
@[simp] theorem State.setKeeper_fence (s : State) (x : Keeper) : (s.setKeeper x).fence = s.fence := rfl
@[simp] theorem State.setKeeper_cfg (s : State) (x : Keeper) : (s.setKeeper x).cfg = s.cfg := rfl
@[simp] theorem State.setKeeper_keeper (s : State) (x : Keeper) : (s.setKeeper x).keeper = x := rfl
@[simp] theorem State.setKeeper_trail (s : State) (x : Keeper) : (s.setKeeper x).trail = s.trail := rfl
@[simp] theorem State.setKeeper_power (s : State) (x : Keeper) : (s.setKeeper x).power = s.power := rfl
@[simp] theorem State.setKeeper_brace (s : State) (x : Keeper) : (s.setKeeper x).brace = s.brace := rfl
@[simp] theorem State.setKeeper_upd (s : State) (x : Keeper) : (s.setKeeper x).upd = s.upd := rfl
@[simp] theorem State.setKeeper_tst (s : State) (x : Keeper) : (s.setKeeper x).tst = s.tst := rfl
@[simp] theorem State.setKeeper_jtag (s : State) (x : Keeper) : (s.setKeeper x).jtag = s.jtag := rfl
@[simp] theorem State.setKeeper_corrupt (s : State) (x : Keeper) : (s.setKeeper x).corrupt = s.corrupt := rfl
@[simp] theorem State.setKeeper_rd (s : State) (x : Keeper) (a : Nat) : (s.setKeeper x).rd a = s.rd a := rfl
@[simp] theorem State.setKeeper_c64 (s : State) (x : Keeper) (a : Nat) : (s.setKeeper x).c64 a = s.c64 a := rfl
@[simp] theorem State.setKeeper_flag (s : State) (x : Keeper) (a i : Nat) : (s.setKeeper x).flag a i = s.flag a i := rfl
@[simp] theorem State.setKeeper_fld (s : State) (x : Keeper) (a hi lo : Nat) : (s.setKeeper x).fld a hi lo = s.fld a hi lo := rfl
@[simp] theorem State.setKeeper_th (s : State) (x : Keeper) (t : Nat) : (s.setKeeper x).th t = s.th t := rfl
@[simp] theorem State.setKeeper_en (s : State) (x : Keeper) (e : Nat) : (s.setKeeper x).en e = s.en e := rfl

@[simp] theorem State.setTrail_pending (s : State) (x : Trail) : (s.setTrail x).pending = s.pending := rfl
@[simp] theorem State.setTrail_now (s : State) (x : Trail) : (s.setTrail x).now = s.now := rfl
@[simp] theorem State.setTrail_free (s : State) (x : Trail) : (s.setTrail x).free = s.free := rfl
@[simp] theorem State.setTrail_readData (s : State) (x : Trail) : (s.setTrail x).readData = s.readData := rfl
@[simp] theorem State.setTrail_csr (s : State) (x : Trail) : (s.setTrail x).csr = s.csr := rfl
@[simp] theorem State.setTrail_phc (s : State) (x : Trail) : (s.setTrail x).phc = s.phc := rfl
@[simp] theorem State.setTrail_mem (s : State) (x : Trail) : (s.setTrail x).mem = s.mem := rfl
@[simp] theorem State.setTrail_threads (s : State) (x : Trail) : (s.setTrail x).threads = s.threads := rfl
@[simp] theorem State.setTrail_engines (s : State) (x : Trail) : (s.setTrail x).engines = s.engines := rfl
@[simp] theorem State.setTrail_disp (s : State) (x : Trail) : (s.setTrail x).disp = s.disp := rfl
@[simp] theorem State.setTrail_jobs (s : State) (x : Trail) : (s.setTrail x).jobs = s.jobs := rfl
@[simp] theorem State.setTrail_tricks (s : State) (x : Trail) : (s.setTrail x).tricks = s.tricks := rfl
@[simp] theorem State.setTrail_ks (s : State) (x : Trail) : (s.setTrail x).ks = s.ks := rfl
@[simp] theorem State.setTrail_ft (s : State) (x : Trail) : (s.setTrail x).ft = s.ft := rfl
@[simp] theorem State.setTrail_nose (s : State) (x : Trail) : (s.setTrail x).nose = s.nose := rfl
@[simp] theorem State.setTrail_pack (s : State) (x : Trail) : (s.setTrail x).pack = s.pack := rfl
@[simp] theorem State.setTrail_st (s : State) (x : Trail) : (s.setTrail x).st = s.st := rfl
@[simp] theorem State.setTrail_net (s : State) (x : Trail) : (s.setTrail x).net = s.net := rfl
@[simp] theorem State.setTrail_cph (s : State) (x : Trail) : (s.setTrail x).cph = s.cph := rfl
@[simp] theorem State.setTrail_drc (s : State) (x : Trail) : (s.setTrail x).drc = s.drc := rfl
@[simp] theorem State.setTrail_fence (s : State) (x : Trail) : (s.setTrail x).fence = s.fence := rfl
@[simp] theorem State.setTrail_cfg (s : State) (x : Trail) : (s.setTrail x).cfg = s.cfg := rfl
@[simp] theorem State.setTrail_keeper (s : State) (x : Trail) : (s.setTrail x).keeper = s.keeper := rfl
@[simp] theorem State.setTrail_trail (s : State) (x : Trail) : (s.setTrail x).trail = x := rfl
@[simp] theorem State.setTrail_power (s : State) (x : Trail) : (s.setTrail x).power = s.power := rfl
@[simp] theorem State.setTrail_brace (s : State) (x : Trail) : (s.setTrail x).brace = s.brace := rfl
@[simp] theorem State.setTrail_upd (s : State) (x : Trail) : (s.setTrail x).upd = s.upd := rfl
@[simp] theorem State.setTrail_tst (s : State) (x : Trail) : (s.setTrail x).tst = s.tst := rfl
@[simp] theorem State.setTrail_jtag (s : State) (x : Trail) : (s.setTrail x).jtag = s.jtag := rfl
@[simp] theorem State.setTrail_corrupt (s : State) (x : Trail) : (s.setTrail x).corrupt = s.corrupt := rfl
@[simp] theorem State.setTrail_rd (s : State) (x : Trail) (a : Nat) : (s.setTrail x).rd a = s.rd a := rfl
@[simp] theorem State.setTrail_c64 (s : State) (x : Trail) (a : Nat) : (s.setTrail x).c64 a = s.c64 a := rfl
@[simp] theorem State.setTrail_flag (s : State) (x : Trail) (a i : Nat) : (s.setTrail x).flag a i = s.flag a i := rfl
@[simp] theorem State.setTrail_fld (s : State) (x : Trail) (a hi lo : Nat) : (s.setTrail x).fld a hi lo = s.fld a hi lo := rfl
@[simp] theorem State.setTrail_th (s : State) (x : Trail) (t : Nat) : (s.setTrail x).th t = s.th t := rfl
@[simp] theorem State.setTrail_en (s : State) (x : Trail) (e : Nat) : (s.setTrail x).en e = s.en e := rfl

@[simp] theorem State.setPower_pending (s : State) (x : Power) : (s.setPower x).pending = s.pending := rfl
@[simp] theorem State.setPower_now (s : State) (x : Power) : (s.setPower x).now = s.now := rfl
@[simp] theorem State.setPower_free (s : State) (x : Power) : (s.setPower x).free = s.free := rfl
@[simp] theorem State.setPower_readData (s : State) (x : Power) : (s.setPower x).readData = s.readData := rfl
@[simp] theorem State.setPower_csr (s : State) (x : Power) : (s.setPower x).csr = s.csr := rfl
@[simp] theorem State.setPower_phc (s : State) (x : Power) : (s.setPower x).phc = s.phc := rfl
@[simp] theorem State.setPower_mem (s : State) (x : Power) : (s.setPower x).mem = s.mem := rfl
@[simp] theorem State.setPower_threads (s : State) (x : Power) : (s.setPower x).threads = s.threads := rfl
@[simp] theorem State.setPower_engines (s : State) (x : Power) : (s.setPower x).engines = s.engines := rfl
@[simp] theorem State.setPower_disp (s : State) (x : Power) : (s.setPower x).disp = s.disp := rfl
@[simp] theorem State.setPower_jobs (s : State) (x : Power) : (s.setPower x).jobs = s.jobs := rfl
@[simp] theorem State.setPower_tricks (s : State) (x : Power) : (s.setPower x).tricks = s.tricks := rfl
@[simp] theorem State.setPower_ks (s : State) (x : Power) : (s.setPower x).ks = s.ks := rfl
@[simp] theorem State.setPower_ft (s : State) (x : Power) : (s.setPower x).ft = s.ft := rfl
@[simp] theorem State.setPower_nose (s : State) (x : Power) : (s.setPower x).nose = s.nose := rfl
@[simp] theorem State.setPower_pack (s : State) (x : Power) : (s.setPower x).pack = s.pack := rfl
@[simp] theorem State.setPower_st (s : State) (x : Power) : (s.setPower x).st = s.st := rfl
@[simp] theorem State.setPower_net (s : State) (x : Power) : (s.setPower x).net = s.net := rfl
@[simp] theorem State.setPower_cph (s : State) (x : Power) : (s.setPower x).cph = s.cph := rfl
@[simp] theorem State.setPower_drc (s : State) (x : Power) : (s.setPower x).drc = s.drc := rfl
@[simp] theorem State.setPower_fence (s : State) (x : Power) : (s.setPower x).fence = s.fence := rfl
@[simp] theorem State.setPower_cfg (s : State) (x : Power) : (s.setPower x).cfg = s.cfg := rfl
@[simp] theorem State.setPower_keeper (s : State) (x : Power) : (s.setPower x).keeper = s.keeper := rfl
@[simp] theorem State.setPower_trail (s : State) (x : Power) : (s.setPower x).trail = s.trail := rfl
@[simp] theorem State.setPower_power (s : State) (x : Power) : (s.setPower x).power = x := rfl
@[simp] theorem State.setPower_brace (s : State) (x : Power) : (s.setPower x).brace = s.brace := rfl
@[simp] theorem State.setPower_upd (s : State) (x : Power) : (s.setPower x).upd = s.upd := rfl
@[simp] theorem State.setPower_tst (s : State) (x : Power) : (s.setPower x).tst = s.tst := rfl
@[simp] theorem State.setPower_jtag (s : State) (x : Power) : (s.setPower x).jtag = s.jtag := rfl
@[simp] theorem State.setPower_corrupt (s : State) (x : Power) : (s.setPower x).corrupt = s.corrupt := rfl
@[simp] theorem State.setPower_rd (s : State) (x : Power) (a : Nat) : (s.setPower x).rd a = s.rd a := rfl
@[simp] theorem State.setPower_c64 (s : State) (x : Power) (a : Nat) : (s.setPower x).c64 a = s.c64 a := rfl
@[simp] theorem State.setPower_flag (s : State) (x : Power) (a i : Nat) : (s.setPower x).flag a i = s.flag a i := rfl
@[simp] theorem State.setPower_fld (s : State) (x : Power) (a hi lo : Nat) : (s.setPower x).fld a hi lo = s.fld a hi lo := rfl
@[simp] theorem State.setPower_th (s : State) (x : Power) (t : Nat) : (s.setPower x).th t = s.th t := rfl
@[simp] theorem State.setPower_en (s : State) (x : Power) (e : Nat) : (s.setPower x).en e = s.en e := rfl

@[simp] theorem State.setBrace_pending (s : State) (x : BraceState) : (s.setBrace x).pending = s.pending := rfl
@[simp] theorem State.setBrace_now (s : State) (x : BraceState) : (s.setBrace x).now = s.now := rfl
@[simp] theorem State.setBrace_free (s : State) (x : BraceState) : (s.setBrace x).free = s.free := rfl
@[simp] theorem State.setBrace_readData (s : State) (x : BraceState) : (s.setBrace x).readData = s.readData := rfl
@[simp] theorem State.setBrace_csr (s : State) (x : BraceState) : (s.setBrace x).csr = s.csr := rfl
@[simp] theorem State.setBrace_phc (s : State) (x : BraceState) : (s.setBrace x).phc = s.phc := rfl
@[simp] theorem State.setBrace_mem (s : State) (x : BraceState) : (s.setBrace x).mem = s.mem := rfl
@[simp] theorem State.setBrace_threads (s : State) (x : BraceState) : (s.setBrace x).threads = s.threads := rfl
@[simp] theorem State.setBrace_engines (s : State) (x : BraceState) : (s.setBrace x).engines = s.engines := rfl
@[simp] theorem State.setBrace_disp (s : State) (x : BraceState) : (s.setBrace x).disp = s.disp := rfl
@[simp] theorem State.setBrace_jobs (s : State) (x : BraceState) : (s.setBrace x).jobs = s.jobs := rfl
@[simp] theorem State.setBrace_tricks (s : State) (x : BraceState) : (s.setBrace x).tricks = s.tricks := rfl
@[simp] theorem State.setBrace_ks (s : State) (x : BraceState) : (s.setBrace x).ks = s.ks := rfl
@[simp] theorem State.setBrace_ft (s : State) (x : BraceState) : (s.setBrace x).ft = s.ft := rfl
@[simp] theorem State.setBrace_nose (s : State) (x : BraceState) : (s.setBrace x).nose = s.nose := rfl
@[simp] theorem State.setBrace_pack (s : State) (x : BraceState) : (s.setBrace x).pack = s.pack := rfl
@[simp] theorem State.setBrace_st (s : State) (x : BraceState) : (s.setBrace x).st = s.st := rfl
@[simp] theorem State.setBrace_net (s : State) (x : BraceState) : (s.setBrace x).net = s.net := rfl
@[simp] theorem State.setBrace_cph (s : State) (x : BraceState) : (s.setBrace x).cph = s.cph := rfl
@[simp] theorem State.setBrace_drc (s : State) (x : BraceState) : (s.setBrace x).drc = s.drc := rfl
@[simp] theorem State.setBrace_fence (s : State) (x : BraceState) : (s.setBrace x).fence = s.fence := rfl
@[simp] theorem State.setBrace_cfg (s : State) (x : BraceState) : (s.setBrace x).cfg = s.cfg := rfl
@[simp] theorem State.setBrace_keeper (s : State) (x : BraceState) : (s.setBrace x).keeper = s.keeper := rfl
@[simp] theorem State.setBrace_trail (s : State) (x : BraceState) : (s.setBrace x).trail = s.trail := rfl
@[simp] theorem State.setBrace_power (s : State) (x : BraceState) : (s.setBrace x).power = s.power := rfl
@[simp] theorem State.setBrace_brace (s : State) (x : BraceState) : (s.setBrace x).brace = x := rfl
@[simp] theorem State.setBrace_upd (s : State) (x : BraceState) : (s.setBrace x).upd = s.upd := rfl
@[simp] theorem State.setBrace_tst (s : State) (x : BraceState) : (s.setBrace x).tst = s.tst := rfl
@[simp] theorem State.setBrace_jtag (s : State) (x : BraceState) : (s.setBrace x).jtag = s.jtag := rfl
@[simp] theorem State.setBrace_corrupt (s : State) (x : BraceState) : (s.setBrace x).corrupt = s.corrupt := rfl
@[simp] theorem State.setBrace_rd (s : State) (x : BraceState) (a : Nat) : (s.setBrace x).rd a = s.rd a := rfl
@[simp] theorem State.setBrace_c64 (s : State) (x : BraceState) (a : Nat) : (s.setBrace x).c64 a = s.c64 a := rfl
@[simp] theorem State.setBrace_flag (s : State) (x : BraceState) (a i : Nat) : (s.setBrace x).flag a i = s.flag a i := rfl
@[simp] theorem State.setBrace_fld (s : State) (x : BraceState) (a hi lo : Nat) : (s.setBrace x).fld a hi lo = s.fld a hi lo := rfl
@[simp] theorem State.setBrace_th (s : State) (x : BraceState) (t : Nat) : (s.setBrace x).th t = s.th t := rfl
@[simp] theorem State.setBrace_en (s : State) (x : BraceState) (e : Nat) : (s.setBrace x).en e = s.en e := rfl

@[simp] theorem State.setDisp_pending (s : State) (x : Disp) : (s.setDisp x).pending = s.pending := rfl
@[simp] theorem State.setDisp_now (s : State) (x : Disp) : (s.setDisp x).now = s.now := rfl
@[simp] theorem State.setDisp_free (s : State) (x : Disp) : (s.setDisp x).free = s.free := rfl
@[simp] theorem State.setDisp_readData (s : State) (x : Disp) : (s.setDisp x).readData = s.readData := rfl
@[simp] theorem State.setDisp_csr (s : State) (x : Disp) : (s.setDisp x).csr = s.csr := rfl
@[simp] theorem State.setDisp_phc (s : State) (x : Disp) : (s.setDisp x).phc = s.phc := rfl
@[simp] theorem State.setDisp_mem (s : State) (x : Disp) : (s.setDisp x).mem = s.mem := rfl
@[simp] theorem State.setDisp_threads (s : State) (x : Disp) : (s.setDisp x).threads = s.threads := rfl
@[simp] theorem State.setDisp_engines (s : State) (x : Disp) : (s.setDisp x).engines = s.engines := rfl
@[simp] theorem State.setDisp_disp (s : State) (x : Disp) : (s.setDisp x).disp = x := rfl
@[simp] theorem State.setDisp_jobs (s : State) (x : Disp) : (s.setDisp x).jobs = s.jobs := rfl
@[simp] theorem State.setDisp_tricks (s : State) (x : Disp) : (s.setDisp x).tricks = s.tricks := rfl
@[simp] theorem State.setDisp_ks (s : State) (x : Disp) : (s.setDisp x).ks = s.ks := rfl
@[simp] theorem State.setDisp_ft (s : State) (x : Disp) : (s.setDisp x).ft = s.ft := rfl
@[simp] theorem State.setDisp_nose (s : State) (x : Disp) : (s.setDisp x).nose = s.nose := rfl
@[simp] theorem State.setDisp_pack (s : State) (x : Disp) : (s.setDisp x).pack = s.pack := rfl
@[simp] theorem State.setDisp_st (s : State) (x : Disp) : (s.setDisp x).st = s.st := rfl
@[simp] theorem State.setDisp_net (s : State) (x : Disp) : (s.setDisp x).net = s.net := rfl
@[simp] theorem State.setDisp_cph (s : State) (x : Disp) : (s.setDisp x).cph = s.cph := rfl
@[simp] theorem State.setDisp_drc (s : State) (x : Disp) : (s.setDisp x).drc = s.drc := rfl
@[simp] theorem State.setDisp_fence (s : State) (x : Disp) : (s.setDisp x).fence = s.fence := rfl
@[simp] theorem State.setDisp_cfg (s : State) (x : Disp) : (s.setDisp x).cfg = s.cfg := rfl
@[simp] theorem State.setDisp_keeper (s : State) (x : Disp) : (s.setDisp x).keeper = s.keeper := rfl
@[simp] theorem State.setDisp_trail (s : State) (x : Disp) : (s.setDisp x).trail = s.trail := rfl
@[simp] theorem State.setDisp_power (s : State) (x : Disp) : (s.setDisp x).power = s.power := rfl
@[simp] theorem State.setDisp_brace (s : State) (x : Disp) : (s.setDisp x).brace = s.brace := rfl
@[simp] theorem State.setDisp_upd (s : State) (x : Disp) : (s.setDisp x).upd = s.upd := rfl
@[simp] theorem State.setDisp_tst (s : State) (x : Disp) : (s.setDisp x).tst = s.tst := rfl
@[simp] theorem State.setDisp_jtag (s : State) (x : Disp) : (s.setDisp x).jtag = s.jtag := rfl
@[simp] theorem State.setDisp_corrupt (s : State) (x : Disp) : (s.setDisp x).corrupt = s.corrupt := rfl
@[simp] theorem State.setDisp_rd (s : State) (x : Disp) (a : Nat) : (s.setDisp x).rd a = s.rd a := rfl
@[simp] theorem State.setDisp_c64 (s : State) (x : Disp) (a : Nat) : (s.setDisp x).c64 a = s.c64 a := rfl
@[simp] theorem State.setDisp_flag (s : State) (x : Disp) (a i : Nat) : (s.setDisp x).flag a i = s.flag a i := rfl
@[simp] theorem State.setDisp_fld (s : State) (x : Disp) (a hi lo : Nat) : (s.setDisp x).fld a hi lo = s.fld a hi lo := rfl
@[simp] theorem State.setDisp_th (s : State) (x : Disp) (t : Nat) : (s.setDisp x).th t = s.th t := rfl
@[simp] theorem State.setDisp_en (s : State) (x : Disp) (e : Nat) : (s.setDisp x).en e = s.en e := rfl

@[simp] theorem State.setJobs_pending (s : State) (x : Jobs) : (s.setJobs x).pending = s.pending := rfl
@[simp] theorem State.setJobs_now (s : State) (x : Jobs) : (s.setJobs x).now = s.now := rfl
@[simp] theorem State.setJobs_free (s : State) (x : Jobs) : (s.setJobs x).free = s.free := rfl
@[simp] theorem State.setJobs_readData (s : State) (x : Jobs) : (s.setJobs x).readData = s.readData := rfl
@[simp] theorem State.setJobs_csr (s : State) (x : Jobs) : (s.setJobs x).csr = s.csr := rfl
@[simp] theorem State.setJobs_phc (s : State) (x : Jobs) : (s.setJobs x).phc = s.phc := rfl
@[simp] theorem State.setJobs_mem (s : State) (x : Jobs) : (s.setJobs x).mem = s.mem := rfl
@[simp] theorem State.setJobs_threads (s : State) (x : Jobs) : (s.setJobs x).threads = s.threads := rfl
@[simp] theorem State.setJobs_engines (s : State) (x : Jobs) : (s.setJobs x).engines = s.engines := rfl
@[simp] theorem State.setJobs_disp (s : State) (x : Jobs) : (s.setJobs x).disp = s.disp := rfl
@[simp] theorem State.setJobs_jobs (s : State) (x : Jobs) : (s.setJobs x).jobs = x := rfl
@[simp] theorem State.setJobs_tricks (s : State) (x : Jobs) : (s.setJobs x).tricks = s.tricks := rfl
@[simp] theorem State.setJobs_ks (s : State) (x : Jobs) : (s.setJobs x).ks = s.ks := rfl
@[simp] theorem State.setJobs_ft (s : State) (x : Jobs) : (s.setJobs x).ft = s.ft := rfl
@[simp] theorem State.setJobs_nose (s : State) (x : Jobs) : (s.setJobs x).nose = s.nose := rfl
@[simp] theorem State.setJobs_pack (s : State) (x : Jobs) : (s.setJobs x).pack = s.pack := rfl
@[simp] theorem State.setJobs_st (s : State) (x : Jobs) : (s.setJobs x).st = s.st := rfl
@[simp] theorem State.setJobs_net (s : State) (x : Jobs) : (s.setJobs x).net = s.net := rfl
@[simp] theorem State.setJobs_cph (s : State) (x : Jobs) : (s.setJobs x).cph = s.cph := rfl
@[simp] theorem State.setJobs_drc (s : State) (x : Jobs) : (s.setJobs x).drc = s.drc := rfl
@[simp] theorem State.setJobs_fence (s : State) (x : Jobs) : (s.setJobs x).fence = s.fence := rfl
@[simp] theorem State.setJobs_cfg (s : State) (x : Jobs) : (s.setJobs x).cfg = s.cfg := rfl
@[simp] theorem State.setJobs_keeper (s : State) (x : Jobs) : (s.setJobs x).keeper = s.keeper := rfl
@[simp] theorem State.setJobs_trail (s : State) (x : Jobs) : (s.setJobs x).trail = s.trail := rfl
@[simp] theorem State.setJobs_power (s : State) (x : Jobs) : (s.setJobs x).power = s.power := rfl
@[simp] theorem State.setJobs_brace (s : State) (x : Jobs) : (s.setJobs x).brace = s.brace := rfl
@[simp] theorem State.setJobs_upd (s : State) (x : Jobs) : (s.setJobs x).upd = s.upd := rfl
@[simp] theorem State.setJobs_tst (s : State) (x : Jobs) : (s.setJobs x).tst = s.tst := rfl
@[simp] theorem State.setJobs_jtag (s : State) (x : Jobs) : (s.setJobs x).jtag = s.jtag := rfl
@[simp] theorem State.setJobs_corrupt (s : State) (x : Jobs) : (s.setJobs x).corrupt = s.corrupt := rfl
@[simp] theorem State.setJobs_rd (s : State) (x : Jobs) (a : Nat) : (s.setJobs x).rd a = s.rd a := rfl
@[simp] theorem State.setJobs_c64 (s : State) (x : Jobs) (a : Nat) : (s.setJobs x).c64 a = s.c64 a := rfl
@[simp] theorem State.setJobs_flag (s : State) (x : Jobs) (a i : Nat) : (s.setJobs x).flag a i = s.flag a i := rfl
@[simp] theorem State.setJobs_fld (s : State) (x : Jobs) (a hi lo : Nat) : (s.setJobs x).fld a hi lo = s.fld a hi lo := rfl
@[simp] theorem State.setJobs_th (s : State) (x : Jobs) (t : Nat) : (s.setJobs x).th t = s.th t := rfl
@[simp] theorem State.setJobs_en (s : State) (x : Jobs) (e : Nat) : (s.setJobs x).en e = s.en e := rfl

@[simp] theorem State.setTricks_pending (s : State) (x : Tricks) : (s.setTricks x).pending = s.pending := rfl
@[simp] theorem State.setTricks_now (s : State) (x : Tricks) : (s.setTricks x).now = s.now := rfl
@[simp] theorem State.setTricks_free (s : State) (x : Tricks) : (s.setTricks x).free = s.free := rfl
@[simp] theorem State.setTricks_readData (s : State) (x : Tricks) : (s.setTricks x).readData = s.readData := rfl
@[simp] theorem State.setTricks_csr (s : State) (x : Tricks) : (s.setTricks x).csr = s.csr := rfl
@[simp] theorem State.setTricks_phc (s : State) (x : Tricks) : (s.setTricks x).phc = s.phc := rfl
@[simp] theorem State.setTricks_mem (s : State) (x : Tricks) : (s.setTricks x).mem = s.mem := rfl
@[simp] theorem State.setTricks_threads (s : State) (x : Tricks) : (s.setTricks x).threads = s.threads := rfl
@[simp] theorem State.setTricks_engines (s : State) (x : Tricks) : (s.setTricks x).engines = s.engines := rfl
@[simp] theorem State.setTricks_disp (s : State) (x : Tricks) : (s.setTricks x).disp = s.disp := rfl
@[simp] theorem State.setTricks_jobs (s : State) (x : Tricks) : (s.setTricks x).jobs = s.jobs := rfl
@[simp] theorem State.setTricks_tricks (s : State) (x : Tricks) : (s.setTricks x).tricks = x := rfl
@[simp] theorem State.setTricks_ks (s : State) (x : Tricks) : (s.setTricks x).ks = s.ks := rfl
@[simp] theorem State.setTricks_ft (s : State) (x : Tricks) : (s.setTricks x).ft = s.ft := rfl
@[simp] theorem State.setTricks_nose (s : State) (x : Tricks) : (s.setTricks x).nose = s.nose := rfl
@[simp] theorem State.setTricks_pack (s : State) (x : Tricks) : (s.setTricks x).pack = s.pack := rfl
@[simp] theorem State.setTricks_st (s : State) (x : Tricks) : (s.setTricks x).st = s.st := rfl
@[simp] theorem State.setTricks_net (s : State) (x : Tricks) : (s.setTricks x).net = s.net := rfl
@[simp] theorem State.setTricks_cph (s : State) (x : Tricks) : (s.setTricks x).cph = s.cph := rfl
@[simp] theorem State.setTricks_drc (s : State) (x : Tricks) : (s.setTricks x).drc = s.drc := rfl
@[simp] theorem State.setTricks_fence (s : State) (x : Tricks) : (s.setTricks x).fence = s.fence := rfl
@[simp] theorem State.setTricks_cfg (s : State) (x : Tricks) : (s.setTricks x).cfg = s.cfg := rfl
@[simp] theorem State.setTricks_keeper (s : State) (x : Tricks) : (s.setTricks x).keeper = s.keeper := rfl
@[simp] theorem State.setTricks_trail (s : State) (x : Tricks) : (s.setTricks x).trail = s.trail := rfl
@[simp] theorem State.setTricks_power (s : State) (x : Tricks) : (s.setTricks x).power = s.power := rfl
@[simp] theorem State.setTricks_brace (s : State) (x : Tricks) : (s.setTricks x).brace = s.brace := rfl
@[simp] theorem State.setTricks_upd (s : State) (x : Tricks) : (s.setTricks x).upd = s.upd := rfl
@[simp] theorem State.setTricks_tst (s : State) (x : Tricks) : (s.setTricks x).tst = s.tst := rfl
@[simp] theorem State.setTricks_jtag (s : State) (x : Tricks) : (s.setTricks x).jtag = s.jtag := rfl
@[simp] theorem State.setTricks_corrupt (s : State) (x : Tricks) : (s.setTricks x).corrupt = s.corrupt := rfl
@[simp] theorem State.setTricks_rd (s : State) (x : Tricks) (a : Nat) : (s.setTricks x).rd a = s.rd a := rfl
@[simp] theorem State.setTricks_c64 (s : State) (x : Tricks) (a : Nat) : (s.setTricks x).c64 a = s.c64 a := rfl
@[simp] theorem State.setTricks_flag (s : State) (x : Tricks) (a i : Nat) : (s.setTricks x).flag a i = s.flag a i := rfl
@[simp] theorem State.setTricks_fld (s : State) (x : Tricks) (a hi lo : Nat) : (s.setTricks x).fld a hi lo = s.fld a hi lo := rfl
@[simp] theorem State.setTricks_th (s : State) (x : Tricks) (t : Nat) : (s.setTricks x).th t = s.th t := rfl
@[simp] theorem State.setTricks_en (s : State) (x : Tricks) (e : Nat) : (s.setTricks x).en e = s.en e := rfl

@[simp] theorem State.setUpd_pending (s : State) (x : Update) : (s.setUpd x).pending = s.pending := rfl
@[simp] theorem State.setUpd_now (s : State) (x : Update) : (s.setUpd x).now = s.now := rfl
@[simp] theorem State.setUpd_free (s : State) (x : Update) : (s.setUpd x).free = s.free := rfl
@[simp] theorem State.setUpd_readData (s : State) (x : Update) : (s.setUpd x).readData = s.readData := rfl
@[simp] theorem State.setUpd_csr (s : State) (x : Update) : (s.setUpd x).csr = s.csr := rfl
@[simp] theorem State.setUpd_phc (s : State) (x : Update) : (s.setUpd x).phc = s.phc := rfl
@[simp] theorem State.setUpd_mem (s : State) (x : Update) : (s.setUpd x).mem = s.mem := rfl
@[simp] theorem State.setUpd_threads (s : State) (x : Update) : (s.setUpd x).threads = s.threads := rfl
@[simp] theorem State.setUpd_engines (s : State) (x : Update) : (s.setUpd x).engines = s.engines := rfl
@[simp] theorem State.setUpd_disp (s : State) (x : Update) : (s.setUpd x).disp = s.disp := rfl
@[simp] theorem State.setUpd_jobs (s : State) (x : Update) : (s.setUpd x).jobs = s.jobs := rfl
@[simp] theorem State.setUpd_tricks (s : State) (x : Update) : (s.setUpd x).tricks = s.tricks := rfl
@[simp] theorem State.setUpd_ks (s : State) (x : Update) : (s.setUpd x).ks = s.ks := rfl
@[simp] theorem State.setUpd_ft (s : State) (x : Update) : (s.setUpd x).ft = s.ft := rfl
@[simp] theorem State.setUpd_nose (s : State) (x : Update) : (s.setUpd x).nose = s.nose := rfl
@[simp] theorem State.setUpd_pack (s : State) (x : Update) : (s.setUpd x).pack = s.pack := rfl
@[simp] theorem State.setUpd_st (s : State) (x : Update) : (s.setUpd x).st = s.st := rfl
@[simp] theorem State.setUpd_net (s : State) (x : Update) : (s.setUpd x).net = s.net := rfl
@[simp] theorem State.setUpd_cph (s : State) (x : Update) : (s.setUpd x).cph = s.cph := rfl
@[simp] theorem State.setUpd_drc (s : State) (x : Update) : (s.setUpd x).drc = s.drc := rfl
@[simp] theorem State.setUpd_fence (s : State) (x : Update) : (s.setUpd x).fence = s.fence := rfl
@[simp] theorem State.setUpd_cfg (s : State) (x : Update) : (s.setUpd x).cfg = s.cfg := rfl
@[simp] theorem State.setUpd_keeper (s : State) (x : Update) : (s.setUpd x).keeper = s.keeper := rfl
@[simp] theorem State.setUpd_trail (s : State) (x : Update) : (s.setUpd x).trail = s.trail := rfl
@[simp] theorem State.setUpd_power (s : State) (x : Update) : (s.setUpd x).power = s.power := rfl
@[simp] theorem State.setUpd_brace (s : State) (x : Update) : (s.setUpd x).brace = s.brace := rfl
@[simp] theorem State.setUpd_upd (s : State) (x : Update) : (s.setUpd x).upd = x := rfl
@[simp] theorem State.setUpd_tst (s : State) (x : Update) : (s.setUpd x).tst = s.tst := rfl
@[simp] theorem State.setUpd_jtag (s : State) (x : Update) : (s.setUpd x).jtag = s.jtag := rfl
@[simp] theorem State.setUpd_corrupt (s : State) (x : Update) : (s.setUpd x).corrupt = s.corrupt := rfl
@[simp] theorem State.setUpd_rd (s : State) (x : Update) (a : Nat) : (s.setUpd x).rd a = s.rd a := rfl
@[simp] theorem State.setUpd_c64 (s : State) (x : Update) (a : Nat) : (s.setUpd x).c64 a = s.c64 a := rfl
@[simp] theorem State.setUpd_flag (s : State) (x : Update) (a i : Nat) : (s.setUpd x).flag a i = s.flag a i := rfl
@[simp] theorem State.setUpd_fld (s : State) (x : Update) (a hi lo : Nat) : (s.setUpd x).fld a hi lo = s.fld a hi lo := rfl
@[simp] theorem State.setUpd_th (s : State) (x : Update) (t : Nat) : (s.setUpd x).th t = s.th t := rfl
@[simp] theorem State.setUpd_en (s : State) (x : Update) (e : Nat) : (s.setUpd x).en e = s.en e := rfl

@[simp] theorem State.setTst_pending (s : State) (x : TestUnit) : (s.setTst x).pending = s.pending := rfl
@[simp] theorem State.setTst_now (s : State) (x : TestUnit) : (s.setTst x).now = s.now := rfl
@[simp] theorem State.setTst_free (s : State) (x : TestUnit) : (s.setTst x).free = s.free := rfl
@[simp] theorem State.setTst_readData (s : State) (x : TestUnit) : (s.setTst x).readData = s.readData := rfl
@[simp] theorem State.setTst_csr (s : State) (x : TestUnit) : (s.setTst x).csr = s.csr := rfl
@[simp] theorem State.setTst_phc (s : State) (x : TestUnit) : (s.setTst x).phc = s.phc := rfl
@[simp] theorem State.setTst_mem (s : State) (x : TestUnit) : (s.setTst x).mem = s.mem := rfl
@[simp] theorem State.setTst_threads (s : State) (x : TestUnit) : (s.setTst x).threads = s.threads := rfl
@[simp] theorem State.setTst_engines (s : State) (x : TestUnit) : (s.setTst x).engines = s.engines := rfl
@[simp] theorem State.setTst_disp (s : State) (x : TestUnit) : (s.setTst x).disp = s.disp := rfl
@[simp] theorem State.setTst_jobs (s : State) (x : TestUnit) : (s.setTst x).jobs = s.jobs := rfl
@[simp] theorem State.setTst_tricks (s : State) (x : TestUnit) : (s.setTst x).tricks = s.tricks := rfl
@[simp] theorem State.setTst_ks (s : State) (x : TestUnit) : (s.setTst x).ks = s.ks := rfl
@[simp] theorem State.setTst_ft (s : State) (x : TestUnit) : (s.setTst x).ft = s.ft := rfl
@[simp] theorem State.setTst_nose (s : State) (x : TestUnit) : (s.setTst x).nose = s.nose := rfl
@[simp] theorem State.setTst_pack (s : State) (x : TestUnit) : (s.setTst x).pack = s.pack := rfl
@[simp] theorem State.setTst_st (s : State) (x : TestUnit) : (s.setTst x).st = s.st := rfl
@[simp] theorem State.setTst_net (s : State) (x : TestUnit) : (s.setTst x).net = s.net := rfl
@[simp] theorem State.setTst_cph (s : State) (x : TestUnit) : (s.setTst x).cph = s.cph := rfl
@[simp] theorem State.setTst_drc (s : State) (x : TestUnit) : (s.setTst x).drc = s.drc := rfl
@[simp] theorem State.setTst_fence (s : State) (x : TestUnit) : (s.setTst x).fence = s.fence := rfl
@[simp] theorem State.setTst_cfg (s : State) (x : TestUnit) : (s.setTst x).cfg = s.cfg := rfl
@[simp] theorem State.setTst_keeper (s : State) (x : TestUnit) : (s.setTst x).keeper = s.keeper := rfl
@[simp] theorem State.setTst_trail (s : State) (x : TestUnit) : (s.setTst x).trail = s.trail := rfl
@[simp] theorem State.setTst_power (s : State) (x : TestUnit) : (s.setTst x).power = s.power := rfl
@[simp] theorem State.setTst_brace (s : State) (x : TestUnit) : (s.setTst x).brace = s.brace := rfl
@[simp] theorem State.setTst_upd (s : State) (x : TestUnit) : (s.setTst x).upd = s.upd := rfl
@[simp] theorem State.setTst_tst (s : State) (x : TestUnit) : (s.setTst x).tst = x := rfl
@[simp] theorem State.setTst_jtag (s : State) (x : TestUnit) : (s.setTst x).jtag = s.jtag := rfl
@[simp] theorem State.setTst_corrupt (s : State) (x : TestUnit) : (s.setTst x).corrupt = s.corrupt := rfl
@[simp] theorem State.setTst_rd (s : State) (x : TestUnit) (a : Nat) : (s.setTst x).rd a = s.rd a := rfl
@[simp] theorem State.setTst_c64 (s : State) (x : TestUnit) (a : Nat) : (s.setTst x).c64 a = s.c64 a := rfl
@[simp] theorem State.setTst_flag (s : State) (x : TestUnit) (a i : Nat) : (s.setTst x).flag a i = s.flag a i := rfl
@[simp] theorem State.setTst_fld (s : State) (x : TestUnit) (a hi lo : Nat) : (s.setTst x).fld a hi lo = s.fld a hi lo := rfl
@[simp] theorem State.setTst_th (s : State) (x : TestUnit) (t : Nat) : (s.setTst x).th t = s.th t := rfl
@[simp] theorem State.setTst_en (s : State) (x : TestUnit) (e : Nat) : (s.setTst x).en e = s.en e := rfl

@[simp] theorem State.setTap_pending (s : State) (x : Tap) : (s.setTap x).pending = s.pending := rfl
@[simp] theorem State.setTap_now (s : State) (x : Tap) : (s.setTap x).now = s.now := rfl
@[simp] theorem State.setTap_free (s : State) (x : Tap) : (s.setTap x).free = s.free := rfl
@[simp] theorem State.setTap_readData (s : State) (x : Tap) : (s.setTap x).readData = s.readData := rfl
@[simp] theorem State.setTap_csr (s : State) (x : Tap) : (s.setTap x).csr = s.csr := rfl
@[simp] theorem State.setTap_phc (s : State) (x : Tap) : (s.setTap x).phc = s.phc := rfl
@[simp] theorem State.setTap_mem (s : State) (x : Tap) : (s.setTap x).mem = s.mem := rfl
@[simp] theorem State.setTap_threads (s : State) (x : Tap) : (s.setTap x).threads = s.threads := rfl
@[simp] theorem State.setTap_engines (s : State) (x : Tap) : (s.setTap x).engines = s.engines := rfl
@[simp] theorem State.setTap_disp (s : State) (x : Tap) : (s.setTap x).disp = s.disp := rfl
@[simp] theorem State.setTap_jobs (s : State) (x : Tap) : (s.setTap x).jobs = s.jobs := rfl
@[simp] theorem State.setTap_tricks (s : State) (x : Tap) : (s.setTap x).tricks = s.tricks := rfl
@[simp] theorem State.setTap_ks (s : State) (x : Tap) : (s.setTap x).ks = s.ks := rfl
@[simp] theorem State.setTap_ft (s : State) (x : Tap) : (s.setTap x).ft = s.ft := rfl
@[simp] theorem State.setTap_nose (s : State) (x : Tap) : (s.setTap x).nose = s.nose := rfl
@[simp] theorem State.setTap_pack (s : State) (x : Tap) : (s.setTap x).pack = s.pack := rfl
@[simp] theorem State.setTap_st (s : State) (x : Tap) : (s.setTap x).st = s.st := rfl
@[simp] theorem State.setTap_net (s : State) (x : Tap) : (s.setTap x).net = s.net := rfl
@[simp] theorem State.setTap_cph (s : State) (x : Tap) : (s.setTap x).cph = s.cph := rfl
@[simp] theorem State.setTap_drc (s : State) (x : Tap) : (s.setTap x).drc = s.drc := rfl
@[simp] theorem State.setTap_fence (s : State) (x : Tap) : (s.setTap x).fence = s.fence := rfl
@[simp] theorem State.setTap_cfg (s : State) (x : Tap) : (s.setTap x).cfg = s.cfg := rfl
@[simp] theorem State.setTap_keeper (s : State) (x : Tap) : (s.setTap x).keeper = s.keeper := rfl
@[simp] theorem State.setTap_trail (s : State) (x : Tap) : (s.setTap x).trail = s.trail := rfl
@[simp] theorem State.setTap_power (s : State) (x : Tap) : (s.setTap x).power = s.power := rfl
@[simp] theorem State.setTap_brace (s : State) (x : Tap) : (s.setTap x).brace = s.brace := rfl
@[simp] theorem State.setTap_upd (s : State) (x : Tap) : (s.setTap x).upd = s.upd := rfl
@[simp] theorem State.setTap_tst (s : State) (x : Tap) : (s.setTap x).tst = s.tst := rfl
@[simp] theorem State.setTap_jtag (s : State) (x : Tap) : (s.setTap x).jtag = x := rfl
@[simp] theorem State.setTap_corrupt (s : State) (x : Tap) : (s.setTap x).corrupt = s.corrupt := rfl
@[simp] theorem State.setTap_rd (s : State) (x : Tap) (a : Nat) : (s.setTap x).rd a = s.rd a := rfl
@[simp] theorem State.setTap_c64 (s : State) (x : Tap) (a : Nat) : (s.setTap x).c64 a = s.c64 a := rfl
@[simp] theorem State.setTap_flag (s : State) (x : Tap) (a i : Nat) : (s.setTap x).flag a i = s.flag a i := rfl
@[simp] theorem State.setTap_fld (s : State) (x : Tap) (a hi lo : Nat) : (s.setTap x).fld a hi lo = s.fld a hi lo := rfl
@[simp] theorem State.setTap_th (s : State) (x : Tap) (t : Nat) : (s.setTap x).th t = s.th t := rfl
@[simp] theorem State.setTap_en (s : State) (x : Tap) (e : Nat) : (s.setTap x).en e = s.en e := rfl

@[simp] theorem State.setDrc_pending (s : State) (x : Dram) : (s.setDrc x).pending = s.pending := rfl
@[simp] theorem State.setDrc_now (s : State) (x : Dram) : (s.setDrc x).now = s.now := rfl
@[simp] theorem State.setDrc_free (s : State) (x : Dram) : (s.setDrc x).free = s.free := rfl
@[simp] theorem State.setDrc_readData (s : State) (x : Dram) : (s.setDrc x).readData = s.readData := rfl
@[simp] theorem State.setDrc_csr (s : State) (x : Dram) : (s.setDrc x).csr = s.csr := rfl
@[simp] theorem State.setDrc_phc (s : State) (x : Dram) : (s.setDrc x).phc = s.phc := rfl
@[simp] theorem State.setDrc_mem (s : State) (x : Dram) : (s.setDrc x).mem = s.mem := rfl
@[simp] theorem State.setDrc_threads (s : State) (x : Dram) : (s.setDrc x).threads = s.threads := rfl
@[simp] theorem State.setDrc_engines (s : State) (x : Dram) : (s.setDrc x).engines = s.engines := rfl
@[simp] theorem State.setDrc_disp (s : State) (x : Dram) : (s.setDrc x).disp = s.disp := rfl
@[simp] theorem State.setDrc_jobs (s : State) (x : Dram) : (s.setDrc x).jobs = s.jobs := rfl
@[simp] theorem State.setDrc_tricks (s : State) (x : Dram) : (s.setDrc x).tricks = s.tricks := rfl
@[simp] theorem State.setDrc_ks (s : State) (x : Dram) : (s.setDrc x).ks = s.ks := rfl
@[simp] theorem State.setDrc_ft (s : State) (x : Dram) : (s.setDrc x).ft = s.ft := rfl
@[simp] theorem State.setDrc_nose (s : State) (x : Dram) : (s.setDrc x).nose = s.nose := rfl
@[simp] theorem State.setDrc_pack (s : State) (x : Dram) : (s.setDrc x).pack = s.pack := rfl
@[simp] theorem State.setDrc_st (s : State) (x : Dram) : (s.setDrc x).st = s.st := rfl
@[simp] theorem State.setDrc_net (s : State) (x : Dram) : (s.setDrc x).net = s.net := rfl
@[simp] theorem State.setDrc_cph (s : State) (x : Dram) : (s.setDrc x).cph = s.cph := rfl
@[simp] theorem State.setDrc_drc (s : State) (x : Dram) : (s.setDrc x).drc = x := rfl
@[simp] theorem State.setDrc_fence (s : State) (x : Dram) : (s.setDrc x).fence = s.fence := rfl
@[simp] theorem State.setDrc_cfg (s : State) (x : Dram) : (s.setDrc x).cfg = s.cfg := rfl
@[simp] theorem State.setDrc_keeper (s : State) (x : Dram) : (s.setDrc x).keeper = s.keeper := rfl
@[simp] theorem State.setDrc_trail (s : State) (x : Dram) : (s.setDrc x).trail = s.trail := rfl
@[simp] theorem State.setDrc_power (s : State) (x : Dram) : (s.setDrc x).power = s.power := rfl
@[simp] theorem State.setDrc_brace (s : State) (x : Dram) : (s.setDrc x).brace = s.brace := rfl
@[simp] theorem State.setDrc_upd (s : State) (x : Dram) : (s.setDrc x).upd = s.upd := rfl
@[simp] theorem State.setDrc_tst (s : State) (x : Dram) : (s.setDrc x).tst = s.tst := rfl
@[simp] theorem State.setDrc_jtag (s : State) (x : Dram) : (s.setDrc x).jtag = s.jtag := rfl
@[simp] theorem State.setDrc_corrupt (s : State) (x : Dram) : (s.setDrc x).corrupt = s.corrupt := rfl
@[simp] theorem State.setDrc_rd (s : State) (x : Dram) (a : Nat) : (s.setDrc x).rd a = s.rd a := rfl
@[simp] theorem State.setDrc_c64 (s : State) (x : Dram) (a : Nat) : (s.setDrc x).c64 a = s.c64 a := rfl
@[simp] theorem State.setDrc_flag (s : State) (x : Dram) (a i : Nat) : (s.setDrc x).flag a i = s.flag a i := rfl
@[simp] theorem State.setDrc_fld (s : State) (x : Dram) (a hi lo : Nat) : (s.setDrc x).fld a hi lo = s.fld a hi lo := rfl
@[simp] theorem State.setDrc_th (s : State) (x : Dram) (t : Nat) : (s.setDrc x).th t = s.th t := rfl
@[simp] theorem State.setDrc_en (s : State) (x : Dram) (e : Nat) : (s.setDrc x).en e = s.en e := rfl

@[simp] theorem State.setCph_pending (s : State) (x : Cipher) : (s.setCph x).pending = s.pending := rfl
@[simp] theorem State.setCph_now (s : State) (x : Cipher) : (s.setCph x).now = s.now := rfl
@[simp] theorem State.setCph_free (s : State) (x : Cipher) : (s.setCph x).free = s.free := rfl
@[simp] theorem State.setCph_readData (s : State) (x : Cipher) : (s.setCph x).readData = s.readData := rfl
@[simp] theorem State.setCph_csr (s : State) (x : Cipher) : (s.setCph x).csr = s.csr := rfl
@[simp] theorem State.setCph_phc (s : State) (x : Cipher) : (s.setCph x).phc = s.phc := rfl
@[simp] theorem State.setCph_mem (s : State) (x : Cipher) : (s.setCph x).mem = s.mem := rfl
@[simp] theorem State.setCph_threads (s : State) (x : Cipher) : (s.setCph x).threads = s.threads := rfl
@[simp] theorem State.setCph_engines (s : State) (x : Cipher) : (s.setCph x).engines = s.engines := rfl
@[simp] theorem State.setCph_disp (s : State) (x : Cipher) : (s.setCph x).disp = s.disp := rfl
@[simp] theorem State.setCph_jobs (s : State) (x : Cipher) : (s.setCph x).jobs = s.jobs := rfl
@[simp] theorem State.setCph_tricks (s : State) (x : Cipher) : (s.setCph x).tricks = s.tricks := rfl
@[simp] theorem State.setCph_ks (s : State) (x : Cipher) : (s.setCph x).ks = s.ks := rfl
@[simp] theorem State.setCph_ft (s : State) (x : Cipher) : (s.setCph x).ft = s.ft := rfl
@[simp] theorem State.setCph_nose (s : State) (x : Cipher) : (s.setCph x).nose = s.nose := rfl
@[simp] theorem State.setCph_pack (s : State) (x : Cipher) : (s.setCph x).pack = s.pack := rfl
@[simp] theorem State.setCph_st (s : State) (x : Cipher) : (s.setCph x).st = s.st := rfl
@[simp] theorem State.setCph_net (s : State) (x : Cipher) : (s.setCph x).net = s.net := rfl
@[simp] theorem State.setCph_cph (s : State) (x : Cipher) : (s.setCph x).cph = x := rfl
@[simp] theorem State.setCph_drc (s : State) (x : Cipher) : (s.setCph x).drc = s.drc := rfl
@[simp] theorem State.setCph_fence (s : State) (x : Cipher) : (s.setCph x).fence = s.fence := rfl
@[simp] theorem State.setCph_cfg (s : State) (x : Cipher) : (s.setCph x).cfg = s.cfg := rfl
@[simp] theorem State.setCph_keeper (s : State) (x : Cipher) : (s.setCph x).keeper = s.keeper := rfl
@[simp] theorem State.setCph_trail (s : State) (x : Cipher) : (s.setCph x).trail = s.trail := rfl
@[simp] theorem State.setCph_power (s : State) (x : Cipher) : (s.setCph x).power = s.power := rfl
@[simp] theorem State.setCph_brace (s : State) (x : Cipher) : (s.setCph x).brace = s.brace := rfl
@[simp] theorem State.setCph_upd (s : State) (x : Cipher) : (s.setCph x).upd = s.upd := rfl
@[simp] theorem State.setCph_tst (s : State) (x : Cipher) : (s.setCph x).tst = s.tst := rfl
@[simp] theorem State.setCph_jtag (s : State) (x : Cipher) : (s.setCph x).jtag = s.jtag := rfl
@[simp] theorem State.setCph_corrupt (s : State) (x : Cipher) : (s.setCph x).corrupt = s.corrupt := rfl
@[simp] theorem State.setCph_rd (s : State) (x : Cipher) (a : Nat) : (s.setCph x).rd a = s.rd a := rfl
@[simp] theorem State.setCph_c64 (s : State) (x : Cipher) (a : Nat) : (s.setCph x).c64 a = s.c64 a := rfl
@[simp] theorem State.setCph_flag (s : State) (x : Cipher) (a i : Nat) : (s.setCph x).flag a i = s.flag a i := rfl
@[simp] theorem State.setCph_fld (s : State) (x : Cipher) (a hi lo : Nat) : (s.setCph x).fld a hi lo = s.fld a hi lo := rfl
@[simp] theorem State.setCph_th (s : State) (x : Cipher) (t : Nat) : (s.setCph x).th t = s.th t := rfl
@[simp] theorem State.setCph_en (s : State) (x : Cipher) (e : Nat) : (s.setCph x).en e = s.en e := rfl

@[simp] theorem State.setNet_pending (s : State) (x : Net) : (s.setNet x).pending = s.pending := rfl
@[simp] theorem State.setNet_now (s : State) (x : Net) : (s.setNet x).now = s.now := rfl
@[simp] theorem State.setNet_free (s : State) (x : Net) : (s.setNet x).free = s.free := rfl
@[simp] theorem State.setNet_readData (s : State) (x : Net) : (s.setNet x).readData = s.readData := rfl
@[simp] theorem State.setNet_csr (s : State) (x : Net) : (s.setNet x).csr = s.csr := rfl
@[simp] theorem State.setNet_phc (s : State) (x : Net) : (s.setNet x).phc = s.phc := rfl
@[simp] theorem State.setNet_mem (s : State) (x : Net) : (s.setNet x).mem = s.mem := rfl
@[simp] theorem State.setNet_threads (s : State) (x : Net) : (s.setNet x).threads = s.threads := rfl
@[simp] theorem State.setNet_engines (s : State) (x : Net) : (s.setNet x).engines = s.engines := rfl
@[simp] theorem State.setNet_disp (s : State) (x : Net) : (s.setNet x).disp = s.disp := rfl
@[simp] theorem State.setNet_jobs (s : State) (x : Net) : (s.setNet x).jobs = s.jobs := rfl
@[simp] theorem State.setNet_tricks (s : State) (x : Net) : (s.setNet x).tricks = s.tricks := rfl
@[simp] theorem State.setNet_ks (s : State) (x : Net) : (s.setNet x).ks = s.ks := rfl
@[simp] theorem State.setNet_ft (s : State) (x : Net) : (s.setNet x).ft = s.ft := rfl
@[simp] theorem State.setNet_nose (s : State) (x : Net) : (s.setNet x).nose = s.nose := rfl
@[simp] theorem State.setNet_pack (s : State) (x : Net) : (s.setNet x).pack = s.pack := rfl
@[simp] theorem State.setNet_st (s : State) (x : Net) : (s.setNet x).st = s.st := rfl
@[simp] theorem State.setNet_net (s : State) (x : Net) : (s.setNet x).net = x := rfl
@[simp] theorem State.setNet_cph (s : State) (x : Net) : (s.setNet x).cph = s.cph := rfl
@[simp] theorem State.setNet_drc (s : State) (x : Net) : (s.setNet x).drc = s.drc := rfl
@[simp] theorem State.setNet_fence (s : State) (x : Net) : (s.setNet x).fence = s.fence := rfl
@[simp] theorem State.setNet_cfg (s : State) (x : Net) : (s.setNet x).cfg = s.cfg := rfl
@[simp] theorem State.setNet_keeper (s : State) (x : Net) : (s.setNet x).keeper = s.keeper := rfl
@[simp] theorem State.setNet_trail (s : State) (x : Net) : (s.setNet x).trail = s.trail := rfl
@[simp] theorem State.setNet_power (s : State) (x : Net) : (s.setNet x).power = s.power := rfl
@[simp] theorem State.setNet_brace (s : State) (x : Net) : (s.setNet x).brace = s.brace := rfl
@[simp] theorem State.setNet_upd (s : State) (x : Net) : (s.setNet x).upd = s.upd := rfl
@[simp] theorem State.setNet_tst (s : State) (x : Net) : (s.setNet x).tst = s.tst := rfl
@[simp] theorem State.setNet_jtag (s : State) (x : Net) : (s.setNet x).jtag = s.jtag := rfl
@[simp] theorem State.setNet_corrupt (s : State) (x : Net) : (s.setNet x).corrupt = s.corrupt := rfl
@[simp] theorem State.setNet_rd (s : State) (x : Net) (a : Nat) : (s.setNet x).rd a = s.rd a := rfl
@[simp] theorem State.setNet_c64 (s : State) (x : Net) (a : Nat) : (s.setNet x).c64 a = s.c64 a := rfl
@[simp] theorem State.setNet_flag (s : State) (x : Net) (a i : Nat) : (s.setNet x).flag a i = s.flag a i := rfl
@[simp] theorem State.setNet_fld (s : State) (x : Net) (a hi lo : Nat) : (s.setNet x).fld a hi lo = s.fld a hi lo := rfl
@[simp] theorem State.setNet_th (s : State) (x : Net) (t : Nat) : (s.setNet x).th t = s.th t := rfl
@[simp] theorem State.setNet_en (s : State) (x : Net) (e : Nat) : (s.setNet x).en e = s.en e := rfl

@[simp] theorem State.wr_pending (s : State) (a v : Nat) : (s.wr a v).pending = s.pending := rfl
@[simp] theorem State.wr_now (s : State) (a v : Nat) : (s.wr a v).now = s.now := rfl
@[simp] theorem State.wr_free (s : State) (a v : Nat) : (s.wr a v).free = s.free := rfl
@[simp] theorem State.wr_readData (s : State) (a v : Nat) : (s.wr a v).readData = s.readData := rfl
@[simp] theorem State.wr_csr (s : State) (a v : Nat) : (s.wr a v).csr = { s.csr with words := mset s.csr.words a (v % 2 ^ 32) } := rfl
@[simp] theorem State.wr_phc (s : State) (a v : Nat) : (s.wr a v).phc = s.phc := rfl
@[simp] theorem State.wr_mem (s : State) (a v : Nat) : (s.wr a v).mem = s.mem := rfl
@[simp] theorem State.wr_threads (s : State) (a v : Nat) : (s.wr a v).threads = s.threads := rfl
@[simp] theorem State.wr_engines (s : State) (a v : Nat) : (s.wr a v).engines = s.engines := rfl
@[simp] theorem State.wr_disp (s : State) (a v : Nat) : (s.wr a v).disp = s.disp := rfl
@[simp] theorem State.wr_jobs (s : State) (a v : Nat) : (s.wr a v).jobs = s.jobs := rfl
@[simp] theorem State.wr_tricks (s : State) (a v : Nat) : (s.wr a v).tricks = s.tricks := rfl
@[simp] theorem State.wr_ks (s : State) (a v : Nat) : (s.wr a v).ks = s.ks := rfl
@[simp] theorem State.wr_ft (s : State) (a v : Nat) : (s.wr a v).ft = s.ft := rfl
@[simp] theorem State.wr_nose (s : State) (a v : Nat) : (s.wr a v).nose = s.nose := rfl
@[simp] theorem State.wr_pack (s : State) (a v : Nat) : (s.wr a v).pack = s.pack := rfl
@[simp] theorem State.wr_st (s : State) (a v : Nat) : (s.wr a v).st = s.st := rfl
@[simp] theorem State.wr_net (s : State) (a v : Nat) : (s.wr a v).net = s.net := rfl
@[simp] theorem State.wr_cph (s : State) (a v : Nat) : (s.wr a v).cph = s.cph := rfl
@[simp] theorem State.wr_drc (s : State) (a v : Nat) : (s.wr a v).drc = s.drc := rfl
@[simp] theorem State.wr_fence (s : State) (a v : Nat) : (s.wr a v).fence = s.fence := rfl
@[simp] theorem State.wr_cfg (s : State) (a v : Nat) : (s.wr a v).cfg = s.cfg := rfl
@[simp] theorem State.wr_keeper (s : State) (a v : Nat) : (s.wr a v).keeper = s.keeper := rfl
@[simp] theorem State.wr_trail (s : State) (a v : Nat) : (s.wr a v).trail = s.trail := rfl
@[simp] theorem State.wr_power (s : State) (a v : Nat) : (s.wr a v).power = s.power := rfl
@[simp] theorem State.wr_brace (s : State) (a v : Nat) : (s.wr a v).brace = s.brace := rfl
@[simp] theorem State.wr_upd (s : State) (a v : Nat) : (s.wr a v).upd = s.upd := rfl
@[simp] theorem State.wr_tst (s : State) (a v : Nat) : (s.wr a v).tst = s.tst := rfl
@[simp] theorem State.wr_jtag (s : State) (a v : Nat) : (s.wr a v).jtag = s.jtag := rfl
@[simp] theorem State.wr_corrupt (s : State) (a v : Nat) : (s.wr a v).corrupt = s.corrupt := rfl
@[simp] theorem State.wr_ctrs (s : State) (a v : Nat) : (s.wr a v).csr.ctrs = s.csr.ctrs := rfl
@[simp] theorem State.wr_c64 (s : State) (a v : Nat) (k : Nat) : (s.wr a v).c64 k = s.c64 k := rfl
@[simp] theorem State.wr_th (s : State) (a v : Nat) (k : Nat) : (s.wr a v).th k = s.th k := rfl
@[simp] theorem State.wr_en (s : State) (a v : Nat) (k : Nat) : (s.wr a v).en k = s.en k := rfl

@[simp] theorem State.setFld_pending (s : State) (a hi lo v : Nat) : (s.setFld a hi lo v).pending = s.pending := rfl
@[simp] theorem State.setFld_now (s : State) (a hi lo v : Nat) : (s.setFld a hi lo v).now = s.now := rfl
@[simp] theorem State.setFld_free (s : State) (a hi lo v : Nat) : (s.setFld a hi lo v).free = s.free := rfl
@[simp] theorem State.setFld_readData (s : State) (a hi lo v : Nat) : (s.setFld a hi lo v).readData = s.readData := rfl
@[simp] theorem State.setFld_phc (s : State) (a hi lo v : Nat) : (s.setFld a hi lo v).phc = s.phc := rfl
@[simp] theorem State.setFld_mem (s : State) (a hi lo v : Nat) : (s.setFld a hi lo v).mem = s.mem := rfl
@[simp] theorem State.setFld_threads (s : State) (a hi lo v : Nat) : (s.setFld a hi lo v).threads = s.threads := rfl
@[simp] theorem State.setFld_engines (s : State) (a hi lo v : Nat) : (s.setFld a hi lo v).engines = s.engines := rfl
@[simp] theorem State.setFld_disp (s : State) (a hi lo v : Nat) : (s.setFld a hi lo v).disp = s.disp := rfl
@[simp] theorem State.setFld_jobs (s : State) (a hi lo v : Nat) : (s.setFld a hi lo v).jobs = s.jobs := rfl
@[simp] theorem State.setFld_tricks (s : State) (a hi lo v : Nat) : (s.setFld a hi lo v).tricks = s.tricks := rfl
@[simp] theorem State.setFld_ks (s : State) (a hi lo v : Nat) : (s.setFld a hi lo v).ks = s.ks := rfl
@[simp] theorem State.setFld_ft (s : State) (a hi lo v : Nat) : (s.setFld a hi lo v).ft = s.ft := rfl
@[simp] theorem State.setFld_nose (s : State) (a hi lo v : Nat) : (s.setFld a hi lo v).nose = s.nose := rfl
@[simp] theorem State.setFld_pack (s : State) (a hi lo v : Nat) : (s.setFld a hi lo v).pack = s.pack := rfl
@[simp] theorem State.setFld_st (s : State) (a hi lo v : Nat) : (s.setFld a hi lo v).st = s.st := rfl
@[simp] theorem State.setFld_net (s : State) (a hi lo v : Nat) : (s.setFld a hi lo v).net = s.net := rfl
@[simp] theorem State.setFld_cph (s : State) (a hi lo v : Nat) : (s.setFld a hi lo v).cph = s.cph := rfl
@[simp] theorem State.setFld_drc (s : State) (a hi lo v : Nat) : (s.setFld a hi lo v).drc = s.drc := rfl
@[simp] theorem State.setFld_fence (s : State) (a hi lo v : Nat) : (s.setFld a hi lo v).fence = s.fence := rfl
@[simp] theorem State.setFld_cfg (s : State) (a hi lo v : Nat) : (s.setFld a hi lo v).cfg = s.cfg := rfl
@[simp] theorem State.setFld_keeper (s : State) (a hi lo v : Nat) : (s.setFld a hi lo v).keeper = s.keeper := rfl
@[simp] theorem State.setFld_trail (s : State) (a hi lo v : Nat) : (s.setFld a hi lo v).trail = s.trail := rfl
@[simp] theorem State.setFld_power (s : State) (a hi lo v : Nat) : (s.setFld a hi lo v).power = s.power := rfl
@[simp] theorem State.setFld_brace (s : State) (a hi lo v : Nat) : (s.setFld a hi lo v).brace = s.brace := rfl
@[simp] theorem State.setFld_upd (s : State) (a hi lo v : Nat) : (s.setFld a hi lo v).upd = s.upd := rfl
@[simp] theorem State.setFld_tst (s : State) (a hi lo v : Nat) : (s.setFld a hi lo v).tst = s.tst := rfl
@[simp] theorem State.setFld_jtag (s : State) (a hi lo v : Nat) : (s.setFld a hi lo v).jtag = s.jtag := rfl
@[simp] theorem State.setFld_corrupt (s : State) (a hi lo v : Nat) : (s.setFld a hi lo v).corrupt = s.corrupt := rfl
@[simp] theorem State.setFld_ctrs (s : State) (a hi lo v : Nat) : (s.setFld a hi lo v).csr.ctrs = s.csr.ctrs := rfl
@[simp] theorem State.setFld_c64 (s : State) (a hi lo v : Nat) (k : Nat) : (s.setFld a hi lo v).c64 k = s.c64 k := rfl
@[simp] theorem State.setFld_th (s : State) (a hi lo v : Nat) (k : Nat) : (s.setFld a hi lo v).th k = s.th k := rfl
@[simp] theorem State.setFld_en (s : State) (a hi lo v : Nat) (k : Nat) : (s.setFld a hi lo v).en k = s.en k := rfl

@[simp] theorem State.setFlag_pending (s : State) (a i : Nat) (b : Bool) : (s.setFlag a i b).pending = s.pending := rfl
@[simp] theorem State.setFlag_now (s : State) (a i : Nat) (b : Bool) : (s.setFlag a i b).now = s.now := rfl
@[simp] theorem State.setFlag_free (s : State) (a i : Nat) (b : Bool) : (s.setFlag a i b).free = s.free := rfl
@[simp] theorem State.setFlag_readData (s : State) (a i : Nat) (b : Bool) : (s.setFlag a i b).readData = s.readData := rfl
@[simp] theorem State.setFlag_phc (s : State) (a i : Nat) (b : Bool) : (s.setFlag a i b).phc = s.phc := rfl
@[simp] theorem State.setFlag_mem (s : State) (a i : Nat) (b : Bool) : (s.setFlag a i b).mem = s.mem := rfl
@[simp] theorem State.setFlag_threads (s : State) (a i : Nat) (b : Bool) : (s.setFlag a i b).threads = s.threads := rfl
@[simp] theorem State.setFlag_engines (s : State) (a i : Nat) (b : Bool) : (s.setFlag a i b).engines = s.engines := rfl
@[simp] theorem State.setFlag_disp (s : State) (a i : Nat) (b : Bool) : (s.setFlag a i b).disp = s.disp := rfl
@[simp] theorem State.setFlag_jobs (s : State) (a i : Nat) (b : Bool) : (s.setFlag a i b).jobs = s.jobs := rfl
@[simp] theorem State.setFlag_tricks (s : State) (a i : Nat) (b : Bool) : (s.setFlag a i b).tricks = s.tricks := rfl
@[simp] theorem State.setFlag_ks (s : State) (a i : Nat) (b : Bool) : (s.setFlag a i b).ks = s.ks := rfl
@[simp] theorem State.setFlag_ft (s : State) (a i : Nat) (b : Bool) : (s.setFlag a i b).ft = s.ft := rfl
@[simp] theorem State.setFlag_nose (s : State) (a i : Nat) (b : Bool) : (s.setFlag a i b).nose = s.nose := rfl
@[simp] theorem State.setFlag_pack (s : State) (a i : Nat) (b : Bool) : (s.setFlag a i b).pack = s.pack := rfl
@[simp] theorem State.setFlag_st (s : State) (a i : Nat) (b : Bool) : (s.setFlag a i b).st = s.st := rfl
@[simp] theorem State.setFlag_net (s : State) (a i : Nat) (b : Bool) : (s.setFlag a i b).net = s.net := rfl
@[simp] theorem State.setFlag_cph (s : State) (a i : Nat) (b : Bool) : (s.setFlag a i b).cph = s.cph := rfl
@[simp] theorem State.setFlag_drc (s : State) (a i : Nat) (b : Bool) : (s.setFlag a i b).drc = s.drc := rfl
@[simp] theorem State.setFlag_fence (s : State) (a i : Nat) (b : Bool) : (s.setFlag a i b).fence = s.fence := rfl
@[simp] theorem State.setFlag_cfg (s : State) (a i : Nat) (b : Bool) : (s.setFlag a i b).cfg = s.cfg := rfl
@[simp] theorem State.setFlag_keeper (s : State) (a i : Nat) (b : Bool) : (s.setFlag a i b).keeper = s.keeper := rfl
@[simp] theorem State.setFlag_trail (s : State) (a i : Nat) (b : Bool) : (s.setFlag a i b).trail = s.trail := rfl
@[simp] theorem State.setFlag_power (s : State) (a i : Nat) (b : Bool) : (s.setFlag a i b).power = s.power := rfl
@[simp] theorem State.setFlag_brace (s : State) (a i : Nat) (b : Bool) : (s.setFlag a i b).brace = s.brace := rfl
@[simp] theorem State.setFlag_upd (s : State) (a i : Nat) (b : Bool) : (s.setFlag a i b).upd = s.upd := rfl
@[simp] theorem State.setFlag_tst (s : State) (a i : Nat) (b : Bool) : (s.setFlag a i b).tst = s.tst := rfl
@[simp] theorem State.setFlag_jtag (s : State) (a i : Nat) (b : Bool) : (s.setFlag a i b).jtag = s.jtag := rfl
@[simp] theorem State.setFlag_corrupt (s : State) (a i : Nat) (b : Bool) : (s.setFlag a i b).corrupt = s.corrupt := rfl
@[simp] theorem State.setFlag_ctrs (s : State) (a i : Nat) (b : Bool) : (s.setFlag a i b).csr.ctrs = s.csr.ctrs := rfl
@[simp] theorem State.setFlag_c64 (s : State) (a i : Nat) (b : Bool) (k : Nat) : (s.setFlag a i b).c64 k = s.c64 k := rfl
@[simp] theorem State.setFlag_th (s : State) (a i : Nat) (b : Bool) (k : Nat) : (s.setFlag a i b).th k = s.th k := rfl
@[simp] theorem State.setFlag_en (s : State) (a i : Nat) (b : Bool) (k : Nat) : (s.setFlag a i b).en k = s.en k := rfl

@[simp] theorem State.setC64_pending (s : State) (a v : Nat) : (s.setC64 a v).pending = s.pending := rfl
@[simp] theorem State.setC64_now (s : State) (a v : Nat) : (s.setC64 a v).now = s.now := rfl
@[simp] theorem State.setC64_free (s : State) (a v : Nat) : (s.setC64 a v).free = s.free := rfl
@[simp] theorem State.setC64_readData (s : State) (a v : Nat) : (s.setC64 a v).readData = s.readData := rfl
@[simp] theorem State.setC64_phc (s : State) (a v : Nat) : (s.setC64 a v).phc = s.phc := rfl
@[simp] theorem State.setC64_mem (s : State) (a v : Nat) : (s.setC64 a v).mem = s.mem := rfl
@[simp] theorem State.setC64_threads (s : State) (a v : Nat) : (s.setC64 a v).threads = s.threads := rfl
@[simp] theorem State.setC64_engines (s : State) (a v : Nat) : (s.setC64 a v).engines = s.engines := rfl
@[simp] theorem State.setC64_disp (s : State) (a v : Nat) : (s.setC64 a v).disp = s.disp := rfl
@[simp] theorem State.setC64_jobs (s : State) (a v : Nat) : (s.setC64 a v).jobs = s.jobs := rfl
@[simp] theorem State.setC64_tricks (s : State) (a v : Nat) : (s.setC64 a v).tricks = s.tricks := rfl
@[simp] theorem State.setC64_ks (s : State) (a v : Nat) : (s.setC64 a v).ks = s.ks := rfl
@[simp] theorem State.setC64_ft (s : State) (a v : Nat) : (s.setC64 a v).ft = s.ft := rfl
@[simp] theorem State.setC64_nose (s : State) (a v : Nat) : (s.setC64 a v).nose = s.nose := rfl
@[simp] theorem State.setC64_pack (s : State) (a v : Nat) : (s.setC64 a v).pack = s.pack := rfl
@[simp] theorem State.setC64_st (s : State) (a v : Nat) : (s.setC64 a v).st = s.st := rfl
@[simp] theorem State.setC64_net (s : State) (a v : Nat) : (s.setC64 a v).net = s.net := rfl
@[simp] theorem State.setC64_cph (s : State) (a v : Nat) : (s.setC64 a v).cph = s.cph := rfl
@[simp] theorem State.setC64_drc (s : State) (a v : Nat) : (s.setC64 a v).drc = s.drc := rfl
@[simp] theorem State.setC64_fence (s : State) (a v : Nat) : (s.setC64 a v).fence = s.fence := rfl
@[simp] theorem State.setC64_cfg (s : State) (a v : Nat) : (s.setC64 a v).cfg = s.cfg := rfl
@[simp] theorem State.setC64_keeper (s : State) (a v : Nat) : (s.setC64 a v).keeper = s.keeper := rfl
@[simp] theorem State.setC64_trail (s : State) (a v : Nat) : (s.setC64 a v).trail = s.trail := rfl
@[simp] theorem State.setC64_power (s : State) (a v : Nat) : (s.setC64 a v).power = s.power := rfl
@[simp] theorem State.setC64_brace (s : State) (a v : Nat) : (s.setC64 a v).brace = s.brace := rfl
@[simp] theorem State.setC64_upd (s : State) (a v : Nat) : (s.setC64 a v).upd = s.upd := rfl
@[simp] theorem State.setC64_tst (s : State) (a v : Nat) : (s.setC64 a v).tst = s.tst := rfl
@[simp] theorem State.setC64_jtag (s : State) (a v : Nat) : (s.setC64 a v).jtag = s.jtag := rfl
@[simp] theorem State.setC64_corrupt (s : State) (a v : Nat) : (s.setC64 a v).corrupt = s.corrupt := rfl
@[simp] theorem State.setC64_words (s : State) (a v : Nat) : (s.setC64 a v).csr.words = s.csr.words := rfl
@[simp] theorem State.setC64_rd (s : State) (a v : Nat) (k : Nat) : (s.setC64 a v).rd k = s.rd k := rfl
@[simp] theorem State.setC64_flag (s : State) (a v : Nat) (k i : Nat) : (s.setC64 a v).flag k i = s.flag k i := rfl
@[simp] theorem State.setC64_fld (s : State) (a v : Nat) (k hi lo : Nat) : (s.setC64 a v).fld k hi lo = s.fld k hi lo := rfl
@[simp] theorem State.setC64_th (s : State) (a v : Nat) (k : Nat) : (s.setC64 a v).th k = s.th k := rfl
@[simp] theorem State.setC64_en (s : State) (a v : Nat) (k : Nat) : (s.setC64 a v).en k = s.en k := rfl

@[simp] theorem State.bump_pending (s : State) (a n : Nat) : (s.bump a n).pending = s.pending := rfl
@[simp] theorem State.bump_now (s : State) (a n : Nat) : (s.bump a n).now = s.now := rfl
@[simp] theorem State.bump_free (s : State) (a n : Nat) : (s.bump a n).free = s.free := rfl
@[simp] theorem State.bump_readData (s : State) (a n : Nat) : (s.bump a n).readData = s.readData := rfl
@[simp] theorem State.bump_phc (s : State) (a n : Nat) : (s.bump a n).phc = s.phc := rfl
@[simp] theorem State.bump_mem (s : State) (a n : Nat) : (s.bump a n).mem = s.mem := rfl
@[simp] theorem State.bump_threads (s : State) (a n : Nat) : (s.bump a n).threads = s.threads := rfl
@[simp] theorem State.bump_engines (s : State) (a n : Nat) : (s.bump a n).engines = s.engines := rfl
@[simp] theorem State.bump_disp (s : State) (a n : Nat) : (s.bump a n).disp = s.disp := rfl
@[simp] theorem State.bump_jobs (s : State) (a n : Nat) : (s.bump a n).jobs = s.jobs := rfl
@[simp] theorem State.bump_tricks (s : State) (a n : Nat) : (s.bump a n).tricks = s.tricks := rfl
@[simp] theorem State.bump_ks (s : State) (a n : Nat) : (s.bump a n).ks = s.ks := rfl
@[simp] theorem State.bump_ft (s : State) (a n : Nat) : (s.bump a n).ft = s.ft := rfl
@[simp] theorem State.bump_nose (s : State) (a n : Nat) : (s.bump a n).nose = s.nose := rfl
@[simp] theorem State.bump_pack (s : State) (a n : Nat) : (s.bump a n).pack = s.pack := rfl
@[simp] theorem State.bump_st (s : State) (a n : Nat) : (s.bump a n).st = s.st := rfl
@[simp] theorem State.bump_net (s : State) (a n : Nat) : (s.bump a n).net = s.net := rfl
@[simp] theorem State.bump_cph (s : State) (a n : Nat) : (s.bump a n).cph = s.cph := rfl
@[simp] theorem State.bump_drc (s : State) (a n : Nat) : (s.bump a n).drc = s.drc := rfl
@[simp] theorem State.bump_fence (s : State) (a n : Nat) : (s.bump a n).fence = s.fence := rfl
@[simp] theorem State.bump_cfg (s : State) (a n : Nat) : (s.bump a n).cfg = s.cfg := rfl
@[simp] theorem State.bump_keeper (s : State) (a n : Nat) : (s.bump a n).keeper = s.keeper := rfl
@[simp] theorem State.bump_trail (s : State) (a n : Nat) : (s.bump a n).trail = s.trail := rfl
@[simp] theorem State.bump_power (s : State) (a n : Nat) : (s.bump a n).power = s.power := rfl
@[simp] theorem State.bump_brace (s : State) (a n : Nat) : (s.bump a n).brace = s.brace := rfl
@[simp] theorem State.bump_upd (s : State) (a n : Nat) : (s.bump a n).upd = s.upd := rfl
@[simp] theorem State.bump_tst (s : State) (a n : Nat) : (s.bump a n).tst = s.tst := rfl
@[simp] theorem State.bump_jtag (s : State) (a n : Nat) : (s.bump a n).jtag = s.jtag := rfl
@[simp] theorem State.bump_corrupt (s : State) (a n : Nat) : (s.bump a n).corrupt = s.corrupt := rfl
@[simp] theorem State.bump_words (s : State) (a n : Nat) : (s.bump a n).csr.words = s.csr.words := rfl
@[simp] theorem State.bump_rd (s : State) (a n : Nat) (k : Nat) : (s.bump a n).rd k = s.rd k := rfl
@[simp] theorem State.bump_flag (s : State) (a n : Nat) (k i : Nat) : (s.bump a n).flag k i = s.flag k i := rfl
@[simp] theorem State.bump_fld (s : State) (a n : Nat) (k hi lo : Nat) : (s.bump a n).fld k hi lo = s.fld k hi lo := rfl
@[simp] theorem State.bump_th (s : State) (a n : Nat) (k : Nat) : (s.bump a n).th k = s.th k := rfl
@[simp] theorem State.bump_en (s : State) (a n : Nat) (k : Nat) : (s.bump a n).en k = s.en k := rfl

@[simp] theorem State.setTh_pending (s : State) (t : Nat) (h : Thread) : (s.setTh t h).pending = s.pending := rfl
@[simp] theorem State.setTh_now (s : State) (t : Nat) (h : Thread) : (s.setTh t h).now = s.now := rfl
@[simp] theorem State.setTh_free (s : State) (t : Nat) (h : Thread) : (s.setTh t h).free = s.free := rfl
@[simp] theorem State.setTh_readData (s : State) (t : Nat) (h : Thread) : (s.setTh t h).readData = s.readData := rfl
@[simp] theorem State.setTh_csr (s : State) (t : Nat) (h : Thread) : (s.setTh t h).csr = s.csr := rfl
@[simp] theorem State.setTh_phc (s : State) (t : Nat) (h : Thread) : (s.setTh t h).phc = s.phc := rfl
@[simp] theorem State.setTh_mem (s : State) (t : Nat) (h : Thread) : (s.setTh t h).mem = s.mem := rfl
@[simp] theorem State.setTh_threads (s : State) (t : Nat) (h : Thread) : (s.setTh t h).threads = mset s.threads t h := rfl
@[simp] theorem State.setTh_engines (s : State) (t : Nat) (h : Thread) : (s.setTh t h).engines = s.engines := rfl
@[simp] theorem State.setTh_disp (s : State) (t : Nat) (h : Thread) : (s.setTh t h).disp = s.disp := rfl
@[simp] theorem State.setTh_jobs (s : State) (t : Nat) (h : Thread) : (s.setTh t h).jobs = s.jobs := rfl
@[simp] theorem State.setTh_tricks (s : State) (t : Nat) (h : Thread) : (s.setTh t h).tricks = s.tricks := rfl
@[simp] theorem State.setTh_ks (s : State) (t : Nat) (h : Thread) : (s.setTh t h).ks = s.ks := rfl
@[simp] theorem State.setTh_ft (s : State) (t : Nat) (h : Thread) : (s.setTh t h).ft = s.ft := rfl
@[simp] theorem State.setTh_nose (s : State) (t : Nat) (h : Thread) : (s.setTh t h).nose = s.nose := rfl
@[simp] theorem State.setTh_pack (s : State) (t : Nat) (h : Thread) : (s.setTh t h).pack = s.pack := rfl
@[simp] theorem State.setTh_st (s : State) (t : Nat) (h : Thread) : (s.setTh t h).st = s.st := rfl
@[simp] theorem State.setTh_net (s : State) (t : Nat) (h : Thread) : (s.setTh t h).net = s.net := rfl
@[simp] theorem State.setTh_cph (s : State) (t : Nat) (h : Thread) : (s.setTh t h).cph = s.cph := rfl
@[simp] theorem State.setTh_drc (s : State) (t : Nat) (h : Thread) : (s.setTh t h).drc = s.drc := rfl
@[simp] theorem State.setTh_fence (s : State) (t : Nat) (h : Thread) : (s.setTh t h).fence = s.fence := rfl
@[simp] theorem State.setTh_cfg (s : State) (t : Nat) (h : Thread) : (s.setTh t h).cfg = s.cfg := rfl
@[simp] theorem State.setTh_keeper (s : State) (t : Nat) (h : Thread) : (s.setTh t h).keeper = s.keeper := rfl
@[simp] theorem State.setTh_trail (s : State) (t : Nat) (h : Thread) : (s.setTh t h).trail = s.trail := rfl
@[simp] theorem State.setTh_power (s : State) (t : Nat) (h : Thread) : (s.setTh t h).power = s.power := rfl
@[simp] theorem State.setTh_brace (s : State) (t : Nat) (h : Thread) : (s.setTh t h).brace = s.brace := rfl
@[simp] theorem State.setTh_upd (s : State) (t : Nat) (h : Thread) : (s.setTh t h).upd = s.upd := rfl
@[simp] theorem State.setTh_tst (s : State) (t : Nat) (h : Thread) : (s.setTh t h).tst = s.tst := rfl
@[simp] theorem State.setTh_jtag (s : State) (t : Nat) (h : Thread) : (s.setTh t h).jtag = s.jtag := rfl
@[simp] theorem State.setTh_corrupt (s : State) (t : Nat) (h : Thread) : (s.setTh t h).corrupt = s.corrupt := rfl
@[simp] theorem State.setTh_rd (s : State) (t : Nat) (h : Thread) (k : Nat) : (s.setTh t h).rd k = s.rd k := rfl
@[simp] theorem State.setTh_c64 (s : State) (t : Nat) (h : Thread) (k : Nat) : (s.setTh t h).c64 k = s.c64 k := rfl
@[simp] theorem State.setTh_flag (s : State) (t : Nat) (h : Thread) (k i : Nat) : (s.setTh t h).flag k i = s.flag k i := rfl
@[simp] theorem State.setTh_fld (s : State) (t : Nat) (h : Thread) (k hi lo : Nat) : (s.setTh t h).fld k hi lo = s.fld k hi lo := rfl

@[simp] theorem State.setEn_pending (s : State) (e : Nat) (h : Engine) : (s.setEn e h).pending = s.pending := rfl
@[simp] theorem State.setEn_now (s : State) (e : Nat) (h : Engine) : (s.setEn e h).now = s.now := rfl
@[simp] theorem State.setEn_free (s : State) (e : Nat) (h : Engine) : (s.setEn e h).free = s.free := rfl
@[simp] theorem State.setEn_readData (s : State) (e : Nat) (h : Engine) : (s.setEn e h).readData = s.readData := rfl
@[simp] theorem State.setEn_csr (s : State) (e : Nat) (h : Engine) : (s.setEn e h).csr = s.csr := rfl
@[simp] theorem State.setEn_phc (s : State) (e : Nat) (h : Engine) : (s.setEn e h).phc = s.phc := rfl
@[simp] theorem State.setEn_mem (s : State) (e : Nat) (h : Engine) : (s.setEn e h).mem = s.mem := rfl
@[simp] theorem State.setEn_threads (s : State) (e : Nat) (h : Engine) : (s.setEn e h).threads = s.threads := rfl
@[simp] theorem State.setEn_engines (s : State) (e : Nat) (h : Engine) : (s.setEn e h).engines = mset s.engines e h := rfl
@[simp] theorem State.setEn_disp (s : State) (e : Nat) (h : Engine) : (s.setEn e h).disp = s.disp := rfl
@[simp] theorem State.setEn_jobs (s : State) (e : Nat) (h : Engine) : (s.setEn e h).jobs = s.jobs := rfl
@[simp] theorem State.setEn_tricks (s : State) (e : Nat) (h : Engine) : (s.setEn e h).tricks = s.tricks := rfl
@[simp] theorem State.setEn_ks (s : State) (e : Nat) (h : Engine) : (s.setEn e h).ks = s.ks := rfl
@[simp] theorem State.setEn_ft (s : State) (e : Nat) (h : Engine) : (s.setEn e h).ft = s.ft := rfl
@[simp] theorem State.setEn_nose (s : State) (e : Nat) (h : Engine) : (s.setEn e h).nose = s.nose := rfl
@[simp] theorem State.setEn_pack (s : State) (e : Nat) (h : Engine) : (s.setEn e h).pack = s.pack := rfl
@[simp] theorem State.setEn_st (s : State) (e : Nat) (h : Engine) : (s.setEn e h).st = s.st := rfl
@[simp] theorem State.setEn_net (s : State) (e : Nat) (h : Engine) : (s.setEn e h).net = s.net := rfl
@[simp] theorem State.setEn_cph (s : State) (e : Nat) (h : Engine) : (s.setEn e h).cph = s.cph := rfl
@[simp] theorem State.setEn_drc (s : State) (e : Nat) (h : Engine) : (s.setEn e h).drc = s.drc := rfl
@[simp] theorem State.setEn_fence (s : State) (e : Nat) (h : Engine) : (s.setEn e h).fence = s.fence := rfl
@[simp] theorem State.setEn_cfg (s : State) (e : Nat) (h : Engine) : (s.setEn e h).cfg = s.cfg := rfl
@[simp] theorem State.setEn_keeper (s : State) (e : Nat) (h : Engine) : (s.setEn e h).keeper = s.keeper := rfl
@[simp] theorem State.setEn_trail (s : State) (e : Nat) (h : Engine) : (s.setEn e h).trail = s.trail := rfl
@[simp] theorem State.setEn_power (s : State) (e : Nat) (h : Engine) : (s.setEn e h).power = s.power := rfl
@[simp] theorem State.setEn_brace (s : State) (e : Nat) (h : Engine) : (s.setEn e h).brace = s.brace := rfl
@[simp] theorem State.setEn_upd (s : State) (e : Nat) (h : Engine) : (s.setEn e h).upd = s.upd := rfl
@[simp] theorem State.setEn_tst (s : State) (e : Nat) (h : Engine) : (s.setEn e h).tst = s.tst := rfl
@[simp] theorem State.setEn_jtag (s : State) (e : Nat) (h : Engine) : (s.setEn e h).jtag = s.jtag := rfl
@[simp] theorem State.setEn_corrupt (s : State) (e : Nat) (h : Engine) : (s.setEn e h).corrupt = s.corrupt := rfl
@[simp] theorem State.setEn_rd (s : State) (e : Nat) (h : Engine) (k : Nat) : (s.setEn e h).rd k = s.rd k := rfl
@[simp] theorem State.setEn_c64 (s : State) (e : Nat) (h : Engine) (k : Nat) : (s.setEn e h).c64 k = s.c64 k := rfl
@[simp] theorem State.setEn_flag (s : State) (e : Nat) (h : Engine) (k i : Nat) : (s.setEn e h).flag k i = s.flag k i := rfl
@[simp] theorem State.setEn_fld (s : State) (e : Nat) (h : Engine) (k hi lo : Nat) : (s.setEn e h).fld k hi lo = s.fld k hi lo := rfl
@[simp] theorem State.setEn_th (s : State) (e : Nat) (h : Engine) (k : Nat) : (s.setEn e h).th k = s.th k := rfl

@[simp] theorem State.setDEng_pending (s : State) (e : Nat) (h : DEng) : (s.setDEng e h).pending = s.pending := rfl
@[simp] theorem State.setDEng_now (s : State) (e : Nat) (h : DEng) : (s.setDEng e h).now = s.now := rfl
@[simp] theorem State.setDEng_free (s : State) (e : Nat) (h : DEng) : (s.setDEng e h).free = s.free := rfl
@[simp] theorem State.setDEng_readData (s : State) (e : Nat) (h : DEng) : (s.setDEng e h).readData = s.readData := rfl
@[simp] theorem State.setDEng_csr (s : State) (e : Nat) (h : DEng) : (s.setDEng e h).csr = s.csr := rfl
@[simp] theorem State.setDEng_phc (s : State) (e : Nat) (h : DEng) : (s.setDEng e h).phc = s.phc := rfl
@[simp] theorem State.setDEng_mem (s : State) (e : Nat) (h : DEng) : (s.setDEng e h).mem = s.mem := rfl
@[simp] theorem State.setDEng_threads (s : State) (e : Nat) (h : DEng) : (s.setDEng e h).threads = s.threads := rfl
@[simp] theorem State.setDEng_engines (s : State) (e : Nat) (h : DEng) : (s.setDEng e h).engines = s.engines := rfl
@[simp] theorem State.setDEng_disp (s : State) (e : Nat) (h : DEng) : (s.setDEng e h).disp = { s.disp with eng := mset s.disp.eng e h } := rfl
@[simp] theorem State.setDEng_jobs (s : State) (e : Nat) (h : DEng) : (s.setDEng e h).jobs = s.jobs := rfl
@[simp] theorem State.setDEng_tricks (s : State) (e : Nat) (h : DEng) : (s.setDEng e h).tricks = s.tricks := rfl
@[simp] theorem State.setDEng_ks (s : State) (e : Nat) (h : DEng) : (s.setDEng e h).ks = s.ks := rfl
@[simp] theorem State.setDEng_ft (s : State) (e : Nat) (h : DEng) : (s.setDEng e h).ft = s.ft := rfl
@[simp] theorem State.setDEng_nose (s : State) (e : Nat) (h : DEng) : (s.setDEng e h).nose = s.nose := rfl
@[simp] theorem State.setDEng_pack (s : State) (e : Nat) (h : DEng) : (s.setDEng e h).pack = s.pack := rfl
@[simp] theorem State.setDEng_st (s : State) (e : Nat) (h : DEng) : (s.setDEng e h).st = s.st := rfl
@[simp] theorem State.setDEng_net (s : State) (e : Nat) (h : DEng) : (s.setDEng e h).net = s.net := rfl
@[simp] theorem State.setDEng_cph (s : State) (e : Nat) (h : DEng) : (s.setDEng e h).cph = s.cph := rfl
@[simp] theorem State.setDEng_drc (s : State) (e : Nat) (h : DEng) : (s.setDEng e h).drc = s.drc := rfl
@[simp] theorem State.setDEng_fence (s : State) (e : Nat) (h : DEng) : (s.setDEng e h).fence = s.fence := rfl
@[simp] theorem State.setDEng_cfg (s : State) (e : Nat) (h : DEng) : (s.setDEng e h).cfg = s.cfg := rfl
@[simp] theorem State.setDEng_keeper (s : State) (e : Nat) (h : DEng) : (s.setDEng e h).keeper = s.keeper := rfl
@[simp] theorem State.setDEng_trail (s : State) (e : Nat) (h : DEng) : (s.setDEng e h).trail = s.trail := rfl
@[simp] theorem State.setDEng_power (s : State) (e : Nat) (h : DEng) : (s.setDEng e h).power = s.power := rfl
@[simp] theorem State.setDEng_brace (s : State) (e : Nat) (h : DEng) : (s.setDEng e h).brace = s.brace := rfl
@[simp] theorem State.setDEng_upd (s : State) (e : Nat) (h : DEng) : (s.setDEng e h).upd = s.upd := rfl
@[simp] theorem State.setDEng_tst (s : State) (e : Nat) (h : DEng) : (s.setDEng e h).tst = s.tst := rfl
@[simp] theorem State.setDEng_jtag (s : State) (e : Nat) (h : DEng) : (s.setDEng e h).jtag = s.jtag := rfl
@[simp] theorem State.setDEng_corrupt (s : State) (e : Nat) (h : DEng) : (s.setDEng e h).corrupt = s.corrupt := rfl
@[simp] theorem State.setDEng_rd (s : State) (e : Nat) (h : DEng) (k : Nat) : (s.setDEng e h).rd k = s.rd k := rfl
@[simp] theorem State.setDEng_c64 (s : State) (e : Nat) (h : DEng) (k : Nat) : (s.setDEng e h).c64 k = s.c64 k := rfl
@[simp] theorem State.setDEng_flag (s : State) (e : Nat) (h : DEng) (k i : Nat) : (s.setDEng e h).flag k i = s.flag k i := rfl
@[simp] theorem State.setDEng_fld (s : State) (e : Nat) (h : DEng) (k hi lo : Nat) : (s.setDEng e h).fld k hi lo = s.fld k hi lo := rfl
@[simp] theorem State.setDEng_th (s : State) (e : Nat) (h : DEng) (k : Nat) : (s.setDEng e h).th k = s.th k := rfl

@[simp] theorem State.setTh_en (s : State) (t : Nat) (h : Thread) (k : Nat) : (s.setTh t h).en k = s.en k := rfl
@[simp] theorem State.setDEng_en (s : State) (e : Nat) (h : DEng) (k : Nat) : (s.setDEng e h).en k = s.en k := rfl

/-- The plane a command needs is decided by `power` alone. -/
theorem State.svUp_power (s u : State) (h : u.power = s.power) : u.svUp = s.svUp := by simp [State.svUp, h]
theorem State.opUp_power (s u : State) (h : u.power = s.power) : u.opUp = s.opUp := by simp [State.opUp, h]

end Sys2Proof.Machine
end

