-- ==== Sys2Proof/Laws/Outcomes.lean ====
section
/-! SUPPORT. The ways a command meets the machine: what each can answer, said once. -/
namespace Sys2Proof.Machine

/-- The only stop: the functional state is undefined (R564). -/
theorem State.onAny_fault (s : State) (f : State → State) (h : s.corrupt = true) : s.onAny f = .fault .functionalStateUndefined := by
  simp [State.onAny, h]

/-- Otherwise the command's effect, with the queue, the test access port and the undefined mark as they were. -/
theorem State.onAny_next (s : State) (f : State → State) (h : s.corrupt = false) :
    s.onAny f = .next { f s with pending := s.pending, jtag := s.jtag, corrupt := s.corrupt } := by
  simp [State.onAny, h]

theorem State.onAny_cases (s : State) (f : State → State) :
    (s.corrupt = true ∧ s.onAny f = .fault .functionalStateUndefined) ∨
      (s.corrupt = false ∧ s.onAny f = .next { f s with pending := s.pending, jtag := s.jtag, corrupt := s.corrupt }) := by
  cases h : s.corrupt
  · exact .inr ⟨rfl, by rw [State.onAny_next s f h, h]⟩
  · exact .inl ⟨rfl, State.onAny_fault s f h⟩

theorem State.onSv_next (s : State) (f : State → State) (h : s.serving) :
    s.onSv f = .next { f s with pending := s.pending, jtag := s.jtag, corrupt := s.corrupt } := by
  simp [State.onSv, State.onAny, h.1, h.2]

/-- A command of a plane that is down has no effect (log entry 2). -/
theorem State.onSv_down (s : State) (f : State → State) (h : s.corrupt = false) (hp : s.svUp = false) : s.onSv f = .next s := by
  rw [State.onSv, State.onAny_next s _ h]; simp only [hp, Bool.false_eq_true, ↓reduceIte]

theorem State.onOp_next (s : State) (f : State → State) (h : s.operating) :
    s.onOp f = .next { f s with pending := s.pending, jtag := s.jtag, corrupt := s.corrupt } := by
  simp [State.onOp, State.onAny, h.1, h.2]

theorem State.onOp_down (s : State) (f : State → State) (h : s.corrupt = false) (hp : s.opUp = false) : s.onOp f = .next s := by
  rw [State.onOp, State.onAny_next s _ h]; simp only [hp, Bool.false_eq_true, ↓reduceIte]

/-- An effect that keeps queue, test access port and mark is the whole answer. -/
theorem State.onAny_keeps (s : State) (f : State → State) (h : s.corrupt = false) (hp : (f s).pending = s.pending) (hj : (f s).jtag = s.jtag)
    (hc : (f s).corrupt = s.corrupt) : s.onAny f = .next (f s) := by
  rw [State.onAny_next s f h, ← hp, ← hj, ← hc]

theorem ends_next (u : State) (P : State → Prop) : ends (.next u) P ↔ P u :=
  ⟨fun ⟨_, e, h⟩ => by cases e; exact h, fun h => ⟨u, rfl, h⟩⟩

end Sys2Proof.Machine
end

