-- ==== Sys2Proof/Laws/Memory.lean ====
section
/-! SUPPORT. Byte memories and keyed tables: a read after a write, and the canonical form kept by every memory operation. -/
namespace Sys2Proof.Machine

/-! Tables. -/

@[simp] theorem mget_mset_same {α : Type} (m : Map α) (k : Nat) (v : α) : mget (mset m k v) k = some v := by
  induction m with
  | nil => simp [mset, mget]
  | cons e t ih =>
    obtain ⟨j, w⟩ := e
    simp only [mset]
    split
    · simp [mget]
    · split
      · simp [mget]
      · simp [mget, *]

theorem mget_mset_other {α : Type} (m : Map α) (k : Nat) (v : α) (x : Nat) (h : x ≠ k) : mget (mset m k v) x = mget m x := by
  induction m with
  | nil => simp [mset, mget, h.symm]
  | cons e t ih =>
    obtain ⟨j, w⟩ := e
    simp only [mset]
    split
    · subst_vars; simp [mget, h.symm]
    · split
      · simp [mget, h.symm]
      · simp only [mget]; split
        · rfl
        · exact ih

theorem mget_mset {α : Type} (m : Map α) (k : Nat) (v : α) (x : Nat) : mget (mset m k v) x = if x = k then some v else mget m x := by
  by_cases h : x = k
  · subst h; simp
  · simp [h, mget_mset_other m k v x h]

theorem mget_mdel {α : Type} (m : Map α) (k x : Nat) : mget (mdel m k) x = if x = k then none else mget m x := by
  induction m with
  | nil => simp [mdel, mget]
  | cons e t ih =>
    obtain ⟨j, w⟩ := e
    simp only [mdel] at ih ⊢
    by_cases hj : j = k
    · subst hj
      simp only [List.filter_cons, bne_self_eq_false, mget, Bool.false_eq_true, ↓reduceIte, ih]
      by_cases hx : x = j
      · simp [hx]
      · simp [hx, Ne.symm hx]
    · simp only [List.filter_cons, bne_iff_ne, ne_eq, hj, not_false_eq_true, ↓reduceIte, mget, ih]
      by_cases hx : j = x
      · subst hx; simp [hj]
      · simp [hx]

/-! One byte. -/

theorem memGet_filter_ne (m : Memory) (a x : Nat) :
    memGet (m.filter fun c => c.1 != a) x = if x = a then 0 else memGet m x := by
  induction m with
  | nil => simp [memGet]
  | cons e t ih =>
    obtain ⟨j, w⟩ := e
    by_cases hj : j = a
    · subst hj
      simp only [List.filter_cons, bne_self_eq_false, Bool.false_eq_true, ↓reduceIte, memGet, ih]
      by_cases hx : x = j
      · simp [hx]
      · simp [hx, Ne.symm hx]
    · simp only [List.filter_cons, bne_iff_ne, ne_eq, hj, not_false_eq_true, ↓reduceIte, memGet, ih]
      by_cases hx : j = x
      · subst hx; simp [hj]
      · simp [hx]

theorem memGet_memPut (m : Memory) (a : Nat) (b : Byte) (h : ∀ e ∈ m, e.1 ≠ a) (x : Nat) :
    memGet (memPut m a b) x = if x = a then b else memGet m x := by
  induction m with
  | nil => simp [memPut, memGet, eq_comm]
  | cons e t ih =>
    obtain ⟨j, w⟩ := e
    have hj : j ≠ a := h (j, w) (by simp)
    have iht := ih fun e he => h e (by simp [he])
    simp only [memPut]
    split
    · simp [memGet, eq_comm]
    · simp only [memGet, iht]
      by_cases hx : j = x
      · subst hx; simp [hj]
      · simp [hx]

/-- A read after a write of one byte. -/
theorem memGet_memSet (m : Memory) (a : Nat) (b : Byte) (x : Nat) :
    memGet (memSet m a b) x = if x = a then b else memGet m x := by
  simp only [memSet]
  split
  · subst_vars; exact memGet_filter_ne m a x
  · rw [memGet_memPut _ _ _ (by simp) x]
    by_cases h : x = a
    · simp [h]
    · simp [h, memGet_filter_ne]

/-! Byte strings. -/

@[simp] theorem memRead_length (m : Memory) (a n : Nat) : (memRead m a n).length = n := by
  induction n generalizing a with
  | zero => rfl
  | succ n ih => simp [memRead, ih]

/-- A read after a write of a byte string: inside it its bytes, elsewhere what was there. -/
theorem memGet_memWrite (m : Memory) (a : Nat) (l : Bytes) (x : Nat) :
    memGet (memWrite m a l) x = if a ≤ x ∧ x < a + l.length then l.getD (x - a) 0 else memGet m x := by
  induction l generalizing m a with
  | nil => simp [memWrite] <;> omega
  | cons b t ih =>
    simp only [memWrite, ih, memGet_memSet, List.length_cons]
    by_cases h1 : a + 1 ≤ x ∧ x < a + 1 + t.length
    · rw [if_pos h1, if_pos (by omega)]
      obtain ⟨k, hk⟩ : ∃ k, x - a = k + 1 := ⟨x - a - 1, by omega⟩
      rw [hk, show x - (a + 1) = k by omega]; rfl
    · rw [if_neg h1]
      by_cases hx : x = a
      · subst hx; simp
      · rw [if_neg hx, if_neg (by omega)]

theorem memGet_memZero (m : Memory) (lo hi x : Nat) :
    memGet (memZero m lo hi) x = if lo ≤ x ∧ x < hi then 0 else memGet m x := by
  induction m with
  | nil => simp [memZero, memGet]
  | cons e t ih =>
    obtain ⟨j, w⟩ := e
    simp only [memZero] at ih ⊢
    simp only [List.filter_cons]
    by_cases hj : j < lo ∨ hi ≤ j
    · rw [if_pos (by simpa using hj)]
      simp only [memGet, ih]
      by_cases hx : j = x
      · subst hx; rw [if_pos rfl, if_neg (by omega), if_pos rfl]
      · simp [hx]
    · rw [if_neg (by simpa using hj)]
      simp only [memGet, ih]
      by_cases hx : j = x
      · subst hx; rw [if_pos (by omega), if_pos (by omega)]
      · simp [hx]

/-! The canonical form. -/

theorem memWfFrom_mono (m : Memory) (lo k : Nat) (h : memWfFrom k m = true) (hk : lo ≤ k) : memWfFrom lo m = true := by
  cases m with
  | nil => rfl
  | cons e t => obtain ⟨j, w⟩ := e; simp only [memWfFrom, Bool.and_eq_true, decide_eq_true_eq] at h ⊢; exact ⟨⟨by omega, h.1.2⟩, h.2⟩

theorem memWfFrom_filter (m : Memory) (lo : Nat) (p : Host.Cell → Bool) (h : memWfFrom lo m = true) : memWfFrom lo (m.filter p) = true := by
  induction m generalizing lo with
  | nil => rfl
  | cons e t ih =>
    obtain ⟨j, w⟩ := e
    simp only [memWfFrom, Bool.and_eq_true, decide_eq_true_eq] at h
    simp only [List.filter_cons]
    split
    · simp only [memWfFrom, Bool.and_eq_true, decide_eq_true_eq]; exact ⟨h.1, ih _ h.2⟩
    · exact memWfFrom_mono _ _ _ (ih _ h.2) (by omega)

theorem memWfFrom_memPut (m : Memory) (lo a : Nat) (b : Byte) (hb : b ≠ 0) (hn : ∀ e ∈ m, e.1 ≠ a) (hl : lo ≤ a) (h : memWfFrom lo m = true) :
    memWfFrom lo (memPut m a b) = true := by
  induction m generalizing lo with
  | nil => simp [memPut, memWfFrom, hl]; exact hb
  | cons e t ih =>
    obtain ⟨j, w⟩ := e
    have hj : j ≠ a := hn (j, w) (by simp)
    simp only [memWfFrom, Bool.and_eq_true, decide_eq_true_eq] at h
    simp only [memPut]
    split
    · simp only [memWfFrom, Bool.and_eq_true, decide_eq_true_eq]
      exact ⟨⟨hl, by simpa using hb⟩, ⟨by omega, h.1.2⟩, h.2⟩
    · simp only [memWfFrom, Bool.and_eq_true, decide_eq_true_eq]
      exact ⟨h.1, ih _ (fun e he => hn e (by simp [he])) (by omega) h.2⟩

/-- Every memory operation keeps the canonical form. -/
theorem memSet_wf (m : Memory) (a : Nat) (b : Byte) (h : m.wf = true) : (memSet m a b).wf = true := by
  simp only [memSet, Memory.wf] at h ⊢
  split
  · exact memWfFrom_filter _ _ _ h
  · exact memWfFrom_memPut _ _ _ _ ‹_› (by simp) (Nat.zero_le _) (memWfFrom_filter _ _ _ h)

theorem memWrite_wf (m : Memory) (a : Nat) (l : Bytes) (h : m.wf = true) : (memWrite m a l).wf = true := by
  induction l generalizing m a with
  | nil => exact h
  | cons b t ih => exact ih _ _ (memSet_wf m a b h)

theorem memZero_wf (m : Memory) (lo hi : Nat) (h : m.wf = true) : (memZero m lo hi).wf = true := memWfFrom_filter _ _ _ h

/-- A list in the form, then one that starts at `k` or above where every address of the first is below `k`. -/
theorem memWfFrom_append (a b : Memory) (lo k : Nat) (ha : memWfFrom lo a = true) (hk : ∀ e ∈ a, e.1 < k) (hl : lo ≤ k)
    (hb : memWfFrom k b = true) : memWfFrom lo (a ++ b) = true := by
  induction a generalizing lo with
  | nil => exact memWfFrom_mono _ _ _ hb hl
  | cons e t ih =>
    obtain ⟨j, w⟩ := e
    have hj : j < k := hk (j, w) (by simp)
    simp only [memWfFrom, Bool.and_eq_true, decide_eq_true_eq, List.cons_append] at ha ⊢
    exact ⟨ha.1, ih _ ha.2 (fun e he => hk e (by simp [he])) (by omega)⟩

/-- A list in the form, moved up by `d`. -/
theorem memWfFrom_shift (m : Memory) (lo d : Nat) (h : memWfFrom lo m = true) :
    memWfFrom (d + lo) (m.map fun c => (d + c.1, c.2)) = true := by
  induction m generalizing lo with
  | nil => rfl
  | cons e t ih =>
    obtain ⟨j, w⟩ := e
    simp only [memWfFrom, Bool.and_eq_true, decide_eq_true_eq, List.map_cons] at h ⊢
    exact ⟨⟨by omega, h.1.2⟩, by simpa [Nat.add_assoc] using ih _ h.2⟩

/-- What lies at or above `k` of a list in the form starts there. -/
theorem memWfFrom_above (m : Memory) (lo k : Nat) (p : Host.Cell → Bool) (h : memWfFrom lo m = true) (hp : ∀ c, p c = true → k ≤ c.1) :
    memWfFrom k (m.filter p) = true := by
  induction m generalizing lo with
  | nil => rfl
  | cons e t ih =>
    obtain ⟨j, w⟩ := e
    simp only [memWfFrom, Bool.and_eq_true, decide_eq_true_eq] at h
    simp only [List.filter_cons]
    split
    · simp only [memWfFrom, Bool.and_eq_true, decide_eq_true_eq]
      exact ⟨⟨hp _ ‹_›, h.1.2⟩, memWfFrom_filter _ _ _ h.2⟩
    · exact ih _ h.2

theorem memSpread_wf (m : Memory) (size len : Nat) (hs : len ≤ size) (h : m.wf = true) : (memSpread m size len).wf = true := by
  simp only [Memory.wf] at h ⊢
  have part : ∀ n, memWfFrom 0 ((List.range n).flatMap fun e => (m.filter fun c => decide (c.1 < len)).map (fun c => (e * size + c.1, c.2)) ++
      m.filter fun c => decide (e * size + len ≤ c.1) && decide (c.1 < (e + 1) * size)) = true ∧
      ∀ x ∈ (List.range n).flatMap fun e => (m.filter fun c => decide (c.1 < len)).map (fun c => (e * size + c.1, c.2)) ++
        m.filter fun c => decide (e * size + len ≤ c.1) && decide (c.1 < (e + 1) * size), x.1 < n * size := by
    intro n
    induction n with
    | zero => exact ⟨rfl, by simp⟩
    | succ n ih =>
      have hn : (n + 1) * size = n * size + size := Nat.succ_mul n size
      rw [List.range_succ, List.flatMap_append]
      simp only [List.flatMap_cons, List.flatMap_nil, List.append_nil]
      have hlow : ∀ x ∈ (m.filter fun c => decide (c.1 < len)).map (fun c => (n * size + c.1, c.2)), x.1 < n * size + len := by
        intro x hx
        simp only [List.mem_map, List.mem_filter, decide_eq_true_eq] at hx
        obtain ⟨c, ⟨_, hc⟩, rfl⟩ := hx
        simp only; omega
      refine ⟨memWfFrom_append _ _ _ _ ih.1 ih.2 (Nat.zero_le _) (memWfFrom_append _ _ _ (n * size + len) ?_ hlow (by omega) ?_), ?_⟩
      · simpa using memWfFrom_shift _ 0 (n * size) (memWfFrom_filter m 0 _ h)
      · exact memWfFrom_above _ 0 _ _ h (fun c hc => by simp only [Bool.and_eq_true, decide_eq_true_eq] at hc; exact hc.1)
      · intro x hx
        simp only [List.mem_append] at hx
        rcases hx with hx | hx | hx
        · have := ih.2 x hx; omega
        · have := hlow x hx; omega
        · simp only [List.mem_filter, Bool.and_eq_true, decide_eq_true_eq] at hx; exact hx.2.2
  exact memWfFrom_append _ _ _ _ (part 64).1 (part 64).2 (Nat.zero_le _) (memWfFrom_above _ 0 _ _ h (fun c hc => by simpa using hc))

end Sys2Proof.Machine
end

