-- ==== Sys2Proof/Laws/Registers.lean ====
section
/-! SUPPORT. Registers as hardware sees them: a read after a write, fields and flags, counters; threads and engines. -/
namespace Sys2Proof.Machine

theorem State.rd_wr (s : State) (a v k : Nat) : (s.wr a v).rd k = if k = a then v % 2 ^ 32 else s.rd k := by
  simp only [State.rd, State.wr, mget_mset]
  split <;> simp_all

@[simp] theorem State.rd_wr_same (s : State) (a v : Nat) : (s.wr a v).rd a = v % 2 ^ 32 := by simp [State.rd_wr]

theorem State.rd_wr_other (s : State) (a v k : Nat) (h : k ≠ a) : (s.wr a v).rd k = s.rd k := by simp [State.rd_wr, h]

theorem State.rd_setFld_other (s : State) (a hi lo v k : Nat) (h : k ≠ a) : (s.setFld a hi lo v).rd k = s.rd k := State.rd_wr_other _ _ _ _ h

theorem State.rd_setFlag_other (s : State) (a i : Nat) (b : Bool) (k : Nat) (h : k ≠ a) : (s.setFlag a i b).rd k = s.rd k :=
  State.rd_setFld_other _ _ _ _ _ _ h

theorem State.flag_setFlag_other (s : State) (a i : Nat) (b : Bool) (k j : Nat) (h : k ≠ a) : (s.setFlag a i b).flag k j = s.flag k j := by
  simp only [State.flag, State.rd_setFlag_other s a i b k h]

/-- The field a write of bits sets reads back. -/
theorem bits_setBits_same (v lo w x : Nat) : bits (setBits v lo w x) lo w = x % 2 ^ w := by
  simp only [setBits, bits]
  have hp : 0 < 2 ^ lo := Nat.two_pow_pos _
  have hw : 0 < 2 ^ w := Nat.two_pow_pos _
  obtain ⟨q, r, hr, rfl⟩ : ∃ q r, r < 2 ^ lo ∧ v = q * 2 ^ lo + r := ⟨v / 2 ^ lo, v % 2 ^ lo, Nat.mod_lt _ hp, by
    rw [Nat.mul_comm]; exact (Nat.div_add_mod _ _).symm⟩
  have hd : (q * 2 ^ lo + r) / 2 ^ lo = q := by
    rw [Nat.mul_comm, Nat.mul_add_div hp, Nat.div_eq_of_lt hr, Nat.add_zero]
  rw [hd]
  have hle : q % 2 ^ w ≤ q := Nat.mod_le _ _
  have e : q * 2 ^ lo + r - q % 2 ^ w * 2 ^ lo + x % 2 ^ w * 2 ^ lo = 2 ^ lo * (q - q % 2 ^ w + x % 2 ^ w) + r := by
    have h1 : q % 2 ^ w * 2 ^ lo ≤ q * 2 ^ lo := Nat.mul_le_mul_right _ hle
    rw [Nat.mul_add, Nat.mul_sub, Nat.mul_comm (2 ^ lo) q, Nat.mul_comm (2 ^ lo) (q % 2 ^ w), Nat.mul_comm (2 ^ lo) (x % 2 ^ w)]
    omega
  rw [e, Nat.mul_add_div hp, Nat.div_eq_of_lt hr, Nat.add_zero]
  have hq : q - q % 2 ^ w = 2 ^ w * (q / 2 ^ w) := by have := Nat.div_add_mod q (2 ^ w); omega
  rw [hq, Nat.mul_add_mod, Nat.mod_mod]

@[simp] theorem State.c64_setC64_same (s : State) (a v : Nat) : (s.setC64 a v).c64 a = v % 2 ^ 64 := by
  simp [State.c64, State.setC64]

theorem State.c64_setC64_other (s : State) (a v k : Nat) (h : k ≠ a) : (s.setC64 a v).c64 k = s.c64 k := by
  simp [State.c64, State.setC64, mget_mset_other _ _ _ _ h]

/-- A counter counts. -/
@[simp] theorem State.c64_bump_same (s : State) (a n : Nat) : (s.bump a n).c64 a = (s.c64 a + n) % 2 ^ 64 := State.c64_setC64_same _ _ _

theorem State.c64_bump_other (s : State) (a n k : Nat) (h : k ≠ a) : (s.bump a n).c64 k = s.c64 k := State.c64_setC64_other _ _ _ _ h

@[simp] theorem State.th_setTh_same (s : State) (t : Nat) (h : Thread) : (s.setTh t h).th t = h := by simp [State.th, State.setTh]

theorem State.th_setTh_other (s : State) (t : Nat) (h : Thread) (x : Nat) (hx : x ≠ t) : (s.setTh t h).th x = s.th x := by
  simp [State.th, State.setTh, mget_mset_other _ _ _ _ hx]

@[simp] theorem State.en_setEn_same (s : State) (e : Nat) (h : Engine) : (s.setEn e h).en e = h := by simp [State.en, State.setEn]

theorem State.en_setEn_other (s : State) (e : Nat) (h : Engine) (x : Nat) (hx : x ≠ e) : (s.setEn e h).en x = s.en x := by
  simp [State.en, State.setEn, mget_mset_other _ _ _ _ hx]

/-! General registers: g0 reads 0 and discards writes (R205). -/

@[simp] theorem Thread.g_zero (h : Thread) : h.g 0 = 0 := rfl
@[simp] theorem Thread.setG_zero (h : Thread) (v : DWord) : h.setG 0 v = h := rfl

theorem Thread.g_setG_same (h : Thread) (i : Nat) (v : DWord) (hi : i < 32) : (h.setG i v).g i = if i = 0 then 0 else v := by
  by_cases h0 : i = 0
  · subst h0; rfl
  · simp [Thread.g, Thread.setG, h0, hi]

theorem Thread.g_setG_other (h : Thread) (i : Nat) (v : DWord) (r : Nat) (hr : r ≠ i) : (h.setG i v).g r = h.g r := by
  by_cases h0 : i = 0
  · subst h0; rfl
  · by_cases r0 : r = 0
    · simp [r0]
    · simp [Thread.g, Thread.setG, h0, r0, Ne.symm hr]

@[simp] theorem Thread.setCsr_g (h : Thread) (n v r : Nat) : (h.setCsr n v).g r = h.g r := rfl

theorem Thread.csr_setCsr (h : Thread) (n v k : Nat) : (h.setCsr n v).csr k = if k = n then v else h.csr k := by
  simp only [Thread.csr, Thread.setCsr, mgetD, mget_mset]; split <;> simp_all

end Sys2Proof.Machine
end

