-- ==== Sys2Proof/Laws/Issue.lean ====
section
/-! SUPPORT. How an instruction issues: once the fetch checks pass, its effect and the pc that follows, and no register but those it
writes. -/
namespace Sys2Proof.Machine

@[simp] theorem Thread.setLoops_g (h : Thread) (l : List LoopEnt) (r : Nat) : (h.setLoops l).g r = h.g r := by
  simp only [Thread.setLoops]; split <;> rfl

@[simp] theorem Thread.advance_g (h : Thread) (r : Nat) : h.advance.g r = h.g r := by
  simp only [Thread.advance]
  split
  · rfl
  · exact Thread.setLoops_g h _ r

@[simp] theorem Thread.goto_g (h : Thread) (a r : Nat) : (h.goto a).g r = h.g r := by
  simp only [Thread.goto]
  split
  · rfl
  · exact Thread.setLoops_g h _ r

/-- Moving the pc changes nothing but pc and loops. -/
@[simp] theorem Thread.advance_rest (h : Thread) : h.advance.rest = h.rest := by
  simp only [Thread.advance]
  split
  · rfl
  · simp only [Thread.setLoops]; split <;> rfl

@[simp] theorem Thread.goto_rest (h : Thread) (a : Nat) : (h.goto a).rest = h.rest := by
  simp only [Thread.goto]
  split
  · rfl
  · simp only [Thread.setLoops]; split <;> rfl

@[simp] theorem Thread.setG_rest (h : Thread) (i : Nat) (v : DWord) : (h.setG i v).rest = h.rest := by
  simp only [Thread.setG]; split <;> rfl

@[simp] theorem Thread.issue_g (h : Thread) (r : Nat) : h.issue.g r = h.g r := rfl
@[simp] theorem Thread.issue_csr (h : Thread) (n : Nat) : h.issue.csr n = h.csr n := rfl
@[simp] theorem Thread.issue_rest (h : Thread) : h.issue.rest = h.rest := rfl
@[simp] theorem Thread.issue_mayAccess (h : Thread) (a n : Nat) : h.issue.mayAccess a n = h.mayAccess a n := rfl

/-- Counting the issue changes nothing that the fetch looks at. -/
theorem State.fetch_issue (s : State) (t : Nat) : (s.setTh t (s.th t).issue).fetch t = s.fetch t := by
  simp only [State.fetch, State.th_setTh_same, State.setTh_en, State.fetched, State.setTh_mem]
  rfl

/-- An instruction whose issue and fetch pass has its effect, and the pc follows it. -/
theorem issue_passes (t word : Nat) (mz : Bool) (f : State → Thread → Eff) (s : State) (h : s.issues t) (hm : (s.th t).muzzled = true → mz = true) :
    issue t word mz f s =
      match f (s.setTh t (s.th t).issue) (s.th t).issue with
      | .next s2 => s2.setTh t (s2.th t).advance
      | .jump s2 a => s2.setTh t ((s2.th t).goto a)
      | .trap c i v =>
        (if c = cECC then (s.setTh t (s.th t).issue).linePoisoned (engineStop (engineOf t)) v else s.setTh t (s.th t).issue).raise t c i v
      | .jumpTrap c v => (s.setTh t (s.th t).issue).raiseFault t c v
      | .set s2 => s2
      | .hold => s := by
  obtain ⟨_, hr, hf⟩ := h
  have hz : ((s.th t).issue.muzzled && !mz) = false := by
    show ((s.th t).muzzled && !mz) = false
    cases hmz : (s.th t).muzzled
    · rfl
    · simp [hm hmz]
  simp only [issue, hr, State.fetch_issue, hf, State.th_setTh_same, hz, Bool.not_true, Bool.false_eq_true, ↓reduceIte] <;> rfl

/-- With no error found, the reads of an instruction leave the state as it was (R213). -/
@[simp] theorem State.upset_none (s : State) (t : Nat) (reads : Thread → Option Nat) : s.upset t .none reads = s := by
  simp only [State.upset]; split <;> rfl

/-- An instruction of a thread that issues answers its effect, with the queue and the test access port as they were. -/
theorem onThread_next (t word : Nat) (mz : Bool) (f : State → Thread → Eff) (s : State) (h : s.issues t) :
    onThread t word mz f s =
      .next { issue t word mz f s with pending := s.pending, jtag := s.jtag, corrupt := s.corrupt } :=
  State.onSv_next s _ h.1

end Sys2Proof.Machine
end

