-- ==== Sys2Proof/Laws/Queues.lean ====
section
/-! SUPPORT. The Fence queues and the frame table: what a message sent, a message taken and a frame update do. -/
namespace Sys2Proof.Machine

/-- An empty queue takes the start of any message (log entry 31). -/
theorem roomFor_empty (p : FPart) (n : Nat) : roomFor [] (capK p) n = true := by
  have hc : 56 ≤ capK p := by simp only [capK]; split <;> omega
  simp only [roomFor, List.length_nil, Nat.zero_add, Bool.or_eq_true, Bool.and_eq_true, decide_eq_true_eq]
  omega

/-- The serving program never sleeps in MSEND. -/
@[simp] theorem State.wakeSend_program (s : State) : s.wakeSend 0x60 = s := rfl

/-- A message of the serving program enters a queue that nobody holds and that has room for all of it; it is counted once. -/
theorem State.pushK_room (s : State) (p : FPart) (ps : List FPart) (hw : s.fence.waiting = []) (hh : s.fence.hold = none)
    (hr : s.fence.toK.length + ps.length + 1 ≤ capK p) (hf : p.first = true) (hl : (p :: ps).any (·.last) = true) (hs : p.sender = 0x60) :
    s.pushK (p :: ps) = (s.setFence { s.fence with toK := s.fence.toK ++ p :: ps }).bump 0x10006000 := by
  have hk : ps.length ≤ capK p - s.fence.toK.length - 1 := by omega
  have hroom : roomFor s.fence.toK (capK p) (ps.length + 1) = true := by simp [roomFor]; left; omega
  simp only [List.any_cons] at hl
  simp [State.pushK, Fence.heldFor, hw, hh, hroom, State.enterSome, State.enterK, List.take_of_length_le hk, List.drop_of_length_le hk, hf, hs, hl]

theorem partsOf_cons (typ : Nat) (reply : Bool) (tag sender : Nat) (data : Bytes) :
    ∃ p ps, partsOf typ reply tag sender data = p :: ps := by
  simp only [partsOf, mkParts]
  split <;> exact ⟨_, _, rfl⟩

theorem mkParts_length (n typ : Nat) (reply : Bool) (tag sender part : Nat) (data : Bytes) :
    (mkParts n typ reply tag sender part data).length ≤ n := by
  induction n generalizing part data with
  | zero => simp [mkParts]
  | succ n ih =>
    simp only [mkParts]
    split
    · simp
    · simp only [List.length_cons]; exact Nat.succ_le_succ (ih _ _)

theorem mkParts_last (n typ : Nat) (reply : Bool) (tag sender part : Nat) (data : Bytes) (h : data.length ≤ 48 * n) (hn : 0 < n) :
    (mkParts n typ reply tag sender part data).any (·.last) = true := by
  induction n generalizing part data with
  | zero => omega
  | succ n ih =>
    simp only [mkParts]
    split
    · rename_i c; simpa using c
    · rename_i c
      have c : ¬ data.length ≤ 48 := by simpa using c
      rw [List.any_cons, ih (part + 1) (data.drop 48) (by simp; omega) (by omega), Bool.or_true]

/-- The first of a message's parts has FIRST, and one of them has LAST. -/
theorem partsOf_shape (typ : Nat) (reply : Bool) (tag sender : Nat) (data : Bytes) :
    ∃ p ps, partsOf typ reply tag sender data = p :: ps ∧ p.first = true ∧ p.typ = typ ∧ p.sender = sender ∧
      (p :: ps).any (·.last) = true ∧ ps.length ≤ data.length / 48 := by
  have hl := mkParts_last (data.length / 48 + 1) typ reply tag sender 0 data (by omega) (by omega)
  have hn := mkParts_length (data.length / 48 + 1) typ reply tag sender 0 data
  obtain ⟨p, ps, e⟩ := partsOf_cons typ reply tag sender data
  rw [partsOf] at e
  refine ⟨p, ps, by rw [partsOf, e], ?_, ?_, ?_, by rw [← e]; exact hl, by rw [e] at hn; simp at hn; exact hn⟩
  all_goals
    simp only [mkParts] at e
    split at e <;> (simp only [List.cons.injEq] at e; rw [← e.1]) <;> rfl

/-- A message toward the Keeper with the Fence idle: it alone stands there, whole where the queue holds it, and one push is counted. -/
theorem State.toKeeper_idle (s : State) (typ : Nat) (reply : Bool) (tag : Nat) (data : Bytes) (h : s.fenceIdle) (hd : data.length ≤ 2687) :
    s.toKeeper typ reply tag data = (s.setFence { s.fence with toK := partsOf typ reply tag 0x60 data }).bump 0x10006000 := by
  obtain ⟨hk, hw, hh⟩ := h
  obtain ⟨p, ps, e, hf, _, hs, hl, hn⟩ := partsOf_shape typ reply tag 0x60 data
  have hc : 56 ≤ capK p := by simp only [capK]; split <;> omega
  rw [State.toKeeper, e, State.pushK_room s p ps hw hh (by rw [hk]; simp only [List.length_nil]; omega) hf hl hs, hk, List.nil_append]

/-- With nothing waiting, nothing kept and nobody holding, freed entries bring nothing in. -/
theorem State.drainFence_idle (s : State) (hw : s.fence.waiting = []) (hk : s.noKept) : s.drainFence = s := by
  have h0 : ∀ n, drainK n s = s := by
    intro n
    cases n with
    | zero => rfl
    | succ n => rw [drainK]; simp only [hw]; cases s.fence.hold <;> rfl
  rw [State.drainFence, h0]
  simp only [resendKept, hk.1, hk.2]
  split <;> rfl

/-- A message taken from the queue toward the serving plane is the whole one that is due, of the type asked for and long enough. -/
theorem State.takeS_some (s t : State) (typ : Nat) (m : FMsg) (h : s.takeS typ = some (m, t)) :
    m.typ = typ ∧ minLenS typ ≤ m.data.length ∧ ∃ rest out, s.frontS = some (m, rest, out) := by
  simp only [State.takeS] at h
  split at h
  · rename_i x rest out e
    split at h
    · rename_i c
      simp only [Option.some.injEq, Prod.mk.injEq] at h
      obtain ⟨rfl, rfl⟩ := h
      exact ⟨c.1, c.2, rest, out, e⟩
    · cases h
  · cases h

/-- A whole message at the front that does not wait for the lead engine is the one that is due. -/
theorem State.frontS_front (s : State) (m : FMsg) (rest : List FPart) (h : frontMsg s.fence.toS = some (m, rest))
    (hw : s.leadWaits m.typ = false) : s.frontS = some (m, rest, s.keeper.outQ) := by
  simp [State.frontS, State.dueS, firstDue, h, hw]

theorem State.takeK_some (s t : State) (typ : Nat) (m : FMsg) (h : s.takeK typ = some (m, t)) :
    m.typ = typ ∧ minLenK typ ≤ m.data.length ∧ ∃ f, s.fence.frontK = some (m, f) := by
  simp only [State.takeK] at h
  split at h
  · rename_i x f e
    split at h
    · rename_i c
      simp only [Option.some.injEq, Prod.mk.injEq] at h
      obtain ⟨rfl, rfl⟩ := h
      exact ⟨c.1, c.2, f, e⟩
    · cases h
  · cases h

/-- A whole message at the front of the queue toward the Keeper is taken as it stands. -/
theorem Fence.frontK_front (f : Fence) (m : FMsg) (rest : List FPart) (h : frontMsg f.toK = some (m, rest)) :
    f.frontK = some (m, { f with toK := rest }) := by
  simp [Fence.frontK, h]

/-! Frames and sessions. -/

@[simp] theorem State.frame_setFrame_same (s : State) (id : Nat) (f : Frame) : (s.setFrame id f).frame id = some f := by
  simp [State.frame, State.setFrame]

theorem State.frame_updFrame (s : State) (id : Nat) (g : Frame → Frame) (f : Frame) (h : s.frame id = some f) :
    (s.updFrame id g).frame id = some (g f) := by
  simp only [State.frame] at h
  simp [State.frame, State.updFrame, mupd, h]

theorem State.frame_updFrame_other (s : State) (id : Nat) (g : Frame → Frame) (k : Nat) (h : k ≠ id) :
    (s.updFrame id g).frame k = s.frame k := by
  simp only [State.frame, State.updFrame, State.setFt_ft, mupd]
  split
  · exact mget_mset_other _ _ _ _ h
  · rfl

/-- A frame update touches the frame table alone. -/
theorem State.updFrame_ft (s : State) (id : Nat) (g : Frame → Frame) :
    s.updFrame id g = s.setFt { s.ft with frames := mupd s.ft.frames id g } := rfl

/-- Only opcodes of Table 3-4 stop the passing over: results already there stay. -/
theorem skipBad_res (n : Nat) (f : Frame) : ∃ l, (skipBad n f).res = f.res ++ l ∧ (skipBad n f).ops = f.ops ∧ (skipBad n f).waits = f.waits ∧
    (skipBad n f).w = f.w := by
  induction n generalizing f with
  | zero => exact ⟨[], by simp [skipBad]⟩
  | succ n ih =>
    simp only [skipBad]
    split
    · rename_i op _
      split
      · exact ⟨[], by simp⟩
      · obtain ⟨l, h1, h2, h3, h4⟩ := ih { f with res := f.res ++ [resOf op stMALFORMED 0 [] 0] }
        exact ⟨resOf op stMALFORMED 0 [] 0 :: l, by rw [h1]; simp, h2, h3, h4⟩
    · exact ⟨[], by simp⟩

end Sys2Proof.Machine
end

