-- ==== Sys2Proof/Tests/Slice0.lean ====
section
/-! SUPPORT. Tests: small states, ill-formed commands, results worked out by hand, and a witness for the hypotheses of every
statement. Each is a named theorem about at most one step. -/
namespace Sys2Proof.Tests
open Sys2Proof Sys2Proof.Machine
set_option Elab.async false
set_option linter.unusedVariables false

/-! Small states. -/

/-- Namespace 1 active, tenant 0 active, a free set otherwise. -/
def set1 : CfgSet :=
  { epoch := 1, recs := [(6 * 65536, [0, 0, 1, 0] ++ zeros 28), (7 * 65536 + 1, [1, 0, 0, 0, 1, 8] ++ zeros 26), (7 * 65536 + 2, [2, 0, 0, 0, 3, 0] ++ zeros 26)], dir := [] }
/-- A machine that serves. -/
def sv : State :=
  { State.reset with
    power := { Power.reset with base := .serve, svRstOut := true, step := 8, svPgood := true }, keeper := { Keeper.reset with running := true },
    cfg := { Cfg.reset with active := set1, shadow := set1 }, st := { Storage.reset with braceErased := 1000000 },
    ks := { Keyspace.reset with ns := [(1, { NsState.fresh with lease := 1000000 })] },
    nose := { Nose.reset with ready := true },
    csr := { words := [(0x10005018, 512), (0x10100000, 1), (0x10100004, 1)], ctrs := [] } }
def opRq (n : Nat) : OpReq := { opcode := n, flags := 0, ns := 1, key := [65], val := [], arg := 0 }
def opK (n : Nat) : OpReq := { opRq n with key := [] }
/-- An operator session of plaintext frames. -/
def se : Session :=
  { tenant := 0, rights := 0x8F, cipher := 0, addr := zeros 16, port := 7341, link := zeros 24, tags := [], h := 0, done := [], skipped := [], refused := [],
    tx := 1, slot := none, pinned := false, old := none, seg := none, busy := false, closing := false, gone := false, pack := false }
def frm (ops : List OpReq) : Frame :=
  { sess := 5, seq := 1, clientTag := 9, port := 0, epoch := 1, phase := .executing, origin := .client, raw := [], ops := ops, res := [], status := 0,
    w := none, writes := [], seg := none, cont := none, plain := [], arrived := 0, old := false, thread := none, waits := none, scan := none, place := none, far := none }
/-- Session 5 with frame 3. -/
def withFrame (s : State) (x : Session) (f : Frame) : State :=
  s.setFt { s.ft with sessions := [(5, x)], frames := [(3, f)], nextFrame := 4 }
def onOpr (o : OpReq) : State := withFrame sv se (frm [o])
def ver1 : Ver := { version := 7, tomb := false, value := [1, 2], jsn := 0, inRun := false, lost := false }
def key1 : KeyRec := { ns := 1, key := [65], vers := [ver1], pend := none, nose := none, bypass := false }
def withKeys (l : List KeyRec) (s : State) : State := s.setKs { s.ks with keys := l }
def big : Ver := { ver1 with value := List.replicate 300 1 }
/-- Port 0 of a frame size of 200 bytes. -/
def small (s : State) : State := { s with cfg := { s.cfg with active := { set1 with recs := (4 * 65536, zeros 4 ++ [200, 0] ++ zeros 26) :: set1.recs } } }
def ping : OpReq := { opRq 0x0C with ns := 0, key := [], val := [1, 2] }
def dirUp : OpReq := { opRq 0x30 with key := [], val := zeros 32, arg := 4 }
def opScan : OpReq := { opRq 8 with key := [], arg := 10 }
def cur1 : Cursor :=
  { id := 6, sess := 5, ns := 1, pfx := [], start := [], last := none, keysOnly := false, snap := none, v := 0, snapGone := false, far := none }
def withCur (s : State) : State := s.setKs { s.ks with cursors := [cur1] }
def opNext : OpReq := { opRq 9 with key := [], arg := 6 * 2 ^ 32 + 10 }
def contF : Frame := { frm [opRq 1] with phase := .sent, cont := some (List.replicate 400 1, 7, 0) }
def write1 : Write := { phase := .pending, ns := 1, key := [65], tomb := false, value := [8], version := 9, jsn := 0, cls := 0, prior := none }
def wfr (n : Nat) (p : WPhase) : Frame := { frm [opRq n] with w := some { write1 with phase := p } }
def mir1 : Mirror := { ns := 1, follower := 2, attached := true, acked := 0, backlog := [(3, 0, [], []), (12, 0, [], [])] }
def wd1 : WDone := { idx := 0, ns := 1, version := 9, jsn := 0, cls := 2, reached := false }
def seg1 : OpReq := { opRq 2 with flags := 16, val := beBytes 4 100 ++ zeros 4 ++ [1, 2] }
def segT : Seg := { first := 1, op := opRq 2, total := 6, data := [1, 2] }
def segS : Session := { se with seg := some segT }
def segM (n : Nat) : OpReq := { opRq 0x10 with ns := 0, key := [], val := List.replicate n 9, arg := 2 ^ 32 + 2 }
def mfwd (k : Nat) : OpReq :=
  { opRq 0x31 with ns := 2, flags := 4 * k, key := (if k < 2 then [65] else []), val := (if k = 0 then [5] else []), arg := 1 }
/-- A request frame of session 5 by IPv4, with its FCS: one GET of key 0x41 of namespace 1. -/
def reqOps : Bytes := opBytes 1 0 0 1 [65] [] 0
def reqRaw (seq : Nat) : Bytes :=
  buildUdp (beBytes 6 0x0A) (beBytes 6 0x0B) [] false (mapped [10, 0, 0, 1]) (mapped [10, 0, 0, 2]) 9000 7341 0
    (fetchHeader 0 1 0 5 (32 + reqOps.length) seq 0 9 ++ reqOps) ++ zeros 4
def clientS : Session := { se with addr := mapped [10, 0, 0, 1], port := 9000, rights := 1, tenant := 0 }
def rxGood : RxIn := { good := true, room := true, cw := 0, corr := 0, uncorr := 0, sym := 0, hit := false }
def rxf (raw : Bytes) : RxFrame := { cells := [0], spill := [], prio := 0, raw := raw, data := raw, desc := [], intake := zeros 64, fresh := true, at_ := 0 }
/-- Port 0 up, its address 10.0.0.2. -/
def wPort (s : State) : State :=
  (((((s.setFlag 0x10500004 0 true).setFld 0x10500004 7 6 2).wr 0x105000C0 0x0A000002).setFlag 0x10500000 15 true).wr 0x10500008 9216)
def hold (raw : Bytes) (s : State) : State := s.setPort 0 { s.port 0 with rx := [rxf raw] }
def rxS : State := hold (reqRaw 1) (withFrame (wPort sv) clientS (frm []))
/-- The Nose holds key 0x41 in the value cache at line 1. -/
def hitS : State :=
  let s := (rxS.setFt { rxS.ft with frames := [] }).setNose { rxS.nose with ents := [(4, { order := orderWord 1 [65], kind := 2, ad := 2 ^ 60 + 2 ^ 42 + 64 + 7 })], ready := true }
  let s := ((((s.setFlag rNoseCtl 0 true).setFlag rNoseStatus 0 true).setFlag rRtvCtl 0 true).wr 0x10200100 2).wr 0x10100070 0xFFFFFFFF
  let s := s.wr 0x10100060 0xFFFFFFFF
  s.setMem { s.mem with vcache := memWrite [] 64 (leBytes 8 7 ++ leBytes 4 2 ++ leBytes 2 1 ++ leBytes 2 0 ++ [1, 2]) }
def gcmS : Session := { clientS with cipher := 1, slot := none }
def rawGcm : Bytes :=
  buildUdp (beBytes 6 0x0A) (beBytes 6 0x0B) [] false (mapped [10, 0, 0, 1]) (mapped [10, 0, 0, 2]) 9000 7341 0
    (fetchHeader 2 1 0 5 (32 + 32) 1 0 9 ++ zeros 32) ++ zeros 4
def savedS : State := hold rawGcm (withFrame (wPort sv) gcmS (frm []))
def restS : State := (withFrame sv gcmS (frm [])).setCph { sv.cph with restores := [(5, 2)] }
def kmat : KMat := { key := zeros 16, salt := zeros 4 }
def inF : Frame := { frm [] with phase := .intake, raw := reqRaw 1, plain := reqOps }
def inM : Msg := { route := routeWord 0 0 0 5 1 2 0 4, body := leBytes 2 5 ++ zeros 14 ++ leBytes 4 1 ++ zeros 36 }
def inS : State := (withFrame sv se inF).setEn 1 { Engine.reset with queue := [inM], role := 65536 + 2 }
def doneF : Frame := { frm [opRq 1] with raw := reqRaw 1, res := [resOf (opRq 1) 0 7 [1] 0] }
def wtg (d : DMsg) (s : State) : State := s.setDisp { s.disp with waiting := [d] }
def dm (flight : Nat) : DMsg := { m := inM, frame := none, bounced := some 0, flight := flight, sent := decide (flight ≠ 0) }
def hldS : State := ((wtg (dm 0) sv).setFlag rDspCtl 0 true).setDEng 3 { DEng.reset with state := 1, role := 2, epoch := 1 }
def kslot : Slot := { Slot.empty with typ := 1, gen := 3, cur := some kmat, next := some { kmat with salt := [1, 1, 1, 1] }, sess := some 5 }
def gcmR : Session := { clientS with cipher := 1, slot := some 2 }
def toSv (typ : Nat) (d : Bytes) (s : State) : State :=
  { s with fence := { s.fence with toS := partsOf typ false 77 0 d }, power := { s.power with step := 8 } }
def lead (typ : Nat) (s : State) : FMsg × State := (s.takeLead typ).getD ({ typ := 0, reply := false, tag := 0, sender := 0, data := [] }, s)
def front (typ : Nat) (s : State) : FMsg × State := (s.takeS typ).getD ({ typ := 0, reply := false, tag := 0, sender := 0, data := [] }, s)
def opReqMsg : Bytes := leBytes 2 6 ++ leBytes 2 0 ++ [0x8F, 0, 0, 0] ++ zeros 4 ++ beBytes 2 9000 ++ zeros 2 ++ mapped [10, 0, 0, 9] ++ zeros 72
def clsS : State := toSv 0x11 (leBytes 2 5 ++ [0]) ((withFrame sv se (frm [])).setFt { sv.ft with sessions := [(5, se)] })
def eraS : State := toSv 0x11 (leBytes 2 5 ++ [1]) ((sv.setFt { sv.ft with sessions := [(5, gcmR)] }).setSlot 2 kslot)
def parsed1 : Parsed := (parseUdp (reqRaw 1)).getD { v6 := false, srcIp := [], dstIp := [], srcPort := 0, dstPort := 0, dscp := 0, payload := [] }
def fastOf (s : State) (x : Session) : State :=
  match ((s.updSess 5 (learn 0 (reqRaw 1))).bump 0x10002000).fastPath 5 x parsed1 reqOps false .good with
  | .hit _ _ _ _ t => t
  | _ => s
def owed : Thread := { Thread.reset with run := true, tickets := setNth Thread.reset.tickets 2 .busy }
/-- Thread 5 runs at pc 0, g3 points at 0x1000 of its data store, which holds a byte. -/
def setDesc (n : Nat) : State :=
  { (sv.setTh 5 ({ Thread.reset with run := true }.setG 3 0x1000)) with
    mem := { sv.mem with dstore := memWrite [] (0x20000 + 0x1000) [BitVec.ofNat 8 n, 0, 2] } }
def emS : State := (wPort ((withFrame sv clientS (frm [])).setTh 5 owed)).setFlag 0x10500004 0 true
def trk1 : Trick := { tenant := 0, entry := 0, budget := 1000, keyslot := some 4, code := zeros 4 ++ [0x00, 0x50, 0x00, 0xFC] }
def trOp : OpReq := { opRq 0x0B with key := [], val := [9, 8, 7], arg := 0 }
def inv1 : Invoke :=
  { frame := 3, slot := 0, trick := trk1, calls := 1, writes := 0, lastVersion := 5, input := [9, 8, 7], grant := none, lines := 0, fwd := none, part := none, wait := 0, job := none }
def trB : State :=
  ((onOpr trOp).setEn 0 { Engine.reset with role := 65536 + 5 }).setTricks { sv.tricks with slots := [(0, trk1)] }
/-- A trick may be started on thread 1. -/
def trS : State :=
  let c := { set1 with recs := mset set1.recs (7 * 65536 + 1) ([1, 0, 0, 0, 1, 12] ++ zeros 26) }
  { (trB.setTh 1 { Thread.reset with run := true }) with cfg := { sv.cfg with active := c, shadow := c } }
def muz : Thread :=
  (((({ Thread.reset with run := true, muzzled := true, pc := 0xE800, mzRet := 0x100 }.setCsr cMZLO 0xE800).setCsr cMZHI 0xE900).setCsr cMZWLO 0xE000).setCsr
    cMZWHI 0x14000).setCsr cMZLEFT 500
/-- The thread calls: namespace 1, the 1-byte key at the key window, the value of 2 bytes at 0xE100. -/
def callT : Thread := ((((({ muz with kwin := patch (zeros 512) 0 [65] }.setG 2 1).setG 3 0x20000).setG 4 1).setG 5 0xE100).setG 6 2)
def gset (h : Thread) (r v : Nat) : Thread := h.setG r (BitVec.ofNat 64 v)
def sealT (n : Nat) : Thread := ((muz.setG 2 0xE100).setG 3 (BitVec.ofNat 64 n)).setG 4 0xE200
def leftT (cause tval : Nat) : Thread := ({ muz with muzzled := false }.setCsr cMZCAUSE cause).setCsr cMZTVAL tval
def waitT (svc n : Nat) : Thread :=
  let h := { sealT (if n = 0 then 36 else n) with muzzled := false, tickets := setNth Thread.reset.tickets 0 (.done (64 * 2 ^ 32)) }
  (h.setCsr cMZCAUSE (svc * 256 + mCALL)).setCsr cMZEPC 0xE804
def inv (h : Thread) (v : Invoke) : State :=
  let s := (trB.setTh 1 h).setTricks { trB.tricks with invokes := [(1, v)] }
  let s := s.setKs { s.ks with ns := [(1, { NsState.fresh with lease := 1000000, counter := 100 })] }
  { s with mem := { s.mem with dstore := memWrite [] 0xE100 [7, 8] } }
def passed (c : Chk) : State := match c with
  | .pass t => t
  | _ => sv
def flDesc (op seg cw count : Nat) : Bytes :=
  padTo 64 (leBytes 1 op ++ zeros 3 ++ leBytes 4 seg ++ leBytes 4 cw ++ leBytes 2 count ++ zeros 2 ++ leBytes 8 (2 ^ 60 + 64))
def fj (op seg cw count : Nat) (r : Bool) : FJob := { id := 1, thread := 5, ticket := 2, desc := flDesc op seg cw count, running := r, bound := false }
/-- Flash of one plane, three codewords a page, one page a block, one LUN a channel, four blocks; thread 5 waits for ticket 2. -/
def flS (j : FJob) : State :=
  let s := (((sv.setTh 5 owed).wr 0x10400008 (32 + 3 * 2 ^ 18)).wr 0x1040000C 0).setFlag rFlcCtl 0 true
  let s := s.setSt { s.st with jobs := [j], media := [(2 ^ 18 + 3, { data := [7], xts := none })],
                               accums := [(1, { seg := 1, stripe := 0, data := [5] })], initing := [3] }
  { s with mem := { s.mem with team := memWrite [] 64 [1, 2, 3] } }
def pollS : State := (flS (fj 1 0 0 1 true)).wr (0x10400104 + 16) 1
def hrec (typ : Nat) : JRec :=
  { jsn := 3, typ := typ, ns := 1, key := [65], version := 2000000, value := [], cls := 1, bypass := false, applied := false, line := 0, complete := true }
def runE : RunEnt := { ns := 1, key := [65], version := 7, tomb := false, value := [1, 2], old := false, bypass := false }
def run1 : Run := { no := 1, level := 0, ents := [runE], jsnEnd := 3, boot := 0, replaced := [], segs := [1] }
def grS : State :=
  let s := flS (fj 1 0 0 1 true)
  let s := s.setSt { s.st with jobs := [], media := [], runs := [run1], nbuckets := 1, nextRun := 2, segs := [(1, { Segm.erased with state := 2, kind := 1 })],
                               index := [(0, { ns := 1, key := [65], version := 7, tomb := false, bypass := false, journal := false, loc := 2 ^ 26, len := 2 })] }
  let c := { set1 with recs := mset set1.recs (2 * 65536) (zeros 22 ++ [100] ++ zeros 9) }
  { withKeys [{ key1 with vers := [{ ver1 with inRun := true }] }] s with cfg := { s.cfg with active := c } }
/-- A hard record waits; the flash has three SLC pages a block. -/
def hardS (pages : Nat) : State :=
  let s := (flS (fj 1 0 0 1 true)).wr 0x1040000C (pages * 65536)
  let s := s.setSt { s.st with hard := [{ r := hrec 6, programmed := false }] }
  { s with cfg := { s.cfg with active := { set1 with recs := mset set1.recs (2 * 65536) (zeros 32) } } }
/-- The journal in the local areas of channels 0 and 4; record `hrec 1` on its first line. -/
def jrnS (s : State) : State :=
  let s := s.wr 0x1030000C 1
  let s := s.setSt { s.st with jrn := [{ hrec 1 with jsn := 0, value := [8] }] }
  { s with cfg := { s.cfg with active := { set1 with recs := mset set1.recs (2 * 65536) (zeros 3 ++ [4] ++ zeros 28) } } }
/-- Mirror A has lost that line. -/
def lostA (s : State) : State := let s := jrnS s; s.setMem { s.mem with poison := [(3, localKey 0 0 / 64)] }
/-- DRAM of one channel that runs. -/
def drS : State :=
  ((((sv.wr rDrcMap 1).setFlag rDrcCtl 0 true).setFlag rDrcStatus 0 true).setFlag rDrcCtl 2 true).setFlag 0x10300010 8 true
def dReq : DReq := { id := 4, ch := 0, line := 2, write := false, partialMask := false, data := [1], mask := [], old := .good, rt := none, since := 0 }
def withChan (c : DChan) (s : State) : State := s.setChan 0 c
def rowOf : Nat := (drS.dramPlace 128).row
def bankOf : Nat := (drS.dramPlace 128).bank
def winS (live : Bool) : State :=
  (drS.setFlag rTrain 0 true).setDrc { drS.drc with windows := [(0, { saved := [(0x10301000, 9), (0x10301004, 8)], live := live })] }
def win1 (live : Bool) : DWin := { saved := [(0x10301000, 9), (0x10301004, 8)], live := live }
def txf (n prio : Nat) : TxFrame := { bytes := List.replicate n 5, prio := prio, emit := none, stamp := none, bad := false, quick := false, sess := none }
/-- Port 0 up and sending. -/
def txS : State := (wPort sv).setFlag 0x10500000 1 true
def withPort (x : Port) (s : State) : State := s.setPort 0 x
def modS : State := (sv.wr 0x10500200 0x87000000)
/-- Both ports up; port 0 may doze. -/
def dzS : State :=
  let s := (txS.setFlag 0x10600004 0 true)
  { s with cfg := { s.cfg with active := { set1 with recs := (4 * 65536, zeros 14 ++ [4, 4] ++ zeros 16) :: set1.recs } } }
/-- A message toward the Keeper whose TAG the I3C channel's request 77 has. -/
def i3cSrc : OpSrc := { chan := 1, addr := [], port := 0, sess := 0, seq := 0 }
def toKp (typ : Nat) (d : Bytes) (s : State) : State :=
  (s.setFence { s.fence with toK := partsOf typ true 5 0x60 d }).setKeeper { s.keeper with tags := [(5, (i3cSrc, 77))] }
def frontK (s : State) : FMsg := ((frontMsg s.fence.toK).map (·.1)).getD { typ := 0, reply := false, tag := 0, sender := 0, data := [] }
def frontS (s : State) : FMsg := ((frontMsg s.fence.toS).map (·.1)).getD { typ := 0, reply := false, tag := 0, sender := 0, data := [] }
/-- A set that passes every check, and a machine that takes it: storage without XTS, 200 J held up, DRAM of eight channels. -/
def goodSet : CfgSet := { set1 with epoch := 3, recs := set1.recs ++ [(2 * 65536, patch defaultStorage 23 [0])] }
def cfS : State :=
  let s := (sv.wr 0x10018 200000)
  { s with cfg := { s.cfg with shadow := goodSet, active := { set1 with epoch := 3 } } }
/-- Boot at step 4 with a current image in boot NOR; the DRAM is ready or not. -/
def bootOf (c : CfgSet) (ready : Bool) : State :=
  let s := (cfS.setFlag rPwrCtl 3 true).setFlag rDrcStatus 0 ready
  { s with power := { s.power with base := .boot, step := 4 }, cfg := { s.cfg with half0 := { valid := true, set := c, serial := 1, keeperRec := [] } },
           st := { s.st with formatted := false } }
def upOf (s : State) (page : FlashPage) : State :=
  let c := (s.cfg.current.map (fun x : NorHalf => x.set)).getD { CfgSet.empty with epoch := 1 }
  ((((if s.flag rPwrCtl 3 then s else s.setFld 0x10018 19 0 (recHoldup s.keeper.rcd)).setCfg { s.cfg with shadow := c }).startEngines.flashSetUp page).dramSetUp c)
/-- The same set with AUTO_FORMAT 1. -/
def autoSet : CfgSet := { goodSet with recs := set1.recs ++ [(2 * 65536, patch (patch defaultStorage 23 [0]) 5 [1])] }
def page1 (ok : Bool) : FlashPage := { ok := ok, suspend := true, tSlc := 200 }
def cfgPay (sec op index count : Nat) (b : Bytes) : Bytes := leBytes 1 sec ++ leBytes 1 op ++ zeros 2 ++ leBytes 4 index ++ leBytes 4 count ++ b
/-- A trick image for slot 3, tenant 0: one RET. -/
def trkImg : Bytes := [3, 0, 0, 0, 2, 0, 0, 0] ++ leBytes 4 1000 ++ zeros 20 ++ trk1.code
def trlS : State := ((sv.setFlag 0x30000 0 true).setC64 0x30018 100000).setC64 0x30010 5
def nxt (o : Out) : State := match o with
  | .next t => t
  | _ => sv
def own (typ : Nat) (s : State) : OpMsg × State := (s.takeOwn typ).getD ({ src := i3cSrc, typ := 0, tag := 0, arg := 0, data := [] }, s)
/-- A message from the I3C channel at the front of the Keeper's inbox. -/
def inbox (typ arg : Nat) (d : Bytes) (s : State) : State :=
  s.setKeeper { s.keeper with inbox := [{ src := i3cSrc, typ := typ, tag := 77, arg := arg, data := d }] }
def fenS : State := sv.setFlag 0x20000 0 true
def i3cS : State := (sv.setFlag 0x58000 0 true).setKeeper { sv.keeper with rcd := patch (zeros 64) 22 [2] }
def mgtS : State := ((sv.setFlag 0x50000 0 true).setFlag 0x50004 0 true).setKeeper { sv.keeper with rcd := patch (zeros 64) 0 [10, 0, 0, 3] }
def romIn : RomIn := { ring := true, page := true, octal := true, copies := [] }
def wrIn : WriteIn := { rom := romIn, nor := true, ecc := .good }
def badPart : FPart := { typ := 0x99, first := true, last := true, reply := false, part := 0, len := 0, tag := 6, data := [], sender := 0x60 }
def imgOp : OpReq := { opRq 0x33 with ns := 0, key := [], val := [], arg := 3 * 2 ^ 56 }
def waitImg : State := withFrame sv se { frm [imgOp] with waits := some 4 }
/-- An I3C private write of KEEPER_RD at 0x10018, one word. -/
def rdBytes : Bytes := padTo 64 (zeros 6 ++ [0x80, 0, 3, 0, 5, 0] ++ leBytes 2 77 ++ zeros 2 ++ leBytes 4 0x10018 ++ [1])
def arpReq : Bytes :=
  padTo 64 (List.replicate 6 0xFF ++ beBytes 6 0x0A ++ [8, 6, 0, 1, 8, 0, 6, 4, 0, 1] ++ beBytes 6 0x0A ++ [10, 0, 0, 1] ++ zeros 6 ++ [10, 0, 0, 3])
/-- The Trail with one closed event, not yet written. -/
def trl1 : State := nxt (execEventClose (nxt (execTrlAppGo (trlS.setFlag 0x30000 1 true))))
def trlAt (pos cur : Nat) (s : State) : State := s.setTrail { s.trail with pos := pos, cur := cur }
def msrc : OpSrc := { chan := 0, addr := mapped [10, 0, 0, 9], port := 9000, sess := 0, seq := 0 }
/-- An image command from a datagram at the front of the Keeper's inbox. -/
def imgIn (cmd off : Nat) (d : Bytes) (u : Update) : State :=
  let s := sv.setUpd u
  s.setKeeper { s.keeper with inbox := [{ src := msrc, typ := 0x70, tag := 77, arg := cmd * 2 ^ 56 + off, data := d }] }
def dsc (flags : Nat) : Desc := { length := 800, version := 7, svn := 3, hash := zeros 48, flags := flags, tries := 0, copied := [] }
def area (flags : Nat) : Area := { desc := some (dsc flags), data := zeros 800 }
def clm (next : Nat) : Claim := { holder := 1, session := 0, next := next, at0 := 0 }
def updC (next : Nat) : Update := { Update.reset with claim := some (clm next), kennel := { desc := some (dsc 1), data := zeros 768 } }
def updP (flags : Nat) : Update := { Update.reset with active := area flags, backup := { area 31 with desc := some { dsc 31 with svn := 2 } }, heelSeen := true }
def hl : State := { sv with power := { sv.power with base := .heel } }
def tst : State := { sv.setFlag 0x10900000 0 true with power := { sv.power with base := .test, testSeen := true } }
/-- The Pack link aligned and the Pack slots counting. -/
def pkS : State := (((sv.setFlag 0x10800000 0 true).setFlag rPckStatus 4 true).setFlag rNoseStatus 2 true)
def lf (typ dst src tag arg : Nat) (resp bc : Bool) (d : Bytes) : LinkIn :=
  let f : LFrame := { typ := typ, resp := resp, bcast := bc, dst := dst, src := src, tag := tag, arg := arg, data := d, crcBad := false }
  { flits := f.flits, full := false }
def lreq (typ tag : Nat) : LReq := { f := (lf typ 2 0 tag 0 false false []).f, tries := 0, owner := some 3 }
def asked (typ : Nat) (s : State) : State := s.setPack { s.pack with reqs := [lreq typ 5] }
def nsE : State :=
  let s := (sv.setFlag rNoseCtl 0 true)
  let n := { s.nose with ents := [(4, { order := 9, kind := 2, ad := 7 })], cursors := [(5, 4)], ready := true, cyc := 3 }
  s.setNose { n with reqs := [{ thread := 5, rd := 4, op := .delete, promoted := false }], hcurs := [{ id := 6, addr := 4 }] }
def nsF : State := nsE.setNose { nsE.nose with reqs := [{ thread := 6, rd := 4, op := .delete, promoted := false }] }
def wck (b : Bytes) : Bytes := b ++ leBytes 2 (crc16 b)
def psr : PSearch := { thread := 5, rd := 4, num := 9, mask := 0, val := 0, again := false, frame := none }
/-- Thread 5 in system mode at pc 0x100, its registers in use. -/
def th5 : Thread := { ({ Thread.reset with run := true, pc := 0x100 }.setG 7 77) with kwin := (List.range 512).map fun i => BitVec.ofNat 8 (i * 7) }
def at5 (h : Thread) : State := sv.setTh 5 h
def st (a b : DWord) : State := at5 ((th5.setG 2 a).setG 3 b)
def muz5 : State := (st 4 5).setTh 5 { muz with pc := 0xE810 }
def muz2 : State := muz5.setTh 5 ((muz5.th 5).setCsr cMZLEFT 2)
/-- 64 bytes at 0x1000 of thread 5's data store. -/
def ldS (a b : DWord) (x : Bytes) : State := let s := st a b; { s with mem := { s.mem with dstore := memWrite [] (0x20000 + 0x1000) x } }
def kw5 (n : Nat) (s : State) : State := s.setTh 5 ((s.th 5).setCsr cKWLEN n)

/-! WellFormed: for each check a term it refuses, and one it takes. -/

theorem test_wf_search_message : (Instr.searchMessage (zeros 31) false false .good).wellFormed = false ∧ (Instr.searchMessage (zeros 32) false false .good).wellFormed = true := by decide +kernel
theorem test_wf_result_message : (Instr.resultMessage (zeros 33)).wellFormed = false := by decide +kernel
theorem test_wf_frame_flits : (Instr.linkFrameRelay (zeros 17)).wellFormed = false ∧ (Instr.linkFrameRelay (zeros 32)).wellFormed = true := by decide +kernel
theorem test_wf_frame_length : flitsFit (List.replicate 9344 0) = false := by
  unfold flitsFit; rw [List.length_replicate]; decide
theorem test_wf_frame_operand : (Instr.fwdReq { flits := zeros 15, full := false }).wellFormed = false := by decide +kernel
theorem test_wf_frame_good : (Instr.train (lf 11 7 7 5 9 false false []) true).wellFormed = true := by decide +kernel
theorem test_wf_dram_write : (Instr.dramRequest 0 true (zeros 63) (zeros 8) .good none).wellFormed = false ∧ (Instr.dramRequest 0 true (zeros 64) (zeros 7) .good none).wellFormed = false := by
  decide +kernel
theorem test_wf_module_read : (Instr.moduleTransactionEnd 0 true false (zeros 9)).wellFormed = false := by decide +kernel
theorem test_wf_boundary : (Instr.samplePreload (zeros 355) (zeros 356)).wellFormed = false := by decide +kernel

/-! Results worked out by hand from the tables of the specification, or published check values. -/

/-- CRC-32C of the ASCII digits 1 to 9 (the published check value). -/
theorem test_crc32c : crc32c [0x31, 0x32, 0x33, 0x34, 0x35, 0x36, 0x37, 0x38, 0x39] = 0xE3069283 := by decide +kernel
theorem test_add_wraps : ((nxt (exec (.add 5 4 2 3) (st (BitVec.allOnes 64) 2))).th 5).g 4 = 1 := by decide +kernel
theorem test_g0_discards : ((nxt (exec (.add 5 0 2 3) (st 1 2))).th 5).g 0 = 0 := by decide +kernel
theorem test_sra_sign : ((nxt (exec (.sra 5 4 2 3) (st 0x8000000000000000 65))).th 5).g 4 = 0xC000000000000000 := by decide +kernel
theorem test_mulh_signs : ((nxt (exec (.mulh 5 4 2 3) (st (BitVec.allOnes 64) 1))).th 5).g 4 = BitVec.allOnes 64 := by decide +kernel
theorem test_div_by_zero : ((nxt (exec (.div 5 4 2 3) (st 7 0))).th 5).g 4 = BitVec.allOnes 64 := by decide +kernel
theorem test_rem_sign : ((nxt (exec (.rem 5 4 2 3) (st (-7) 2))).th 5).g 4 = -1 := by decide +kernel
theorem test_clz_zero : ((nxt (exec (.clz 5 4 2) (st 0 0))).th 5).g 4 = 64 := by decide +kernel
theorem test_bswapw : ((nxt (exec (.bswapw 5 4 2) (st 0xAAAAAAAA12345678 0))).th 5).g 4 = 0x78563412 := by decide +kernel
theorem test_lui_sign : ((nxt (exec (.lui 5 4 0x8000) (st 0 0))).th 5).g 4 = 0xFFFFFFFF80000000 := by decide +kernel
theorem test_lh_sign : ((nxt (exec (.lh 5 4 2 0 .none) (ldS 0x1000 0 [0x34, 0x92]))).th 5).g 4 = 0xFFFFFFFFFFFF9234 := by decide +kernel
theorem test_sw_bytes : (nxt (exec (.sw 5 3 2 4) (ldS 0x1000 0x1122334455667788 []))).dread 5 0x1003 6 = [0, 0x88, 0x77, 0x66, 0x55, 0] := by decide +kernel
theorem test_bne_back : ((nxt (exec (.bne 5 2 3 0xFFFF) (st 1 2))).th 5).pc = 0xFC := by decide +kernel
theorem test_csrrc_g0 : ((nxt (exec (.csrrc 5 4 0 4) ((st 0 0).setTh 5 (((st 0 0).th 5).setCsr 4 0x1234)))).th 5).csr 4 = 0x1234 := by decide +kernel
theorem test_wait_without_job : ((nxt (exec (.wait 5 4 255 true) (st 0 0))).th 5).g 4 = 0xFF := by decide +kernel
theorem test_mzexit_word : ((nxt (exec (.mzexit 5 7) muz5)).th 5).csr cMZTVAL = 0 ∧ ((nxt (exec (.mzexit 5 7) muz5)).th 5).muzzled = false := by decide +kernel
theorem test_get_value : (((nxt (exec (.get 3 false) (withKeys [key1] (onOpr (opRq 1))))).frame 3).map fun f => f.res.map fun r => (r.status, r.arg, r.val)) =
    some [(0, 7, [1, 2])] := by decide +kernel
theorem test_get_absent : (((nxt (exec (.get 3 false) (onOpr (opRq 1)))).frame 3).map fun f => f.res.map fun r => r.status) = some [1] := by decide +kernel
theorem test_fence_push_full : (nxt (exec .fenTxPush (fenS.setFence { fenS.fence with toS := List.replicate 64 badPart }))).flag 0x20004 1 = true := by decide +kernel
theorem test_idcode : (nxt (exec .idcode sv)).readData = [0xB9640C3D] := by decide +kernel
theorem test_extest_stops_the_rest : exec .phcStep (nxt (exec .extest sv)) = .fault .functionalStateUndefined := rfl
theorem test_step_takes_the_front : (nxt (step { sv with pending := [.wideWindowReset, .phcStep] })).pending = [.phcStep] := by decide +kernel
theorem test_empty_queue_ticks : (nxt (step sv)).now = sv.now + 1 := by decide +kernel
theorem test_no_word_spells_a_command : decodeTableWord 32 0 = none := rfl

/-! The hypotheses of every statement are met: one theorem for each statement, a witness for each of its clauses. -/

theorem witness_AluRegisterResults : (st 1 2).issues 5 := by decide +kernel
theorem witness_MultiplyResults : (st 1 2).issues 5 := by decide +kernel
theorem witness_DivisionResults : (st 1 2).issues 5 := by decide +kernel
theorem witness_DivisionResults_5 : let s := st (BitVec.intMin 64) (BitVec.allOnes 64)
    s.issues 5 ∧ (s.th 5).g 2 = BitVec.intMin 64 ∧ (s.th 5).g 3 = BitVec.allOnes 64 := by decide +kernel
theorem witness_UnaryResults : (st 1 2).issues 5 := by decide +kernel
theorem witness_ImmediateResults : (st 1 2).issues 5 := by decide +kernel
theorem witness_LoadResults : let s := st 0x1000 2; let a := ((s.th 5).g 2 + (8 : Half).signExtend 64).toNat
    s.issues 5 ∧ a % 8 = 0 ∧ (s.th 5).mayAccess a 8 = true ∧ s.dbad 5 a 8 = false := by decide +kernel
theorem witness_StoreResults_1 : let s := st 0x1FFF0 2; let a := ((s.th 5).g 2 + (8 : Half).signExtend 64).toNat
    s.issues 5 ∧ a % 8 = 0 ∧ (s.th 5).mayAccess a 8 = true ∧ a + 8 ≤ 0x20000 := by decide +kernel
theorem witness_StoreResults_2 : let s := st 0x201F0 2; let a := ((s.th 5).g 2 + (8 : Half).signExtend 64).toNat
    s.issues 5 ∧ a % 8 = 0 ∧ 0x20000 ≤ a ∧ a + 8 ≤ 0x20200 := by decide +kernel
theorem witness_DataTraps : let s := st 0x1001 2; let u := st 0x30000 2; let a := ((u.th 5).g 2 + (0 : Half).signExtend 64).toNat
    s.issuesSystem 5 ∧ (s.th 5).intrap = false ∧ ((s.th 5).g 2 + (0 : Half).signExtend 64).toNat % 2 ≠ 0 ∧
    u.issuesSystem 5 ∧ (u.th 5).intrap = false ∧ a % 8 = 0 ∧ ¬ (0x20000 ≤ a ∧ a < 0x20200 ∨ 0x21000 ≤ a ∧ a < 0x21040 ∨ a < 0x20000) := by decide +kernel
theorem witness_DataTraps_fetch : let s := at5 { th5 with pc := 0x10000 }; let u := sv.setTh 5 th5 |>.setEn 1 { Engine.reset with badInsn := [0x20] }
    let w : State := { (at5 th5) with mem := { sv.mem with istore := memWrite [] (0x10000 + 0x100) [0xFF, 0xFF, 0xFF, 0xFF] } }
    (s.serving ∧ s.mayIssue 5 = true ∧ (s.th 5).muzzled = false ∧ (s.th 5).intrap = false ∧ s.fetch 5 = .access) ∧ (u.mayIssue 5 = true ∧ u.fetch 5 = .ecc) ∧
      w.mayIssue 5 = true ∧ w.fetch 5 = .illegal 0xFFFFFFFF := by decide +kernel
theorem witness_BranchResults : (st 1 1).straight 5 ∧ (0xC0 : Int) = ((st 1 1).th 5).pc + 4 * (0xFFF0 : Half).toInt := by decide +kernel
theorem witness_BranchResults_7 : (st 1 1).straight 5 ∧ (0xC0 : Int) = ((st 1 1).th 5).pc + 4 * (0x1FFFF0 : BitVec 21).toInt := by decide +kernel
theorem witness_BranchResults_8 : let s := st 0x204 1
    s.straight 5 ∧ 0x200 = ((s.th 5).g 2 + (0xFFFC : Half).signExtend 64).toNat := by decide +kernel
theorem witness_LoopResults : let s := st 7 0
    s.straight 5 ∧ (s.th 5).intrap = false ∧ ((s.th 5).g 2).toNat % 2 ^ 32 ≠ 0 ∧ ((s.th 5).g 3).toNat % 2 ^ 32 = 0 := by decide +kernel
theorem witness_LoopBodyEnd : ∀ n ∈ [1, 2], let s := at5 { th5 with sysLoops := [{ start := 0xF0, stop := 0x100, count := n }] }
    s.issuesSystem 5 ∧ (s.th 5).intrap = false ∧ (s.th 5).sysLoops = [{ start := 0xF0, stop := (s.th 5).pc, count := n }] := by decide +kernel
theorem witness_CsrResults : let s := st 5 6
    s.issuesSystem 5 ∧ csrMask (4 : BitVec 12).toNat ≠ 0 ∧ s.csrGet 5 (0x0FF : BitVec 12).toNat = none ∧ (s.th 5).intrap = false := by decide +kernel
theorem witness_ThreadControlResults :
    (∃ (t : Fin 256) (s : State), s.serving ∧ (s.th t).run = false) ∧
    (∃ (t : Fin 256) (s : State), s.serving ∧ (s.th t).run = true) ∧
    (∃ (t : Fin 256) (s : State), s.issues t) ∧
    (∃ (t : Fin 256) (code : Byte) (s : State), s.issuesSystem t ∧ (s.th t).intrap = false) ∧
    (∃ (t : Fin 256) (s : State), s.issuesSystem t ∧ (s.th t).intrap = true) ∧
    (∃ (t : Fin 256) (rd : Fin 32) (mask : Byte) (all : Bool) (s : State), s.issuesSystem t ∧ ((∀ k ∈ (s.th t).tickets, k = .free))) :=
  ⟨⟨5, at5 { th5 with run := false }, by decide +kernel⟩,
   ⟨5, st 1 2, by decide +kernel⟩,
   ⟨5, st 1 2, by decide +kernel⟩,
   ⟨5, 9, st 1 2, by decide +kernel⟩,
   ⟨5, at5 { th5 with intrap := true }, by decide +kernel⟩,
   ⟨5, 4, 255, false, st 1 2, by decide +kernel⟩⟩
theorem witness_MuzzleEntry : let s := ((st 1 2).setTh 5 (((({ muz with muzzled := false, pc := 0x100 }.setCsr cMZBUDGET 900).setCsr cMZENTRY 0xE804).setG 7 5).setCsr cMZLEFT 7)); let u := ((st 1 2).setTh 5 ((({ muz with muzzled := false, pc := 0x100 }.setCsr cMZCAUSE 0x2002).setG 7 5).setCsr cMZEPC 0xE820))
    s.issuesSystem 5 ∧ mzSetupOk (s.th 5) = true ∧ u.issuesSystem 5 ∧ (u.th 5).csr cMZCAUSE % 256 = 2 := by decide +kernel
theorem witness_MuzzleExit : muz5.issues 5 ∧ (muz5.th 5).muzzled = true ∧ muz2.serving ∧ (muz2.th 5).muzzled = true ∧ (muz2.th 5).csr cMZLEFT ≤ coreCycles := by decide +kernel
theorem witness_TrickProfileRefuses : muz5.issues 5 ∧ (muz5.th 5).muzzled = true ∧ (0xFFFF : Half).toInt ≤ 0 ∧ (0 : BitVec 21).toInt ≤ 0 := by decide +kernel
theorem witness_MessageAndJobResults_3 : let s := ldS 0x1000 0 ((List.range 64).map fun i => BitVec.ofNat 8 i)
    s.issuesSystem 5 ∧ 0x1000 = ((s.th 5).g 2).toNat ∧ s.dbad 5 0x1000 64 = false ∧ 0 < (s.th 5).tickets.length ∧ (s.th 5).tickets[0]? = some .free := by decide +kernel
theorem witness_MessageAndJobResults :
    (∃ (t : Fin 256) (rs1 : Fin 32) (rs2 : Fin 32) (s : State) (a : Nat) (r : Nat), s.issuesSystem t ∧ a = ((s.th t).g rs1).toNat ∧ r = ((s.th t).g rs2).toNat ∧ a % 64 = 0 ∧ a + 64 ≤ 0x20000 ∧ s.dbad t a 64 = false ∧ bits r 0 4 = 5 ∧ bits r 48 8 < 0xE0 ∧ 1 ≤ bits r 8 4 ∧ bits r 8 4 < 8) ∧
    (∃ (t : Fin 256) (rd : Fin 32) (nb : Bool) (s : State) (m : Msg) (q : List Msg), s.issuesSystem t ∧ (s.en (engineOf t)).queue = m :: q) :=
  ⟨⟨5, 2, 3, ldS 0x1000 (5 + 2 ^ 8 * 3 + 2 ^ 48 * 4) ((List.range 64).map fun i => BitVec.ofNat 8 i), 0x1000, 5 + 2 ^ 8 * 3 + 2 ^ 48 * 4, by decide +kernel⟩,
   ⟨5, 4, false, (st 0 0).setEn 1 { Engine.reset with queue := [inM], mesh := [{ inM with route := 9 }] }, inM, [], by decide +kernel⟩⟩
theorem witness_KeyAndFrameResults :
    (∃ (t : Fin 256) (rs1 : Fin 32) (rs2 : Fin 32) (s : State) (a : Nat) (n : Nat), s.issues t ∧ a = ((s.th t).g rs1).toNat ∧ n = ((s.th t).g rs2).toNat ∧ 1 ≤ n ∧ n ≤ 512 ∧ (s.th t).mayKey a n = true ∧ s.dbad t a n = false) ∧
    (∃ (t : Fin 256) (rd : Fin 32) (rs1 : Fin 32) (rs2 : Fin 32) (s : State) (a : Nat) (n : Nat) (k : Bytes) (b : Bytes), s.issues t ∧ a = ((s.th t).g rs1).toNat ∧ n = ((s.th t).g rs2).toNat ∧ 1 ≤ n ∧ n ≤ 512 ∧ (s.th t).mayKey a n = true ∧ s.dbad t a n = false ∧ kwBad s t ((s.th t).csr cKWLEN) = false ∧ k = (s.th t).kwin.take ((s.th t).csr cKWLEN) ∧ b = s.dread t a n) ∧
    (∃ (t : Fin 256) (rd : Fin 32) (s : State), s.issues t ∧ kwBad s t ((s.th t).csr cKWLEN) = false) ∧
    (∃ (t : Fin 256) (rd : Fin 32) (rs1 : Fin 32) (s : State), s.issues t ∧ kwBad s t ((s.th t).csr cKWLEN) = false ∧ (s.th t).csr cKWLEN ≠ 0) ∧
    (∃ (t : Fin 256) (rs1 : Fin 32) (rs2 : Fin 32) (s : State) (a : Nat), s.issuesSystem t ∧ a = ((s.th t).g rs1).toNat ∧ a % 32 = 0 ∧ a + 32 ≤ 0x20000 ∧ (s.th t).csr cKWLEN ≠ 0 ∧ kwBad s t ((s.th t).csr cKWLEN) = false) ∧
    (∃ (t : Fin 256) (rd : Fin 32) (rs1 : Fin 32) (s : State) (a : Nat) (b : Bytes), s.issues t ∧ a = ((s.th t).g rs1).toNat ∧ rd ≠ 31 ∧ (s.th t).mayKey a 16 = true ∧ s.dbad t a 16 = false ∧ b = s.dread t a 16) ∧
    (∃ (t : Fin 256) (rs1 : Fin 32) (rs2 : Fin 32) (rs3 : Fin 32) (s : State) (a : Nat), s.issues t ∧ a = ((s.th t).g rs1).toNat ∧ (s.th t).mayKey a 16 = true ∧ a + 16 ≤ 0x20000) :=
  ⟨⟨5, 2, 3, ldS 0x1000 12 ((List.range 64).map fun i => BitVec.ofNat 8 i), 0x1000, 12, by decide +kernel⟩,
   ⟨5, 4, 2, 3, kw5 9 (ldS 0x1000 12 ((List.range 64).map fun i => BitVec.ofNat 8 i)), 0x1000, 12, th5.kwin.take 9, (kw5 9 (ldS 0x1000 12 ((List.range 64).map fun i => BitVec.ofNat 8 i))).dread 5 0x1000 12, by decide +kernel⟩,
   ⟨5, 4, kw5 9 (ldS 0x1000 12 ((List.range 64).map fun i => BitVec.ofNat 8 i)), by decide +kernel⟩,
   ⟨5, 4, 3, kw5 9 (ldS 0x1000 12 ((List.range 64).map fun i => BitVec.ofNat 8 i)), by decide +kernel⟩,
   ⟨5, 2, 3, kw5 9 (ldS 0x1000 12 ((List.range 64).map fun i => BitVec.ofNat 8 i)), 0x1000, by decide +kernel⟩,
   ⟨5, 4, 2, kw5 9 (ldS 0x1000 12 ((List.range 64).map fun i => BitVec.ofNat 8 i)), 0x1000, (kw5 9 (ldS 0x1000 12 ((List.range 64).map fun i => BitVec.ofNat 8 i))).dread 5 0x1000 16, by decide +kernel⟩,
   ⟨5, 2, 3, 7, kw5 9 (ldS 0x1000 12 ((List.range 64).map fun i => BitVec.ofNat 8 i)), 0x1000, by decide +kernel⟩⟩
theorem witness_NoseInstructionResults_1 : let s := (((nsF.setFlag rNoseStatus 2 true).setFlag 0x10800000 0 true).setTh 5 ((th5.setG 2 0x1000).setG 3 6))
    s.issuesSystem 5 ∧ 0x1000 = ((s.th 5).g 2).toNat ∧ s.dbad 5 0x1000 32 = false ∧ s.flag rNoseStatus 2 = true ∧ s.noseOwes 5 = false ∧ s.noseOpen = true := by decide +kernel
theorem witness_NoseInstructionResults_2 : let s := (((nsF.setFlag rNoseStatus 2 true).setFlag 0x10800000 0 true).setTh 5 ((th5.setG 2 0x1000).setG 3 6))
    s.issuesSystem 5 ∧ s.cursorEnt 5 = some (4, { order := 9, kind := 2, ad := 7 }) ∧
    s.nose.hcurs.find? (fun x => x.id == ((s.th 5).g 3).toNat) = some { id := 6, addr := 4 } ∧ mget s.nose.ents 4 = some { order := 9, kind := 2, ad := 7 } := by decide +kernel
theorem witness_NoseCommandResults_delete : let s := nsE.setNose { nsE.nose with reqs := [{ thread := 5, rd := 4, op := .delete, promoted := false }] }
    s.slotFree ∧ s.onlyReq { thread := 5, rd := 4, op := .delete, promoted := false } ∧ s.cursorEnt 5 = some (4, { order := 9, kind := 2, ad := 7 }) ∧
    s.insertStatus 11 3 = 0 ∧ placeOf s.nose.ents 11 s.shiftMax = .at_ [] 5 ∧ isPlainMask 0 = true := by decide +kernel
theorem witness_NoseCommandResults_adw : let s := nsE.setNose { nsE.nose with reqs := [{ thread := 5, rd := 4, op := .adw 99 (some 3), promoted := false }] }
    s.slotFree ∧ s.onlyReq { thread := 5, rd := 4, op := .adw 99 (some 3), promoted := false } ∧ s.cursorEnt 5 = some (4, { order := 9, kind := 2, ad := 7 }) ∧
    s.insertStatus 11 3 = 0 ∧ placeOf s.nose.ents 11 s.shiftMax = .at_ [] 5 ∧ isPlainMask 0 = true := by decide +kernel
theorem witness_NoseCommandResults_insert : let s := nsE.setNose { nsE.nose with reqs := [{ thread := 5, rd := 4, op := .insert 11 3 88, promoted := false }] }
    s.slotFree ∧ s.onlyReq { thread := 5, rd := 4, op := .insert 11 3 88, promoted := false } ∧ s.cursorEnt 5 = some (4, { order := 9, kind := 2, ad := 7 }) ∧
    s.insertStatus 11 3 = 0 ∧ placeOf s.nose.ents 11 s.shiftMax = .at_ [] 5 ∧ isPlainMask 0 = true := by decide +kernel
theorem witness_NoseCommandResults_search : let s := nsE.setNose { nsE.nose with reqs := [{ thread := 5, rd := 4, op := .search 0 0, promoted := false }] }
    s.slotFree ∧ s.onlyReq { thread := 5, rd := 4, op := .search 0 0, promoted := false } ∧ s.cursorEnt 5 = some (4, { order := 9, kind := 2, ad := 7 }) ∧
    s.insertStatus 11 3 = 0 ∧ placeOf s.nose.ents 11 s.shiftMax = .at_ [] 5 ∧ isPlainMask 0 = true := by decide +kernel
theorem witness_NoseCommandResults :
    (∃ (s : State) (pre : List NReq) (post : List NReq) (r : NReq), s.serving ∧ s.nose.reqs = pre ++ r :: post ∧ ((∀ x ∈ pre, x.promoted = true)) ∧ r.promoted = false) ∧
    (∃ (s : State), s.serving) ∧
    (∃ (s : State), s.serving) ∧
    (∃ (s : State) (temp : BitVec 8), s.serving) ∧
    (∃ (s : State) (id : Fin 64), s.serving ∧ ((∃ c ∈ s.nose.hcurs, c.id = id.val))) ∧
    (∃ (s : State), s.serving) :=
  ⟨⟨nsE, [], [], { thread := 5, rd := 4, op := .delete, promoted := false }, by decide +kernel⟩,
   ⟨sv, by decide +kernel⟩,
   ⟨sv, by decide +kernel⟩,
   ⟨sv, 77, by decide +kernel⟩,
   ⟨nsE, 6, by decide +kernel⟩,
   ⟨sv, by decide +kernel⟩⟩
theorem witness_PackRequestResults :
    (∃ (s : State) (i : LinkIn) (ops : List OpReq), linkReaches s i 0x01 false ∧ s.memberFrame i.f.src i.f.tag = false ∧ byteAt i.f.data 0 = 0x32 ∧ parseOps 2 1 (i.f.data.drop 32) = some ops) ∧
    (∃ (s : State) (i : LinkIn) (ns : Nat) (n : Nat), linkReaches s i 0x03 false ∧ s.packPos = 0 ∧ ns = i.f.arg % 4096 ∧ n = bits i.f.arg 16 6 ∧ 1 ≤ n ∧ n ≤ 32 ∧ (s.nsOf ns).counter + n ≤ lastVersion ∧ (((s.nsOf ns).lease = lastVersion ∨ (s.nsOf ns).counter + n < (s.nsOf ns).lease))) ∧
    (∃ (s : State) (i : LinkIn) (ns : Nat) (v : Nat), linkReaches s i 0x05 false ∧ s.packPos = 0 ∧ i.f.arg % 128 = 1 ∧ v = leAt i.f.data 0 8 ∧ ns = leAt i.f.data 8 2) ∧
    (∃ (s : State) (i : LinkIn), linkReaches s i 0x07 false ∧ s.packPos = 0 ∧ bit i.f.arg 16 = false) ∧
    (∃ (s : State) (i : LinkIn), s.serving ∧ s.pckUp = true ∧ i.f.typ = 0x09 ∧ i.f.bcast = true ∧ i.f.src ≠ s.packPos ∧ i.f.crcBad = false ∧ i.full = false ∧ bit i.f.arg 0 = false ∧ ((∀ y ∈ s.ks.snaps, ¬ (y.ns = leAt i.f.data 0 2 % 4096 ∧ y.v = leAt i.f.data 8 8)))) ∧
    (∃ (s : State) (i : LinkIn), s.serving ∧ s.pckUp = true ∧ i.f.typ = 0x0A ∧ i.f.bcast = true ∧ i.f.src ≠ s.packPos ∧ i.f.src < 8 ∧ i.f.crcBad = false ∧ i.full = false ∧ byteAt i.f.data 3 = packN s.cfg.active ∧ leAt i.f.data 4 4 = s.packDigest) ∧
    (∃ (s : State) (i : LinkIn), linkReaches s i 0x0B false ∧ s.flag rPckCtl 1 = true) :=
  ⟨⟨pkS, lf 1 0 2 5 0 false false (0x32 :: zeros 31 ++ reqOps), (parseOps 2 1 reqOps).getD [], by decide +kernel⟩,
   ⟨pkS, lf 3 0 2 5 (1 + 2 * 2 ^ 16) false false [], 1, 2, by decide +kernel⟩,
   ⟨pkS, lf 5 0 2 5 1 false false (leBytes 8 7 ++ leBytes 2 1), 1, 7, by decide +kernel⟩,
   ⟨pkS, lf 7 0 2 5 1 false false [], by decide +kernel⟩,
   ⟨pkS, lf 9 0 2 5 0 false true (leBytes 2 1 ++ zeros 6 ++ leBytes 8 7), by decide +kernel⟩,
   ⟨pkS, lf 10 0 2 5 0 false true ([0, 0, 0, BitVec.ofNat 8 (packN pkS.cfg.active)] ++ leBytes 4 pkS.packDigest), by decide +kernel⟩,
   ⟨pkS.setFlag rPckCtl 1 true, lf 11 0 2 5 0 false false [], by decide +kernel⟩⟩
theorem witness_PackResponseResults :
    (∃ (s : State) (i : LinkIn) (r : LReq) (id : Nat) (f : Frame) (op : OpReq) (x : Session), linkReaches s i 0x02 true ∧ s.pack.reqs.find? (fun q => q.f.tag = i.f.tag && q.f.dst = i.f.src && q.f.typ = 0x01) = some r ∧ r.owner = some id ∧ s.frame id = some f ∧ f.op = some op ∧ s.frameSess f = some x ∧ f.waits = some 2 ∧ f.scan = none ∧ f.far = none ∧ ((op.opcode = 0x31 → byteAt i.f.data 2 ≠ 0)) ∧ ((op.opcode = 1 → bit (byteAt i.f.data 1) 4 = false)) ∧ (beAt i.f.data 6 2) ≤ s.valueRoom f x ∧ knownAll f = true) ∧
    (∃ (s : State) (i : LinkIn) (r : LReq) (id : Nat) (f : Frame) (op : OpReq) (w : Write), linkReaches s i 0x04 true ∧ s.pack.reqs.find? (fun q => q.f.tag = i.f.tag && q.f.dst = i.f.src && q.f.typ = 0x03) = some r ∧ r.owner = some id ∧ s.frame id = some f ∧ f.op = some op ∧ f.w = some w ∧ w.phase = .waitGrant ∧ i.f.arg % 256 = 0) ∧
    (∃ (s : State) (i : LinkIn) (r : LReq), linkReaches s i 0x06 true ∧ s.pack.reqs.find? (fun q => q.f.tag = i.f.tag && q.f.dst = i.f.src && q.f.typ = 0x05) = some r) ∧
    (∃ (s : State) (i : LinkIn) (r : LReq) (id : Nat) (f : Frame) (op : OpReq) (x : Session), linkReaches s i 0x08 true ∧ s.pack.reqs.find? (fun q => q.f.tag = i.f.tag && q.f.dst = i.f.src && q.f.typ = 0x07) = some r ∧ r.owner = some id ∧ s.frame id = some f ∧ f.op = some op ∧ s.frameSess f = some x ∧ f.waits = some 3 ∧ i.f.arg % 256 ≠ 0 ∧ knownAll f = true) ∧
    (∃ (s : State) (tag : Word) (r : LReq), s.serving ∧ s.flag 0x10800000 0 = true ∧ s.pack.reqs = [r] ∧ r.f.tag = tag.toNat ∧ r.tries < s.fld 0x1080000C 19 16) :=
  ⟨⟨asked 1 (withFrame pkS se { frm [opRq 1] with waits := some 2 }), lf 2 0 2 5 0 true false ([1, 0, 0, 0, 0, 0, 0, 0] ++ zeros 24), lreq 1 5, 3, { frm [opRq 1] with waits := some 2 }, opRq 1, se, by decide +kernel⟩,
   ⟨asked 3 (withFrame pkS se { frm [opRq 2] with w := some { write1 with phase := .waitGrant } }), lf 4 0 2 5 0 true false (leBytes 8 77), lreq 3 5, 3, { frm [opRq 2] with w := some { write1 with phase := .waitGrant } }, opRq 2, { write1 with phase := .waitGrant }, by decide +kernel⟩,
   ⟨asked 5 (withFrame pkS se { frm [opRq 1] with waits := some 2 }), lf 6 0 2 5 0 true false [], lreq 5 5, by decide +kernel⟩,
   ⟨asked 7 (withFrame pkS se { frm [opRq 8] with waits := some 3 }), lf 8 0 2 5 3 true false [], lreq 7 5, 3, { frm [opRq 8] with waits := some 3 }, opRq 8, se, by decide +kernel⟩,
   ⟨(asked 1 pkS).setFld 0x1080000C 19 16 3, 5, lreq 1 5, by decide +kernel⟩⟩
theorem witness_PackLinkResults :
    (∃ (s : State) (b : Bytes) (f : LFrame), s.serving ∧ s.pckUp = true ∧ f = frameOf b ∧ f.src ≠ s.packPos ∧ f.dst ≠ s.packPos ∧ f.bcast = false) ∧
    (∃ (s : State), s.serving ∧ s.pckUp = true ∧ ((s.ringUp = true → s.flag rPckCtl 1 = true → s.flag rPckStatus 6 = true))) ∧
    (∃ (s : State), s.serving ∧ s.pckUp = true ∧ s.ringUp = true ∧ s.flag rPckCtl 1 = true ∧ s.flag rPckStatus 6 = false ∧ s.pack.trainRounds < 32) ∧
    (∃ (s : State) (pos : Fin 8), s.serving ∧ pos.val ≠ s.packPos ∧ s.memberPresent pos.val = true) ∧
    (∃ (s : State), s.serving ∧ 2 ≤ packN s.cfg.active ∧ s.packPos < packN s.cfg.active ∧ 4 ≤ s.power.step) ∧
    (∃ (s : State), s.serving ∧ s.flag rPckCtl 0 = true) ∧
    (∃ (s : State), s.serving ∧ s.flag rPckCtl 0 = true ∧ s.ringUp = false ∧ 2 ≤ packN s.cfg.active ∧ s.packPos < packN s.cfg.active ∧ 4 ≤ s.power.step) ∧
    (∃ (s : State) (lane : Fin 4), s.serving ∧ s.flag rPckCtl 0 = true ∧ s.flag rPckStatus lane = true ∧ ((∀ r ∈ s.others, s.memberPresent r = false)) ∧ s.ft.frames = []) ∧
    (∃ (s : State) (pos : Fin 8) (ns : Nat) (v : Nat) (n : NsState), s.serving ∧ s.leadsPack = true ∧ s.memberPresent pos.val = false ∧ s.ks.ns = [(ns, n)] ∧ n.granted = [(pos.val, v)]) ∧
    (∃ (s : State), s.serving) ∧
    (∃ (s : State), s.serving ∧ s.flag rNoseStatus 2 = true ∧ ((∀ r ∈ s.others, s.memberPresent r = false)) ∧ s.ft.frames = []) :=
  ⟨⟨pkS, (lf 1 3 2 5 0 false false [1]).flits, (lf 1 3 2 5 0 false false [1]).f, by decide +kernel⟩,
   ⟨pkS, by decide +kernel⟩,
   ⟨(pkS.setFlag rPckCtl 1 true).setFlag rPckStatus 5 true, by decide +kernel⟩,
   ⟨pkS.setFlag rPckStatus 18 true, 2, by decide +kernel⟩,
   ⟨{ pkS with cfg := { pkS.cfg with active := { set1 with recs := set1.recs ++ [(10 * 65536, 3 :: zeros 159)] } } }, by decide +kernel⟩,
   ⟨pkS, by decide +kernel⟩,
   ⟨{ pkS with cfg := { pkS.cfg with active := { set1 with recs := set1.recs ++ [(10 * 65536, 3 :: zeros 159)] } } }, by decide +kernel⟩,
   ⟨pkS.setFlag rPckStatus 1 true, 1, by decide +kernel⟩,
   ⟨({ pkS with cfg := { pkS.cfg with active := { set1 with recs := set1.recs ++ [(10 * 65536, 3 :: zeros 159)] } } }).setKs { pkS.ks with ns := [(1, { NsState.fresh with granted := [(2, 9)] })] }, 2, 1, 9, { NsState.fresh with granted := [(2, 9)] }, by decide +kernel⟩,
   ⟨pkS, by decide +kernel⟩,
   ⟨pkS, by decide +kernel⟩⟩
theorem witness_PackSearchResults :
    (∃ (s : State) (m : Bytes) (matchIn : Bool), s.serving ∧ s.pckUp = true ∧ m.length = 32 ∧ leAt m 1 2 / 8192 ≠ s.packPos ∧ flitTypes 0xE1 0xE2 m = true ∧ checkOk m = true ∧ s.flag rNoseStatus 2 = true ∧ s.flag rNoseCtl 2 = true ∧ s.flag rNoseCtl 0 = true ∧ s.nose.ready = true) ∧
    (∃ (s : State) (m : Bytes), s.serving ∧ s.pckUp = true ∧ m.length = 32 ∧ leAt m 2 2 / 8192 ≠ s.packPos ∧ flitTypes 0xE3 0xE4 m = true ∧ checkOk m = true) ∧
    (∃ (s : State) (m : Bytes) (q : PSearch), s.serving ∧ s.pckUp = true ∧ m.length = 32 ∧ leAt m 2 2 / 8192 = s.packPos ∧ flitTypes 0xE3 0xE4 m = true ∧ checkOk m = true ∧ s.nose.reqs = [] ∧ s.nose.seqn = none ∧ s.nose.wide = none ∧ q.frame = none ∧ (s.th q.thread).sleep = .nose q.rd ∧ s.nose.psearch = [q] ∧ q.num = leAt m 2 2 % 8192 ∧ q.rd ≠ 0 ∧ q.rd < 31) ∧
    (∃ (s : State) (q : PSearch) (num : BitVec 13), s.serving ∧ s.nose.psearch = [q] ∧ q.num = num.toNat ∧ q.again = false) :=
  ⟨⟨((pkS.setFlag rNoseCtl 0 true).setFlag rNoseCtl 2 true).setNose { nsE.nose with reqs := [] }, wck ([0xE1] ++ leBytes 2 (2 * 8192 + 9) ++ zeros 13 ++ [0xE2] ++ zeros 11 ++ [100, 0]), true, by decide +kernel⟩,
   ⟨pkS, wck ([0xE3, 0] ++ leBytes 2 (2 * 8192 + 9) ++ zeros 12 ++ [0xE4] ++ zeros 13), by decide +kernel⟩,
   ⟨(pkS.setNose { pkS.nose with psearch := [psr] }).setTh 5 { th5 with sleep := .nose 4 }, wck ([0xE3, 0] ++ leBytes 2 9 ++ zeros 4 ++ leBytes 8 88 ++ [0xE4] ++ leBytes 8 99 ++ zeros 5), psr, by decide +kernel⟩,
   ⟨pkS.setNose { pkS.nose with psearch := [psr] }, psr, 9, by decide +kernel⟩⟩
theorem witness_RegisterAccessResults_fields : ∀ a ∈ [Acc.ro, .wo, .rw, .w1c, .w1s], ∃ f : Fld, f.acc = a ∧ 1 < f.w :=
  fun a _ => ⟨{ lo := 0, w := 2, acc := a, legal := .any }, rfl, Nat.one_lt_two⟩
theorem witness_RegisterAccessResults :
    (∃ (s : State) (i : WriteIn) (a : Word) (v : Word) (r : Reg), s.planeUp a.toNat ∧ lookupReg a.toNat = some (r, a.toNat) ∧ r.kind = .word ∧ a.toNat % 4 = 0 ∧ startsOnWrite a.toNat = false) ∧
    (∃ (s : State) (i : WriteIn) (v : Word), s.operating) ∧
    (∃ (s : State) (i : WriteIn) (v : Word), s.serving) ∧
    (∃ (s : State) (a : Word) (r : Reg), s.planeUp a.toNat ∧ lookupReg a.toNat = some (r, a.toNat) ∧ r.kind = .ctr) ∧
    (∃ (s : State) (a : Word) (r : Reg), s.planeUp a.toNat ∧ lookupReg a.toNat = some (r, a.toNat) ∧ r.kind ≠ .word) ∧
    (∃ (s : State) (a : Word) (r : Reg), s.planeUp a.toNat ∧ 4 ≤ a.toNat ∧ lookupReg a.toNat = some (r, a.toNat - 4) ∧ r.kind ≠ .word) ∧
    (∃ (t : Fin 256) (rd : Fin 32) (rs1 : Fin 32) (imm : Half) (s : State), s.issuesSystem t ∧ ((s.th t).g rs1 + imm.signExtend 64).toNat % 4 = 0 ∧ ((s.th t).g rs1 + imm.signExtend 64).toNat < 0x10000000) ∧
    (∃ (t : Fin 256) (rd : Fin 32) (rs1 : Fin 32) (imm : Half) (s : State), s.issuesSystem t ∧ ((s.th t).g rs1 + imm.signExtend 64).toNat % 4 = 0 ∧ 0x10000000 ≤ ((s.th t).g rs1 + imm.signExtend 64).toNat ∧ ((s.th t).g rs1 + imm.signExtend 64).toNat < 2 ^ 32 ∧ (lookupReg ((s.th t).g rs1 + imm.signExtend 64).toNat).isSome = true) ∧
    (∃ (t : Fin 256) (rs2 : Fin 32) (rs1 : Fin 32) (imm : Half) (s : State), s.issuesSystem t ∧ ((s.th t).g rs1 + imm.signExtend 64).toNat = 0x10100008) ∧
    (∃ (t : Fin 256) (rs2 : Fin 32) (rs1 : Fin 32) (imm : Half) (s : State), s.issuesSystem t ∧ ((s.th t).g rs1 + imm.signExtend 64).toNat % 4 = 0 ∧ ((s.th t).g rs1 + imm.signExtend 64).toNat < 0x10000000) :=
  ⟨⟨sv, wrIn, 0x10000018, 0x00050007, ((lookupReg 0x10000018).getD (ctr 0 "", 0)).1, by decide +kernel⟩,
   ⟨State.reset, wrIn, 5, by decide +kernel⟩,
   ⟨sv, wrIn, 1024, by decide +kernel⟩,
   ⟨sv, 0x10002000, ctr 0x10002000 "SYS_FT_RX_FRAMES", by decide +kernel⟩,
   ⟨sv, 0x10002000, ctr 0x10002000 "SYS_FT_RX_FRAMES", by decide +kernel⟩,
   ⟨sv, 0x10002004, ctr 0x10002000 "SYS_FT_RX_FRAMES", by decide +kernel⟩,
   ⟨5, 4, 2, 0, st 0x30000 9, by decide +kernel⟩,
   ⟨5, 4, 2, 0, st 0x10100008 9, by decide +kernel⟩,
   ⟨5, 3, 2, 0, st 0x10100008 100, by decide +kernel⟩,
   ⟨5, 3, 2, 0, st 0x30000 9, by decide +kernel⟩⟩
theorem witness_FetchReadResults :
    (∃ (s : State) (t : State) (id : Nat) (f : Frame) (x : Session) (op : OpReq) (v : Ver), s.atTurn id 1 f x op ∧ op.val = [] ∧ s.findPlace f (s.setOf f.epoch) op (s.opChecks (s.setOf f.epoch) x op 0 op.key.length false) = .pass t ∧ s.isPending op.ns op.key = false ∧ s.liveOf op.ns op.key = some v ∧ v.value.length ≤ s.valueRoom f x ∧ s.valueDamage op.ns op.key = []) ∧
    (∃ (s : State) (t : State) (id : Nat) (f : Frame) (x : Session) (op : OpReq) (v : Ver), s.atTurn id 1 f x op ∧ op.val = [] ∧ s.findPlace f (s.setOf f.epoch) op (s.opChecks (s.setOf f.epoch) x op 0 op.key.length false) = .pass t ∧ s.isPending op.ns op.key = false ∧ s.liveOf op.ns op.key = some v ∧ v.value.length ≤ s.valueRoom f x ∧ s.valueDamage op.ns op.key = [true]) ∧
    (∃ (s : State) (t : State) (id : Nat) (f : Frame) (x : Session) (op : OpReq), s.atTurn id 1 f x op ∧ op.val = [] ∧ s.findPlace f (s.setOf f.epoch) op (s.opChecks (s.setOf f.epoch) x op 0 op.key.length false) = .pass t ∧ s.isPending op.ns op.key = false ∧ s.liveOf op.ns op.key = none ∧ s.valueDamage op.ns op.key = []) ∧
    (∃ (s : State) (t : State) (id : Nat) (f : Frame) (x : Session) (op : OpReq) (v : Ver), s.atTurn id 1 f x op ∧ op.val = [] ∧ s.findPlace f (s.setOf f.epoch) op (s.opChecks (s.setOf f.epoch) x op 0 op.key.length false) = .pass t ∧ s.isPending op.ns op.key = false ∧ s.liveOf op.ns op.key = some v ∧ s.valueRoom f x < v.value.length ∧ f.ops.length = 1 ∧ f.isClient = true ∧ s.valueDamage op.ns op.key = []) ∧
    (∃ (s : State) (t : State) (id : Nat) (f : Frame) (x : Session) (op : OpReq) (v : Ver), s.atTurn id 7 f x op ∧ op.val = [] ∧ s.findPlace f (s.setOf f.epoch) op (s.opChecks (s.setOf f.epoch) x op 0 op.key.length false) = .pass t ∧ s.isPending op.ns op.key = false ∧ s.liveOf op.ns op.key = some v ∧ (s.valueDamage op.ns op.key).contains false = false) ∧
    (∃ (s : State) (t : State) (id : Nat) (f : Frame) (x : Session) (op : OpReq), s.atTurn id 0x0A f x op ∧ op.key = [] ∧ op.val = [] ∧ s.admitOp (s.setOf f.epoch) x 0 = some t ∧ s.barrierMet id f = true) ∧
    (∃ (s : State) (t : State) (id : Nat) (f : Frame) (x : Session) (op : OpReq), s.atTurn id 0x0C f x op ∧ op.ns = 0 ∧ op.key = [] ∧ op.val.length ≤ 7936 ∧ s.admitOp (s.setOf f.epoch) x op.val.length = some t ∧ op.val.length ≤ s.valueRoom f x) ∧
    (∃ (s : State) (id : Nat) (f : Frame) (x : Session) (op : OpReq), s.atTurn id 0x34 f x op ∧ isOperator x = true ∧ op.key = [] ∧ op.val = []) ∧
    (∃ (s : State) (id : Nat) (f : Frame) (x : Session) (op : OpReq) (d : List Bytes), s.atTurn id 0x30 f x op ∧ isOperator x = true ∧ op.val.length % 32 = 0 ∧ op.val ≠ [] ∧ op.val.length ≤ 7936 ∧ op.key = [] ∧ s.cfg.waiting = none ∧ 4 ≤ (s.cfg.shadow.get secGlobal 0).length ∧ placeAll s.cfg.shadow.dir (chunks 248 32 op.val) = some d) ∧
    (∃ (s : State) (id : Nat) (f : Frame) (x : Session) (op : OpReq), s.atTurn id 0x32 f x op ∧ f.isClient = true) ∧
    (∃ (s : State) (id : Nat) (f : Frame) (x : Session) (op : OpReq) (st : Byte) (cls : BitVec 2) (arg : DWord) (val : Bytes), s.serving ∧ s.frame id = some f ∧ f.waits = some 1 ∧ f.op = some op ∧ s.frameSess f = some x ∧ val.length ≤ s.valueRoom f x) :=
  ⟨⟨withKeys [key1] (onOpr (opRq 1)), withKeys [key1] (onOpr (opRq 1)), 3, frm [opRq 1], se, opRq 1, ver1, by decide +kernel⟩,
   ⟨lostA (withKeys [key1] (onOpr (opRq 1))), lostA (withKeys [key1] (onOpr (opRq 1))), 3, frm [opRq 1], se, opRq 1, ver1, by decide +kernel⟩,
   ⟨onOpr (opRq 1), onOpr (opRq 1), 3, frm [opRq 1], se, opRq 1, by decide +kernel⟩,
   ⟨withKeys [{ key1 with vers := [big] }] (small (onOpr (opRq 1))), withKeys [{ key1 with vers := [big] }] (small (onOpr (opRq 1))), 3, frm [opRq 1], se, opRq 1, big, by decide +kernel⟩,
   ⟨withKeys [key1] (onOpr (opRq 7)), withKeys [key1] (onOpr (opRq 7)), 3, frm [opRq 7], se, opRq 7, ver1, by decide +kernel⟩,
   ⟨onOpr (opK 0x0A), onOpr (opK 0x0A), 3, frm [opK 0x0A], se, opK 0x0A, by decide +kernel⟩,
   ⟨onOpr ping, onOpr ping, 3, frm [ping], se, ping, by decide +kernel⟩,
   ⟨onOpr (opK 0x34), 3, frm [opK 0x34], se, opK 0x34, by decide +kernel⟩,
   ⟨onOpr dirUp, 3, frm [dirUp], se, dirUp, [zeros 32], by decide +kernel⟩,
   ⟨onOpr (opRq 0x32), 3, frm [opRq 0x32], se, opRq 0x32, by decide +kernel⟩,
   ⟨withFrame sv se { frm [opRq 1] with waits := some 1 }, 3, { frm [opRq 1] with waits := some 1 }, se, opRq 1, 0, 1, 4, [7], by decide +kernel⟩⟩
theorem witness_FetchScanResults :
    (∃ (s : State) (t : State) (id : Nat) (f : Frame) (x : Session) (op : OpReq) (k : KeyRec) (v : Ver), s.atTurn id 8 f x op ∧ s.scanChecks (s.setOf f.epoch) x op = .pass t ∧ op.flags = 0 ∧ op.val = [] ∧ f.isClient = true ∧ packN (s.setOf f.epoch) ≤ 1 ∧ s.ks.keys = [k] ∧ k.ns = op.ns ∧ isBeginOf op.key k.key = true ∧ k.pend = none ∧ liveVer k = some v ∧ s.ks.cursors.length < 4096 ∧ dirNext (s.setOf f.epoch) op.ns (headOf op.key) (s.isForeign (s.setOf f.epoch)) = none ∧ 20 + k.key.length + v.value.length ≤ s.valueRoom f x ∧ ((nsStateOf (s.setOf f.epoch) op.ns = 3 ∨ s.ownedHere (s.setOf f.epoch) op.ns (headOf k.key) = true)) ∧ (s.verDamage k v).contains false = false) ∧
    (∃ (s : State) (t : State) (id : Nat) (f : Frame) (x : Session) (op : OpReq) (k : Cursor), s.atTurn id 9 f x op ∧ op.key = [] ∧ op.val = [] ∧ 1 ≤ op.arg % 65536 ∧ op.arg % 65536 ≤ 1024 ∧ hasRight x 2 = true ∧ nsAllowed (s.setOf f.epoch) x op.ns = true ∧ s.admitOp (s.setOf f.epoch) x 0 = some t ∧ s.ks.cursors = [k] ∧ k.id = op.arg / 2 ^ 32 ∧ k.sess = f.owner ∧ k.ns = op.ns ∧ k.snapGone = false ∧ k.snap = none ∧ k.far = none ∧ s.ks.keys = [] ∧ packN (s.setOf f.epoch) ≤ 1 ∧ (s.setOf f.epoch).dir = [] ∧ 8 ≤ s.valueRoom f x ∧ ((nsStateOf (s.setOf f.epoch) op.ns = 3 → nsFlag (s.setOf f.epoch) op.ns 1 = true))) ∧
    (∃ (s : State) (y : Snap), s.serving ∧ s.ks.snaps = [y]) ∧
    (∃ (s : State) (c : Cursor), s.serving ∧ s.ks.cursors = [c]) ∧
    (∃ (s : State) (id : Nat) (f : Frame) (x : Session) (value : Bytes) (v : Nat) (off : Nat), s.serving ∧ s.frame id = some f ∧ f.cont = some (value, v, off) ∧ f.phase = .sent ∧ s.sends f.sess x ∧ s.canSend f.port = true ∧ s.halted = false ∧ off + (s.space f x - 16) < value.length) ∧
    (∃ (s : State) (id : Nat) (f : Frame) (x : Session) (value : Bytes) (v : Nat) (off : Nat), s.serving ∧ s.frame id = some f ∧ f.cont = some (value, v, off) ∧ f.phase = .sent ∧ s.sends f.sess x ∧ s.canSend f.port = true ∧ s.halted = false ∧ value.length ≤ off + (s.space f x - 16)) :=
  ⟨⟨withKeys [key1] (onOpr (opScan)), withKeys [key1] (onOpr (opScan)), 3, frm [opScan], se, opScan, key1, ver1, by decide +kernel⟩,
   ⟨withCur (onOpr opNext), withCur (onOpr opNext), 3, frm [opNext], se, opNext, cur1, by decide +kernel⟩,
   ⟨sv.setKs { sv.ks with snaps := [{ id := 4, ns := 1, v := 9, at0 := 0, refs := 0 }] }, { id := 4, ns := 1, v := 9, at0 := 0, refs := 0 }, by decide +kernel⟩,
   ⟨withCur sv, cur1, by decide +kernel⟩,
   ⟨small (withFrame sv se contF), 3, contF, se, List.replicate 400 1, 7, 0, by decide +kernel⟩,
   ⟨withFrame sv se { contF with cont := some ([1, 2, 3], 7, 1) }, 3, { contF with cont := some ([1, 2, 3], 7, 1) }, se, [1, 2, 3], 7, 1, by decide +kernel⟩⟩
theorem witness_FetchWriteTakes_delete : let s := withKeys [key1] (onOpr (opRq 3)); let f := frm [opRq 3]; let op := opRq 3
    s.atTurn 3 3 f se op ∧ s.halted = false ∧ f.w = none ∧ s.findPlace f (s.setOf f.epoch) op (s.writeChecks (s.setOf f.epoch) f se op) = .pass s ∧ s.isPending op.ns op.key = false ∧
    s.reserveOk (recLines op.key.length op.val.length) = true ∧ ((s.pendKey op.ns op.key 3).2.valueDamage op.ns op.key).contains false = false ∧
    (s.pendKey op.ns op.key 3).2.writeRoom (s.setOf f.epoch) op true [] := by decide +kernel
theorem witness_FetchWriteTakes_cas : let s := withKeys [key1] (onOpr ({ opRq 4 with arg := 7, val := [5] })); let f := frm [{ opRq 4 with arg := 7, val := [5] }]; let op := { opRq 4 with arg := 7, val := [5] }
    s.atTurn 3 4 f se op ∧ s.halted = false ∧ f.w = none ∧ s.findPlace f (s.setOf f.epoch) op (s.writeChecks (s.setOf f.epoch) f se op) = .pass s ∧ s.isPending op.ns op.key = false ∧
    s.reserveOk (recLines op.key.length op.val.length) = true ∧ ((s.pendKey op.ns op.key 3).2.valueDamage op.ns op.key).contains false = false ∧
    (s.pendKey op.ns op.key 3).2.writeRoom (s.setOf f.epoch) op false [5] := by decide +kernel
theorem witness_FetchWriteTakes_fetchAdd : let s := withKeys [] (onOpr (opRq 5)); let f := frm [opRq 5]; let op := opRq 5
    s.atTurn 3 5 f se op ∧ s.halted = false ∧ f.w = none ∧ s.findPlace f (s.setOf f.epoch) op (s.writeChecks (s.setOf f.epoch) f se op) = .pass s ∧ s.isPending op.ns op.key = false ∧
    s.reserveOk (recLines op.key.length op.val.length) = true ∧ ((s.pendKey op.ns op.key 3).2.valueDamage op.ns op.key).contains false = false ∧
    (s.pendKey op.ns op.key 3).2.writeRoom (s.setOf f.epoch) op false (zeros 8) := by decide +kernel
theorem witness_FetchWriteTakes_append : let s := withKeys [key1] (onOpr ({ opRq 6 with val := [5] })); let f := frm [{ opRq 6 with val := [5] }]; let op := { opRq 6 with val := [5] }
    s.atTurn 3 6 f se op ∧ s.halted = false ∧ f.w = none ∧ s.findPlace f (s.setOf f.epoch) op (s.writeChecks (s.setOf f.epoch) f se op) = .pass s ∧ s.isPending op.ns op.key = false ∧
    s.reserveOk (recLines op.key.length op.val.length) = true ∧ ((s.pendKey op.ns op.key 3).2.valueDamage op.ns op.key).contains false = false ∧
    (s.pendKey op.ns op.key 3).2.writeRoom (s.setOf f.epoch) op false [1, 2, 5] := by decide +kernel
theorem witness_FetchWriteTakes :
    (∃ (s : State) (t : State) (id : Nat) (f : Frame) (x : Session) (op : OpReq), s.atTurn id 2 f x op ∧ s.halted = false ∧ f.w = none ∧ s.findPlace f (s.setOf f.epoch) op (s.writeChecks (s.setOf f.epoch) f x op) = .pass t ∧ t.writeRoom (s.setOf f.epoch) op false op.val) ∧
    (∃ (s : State) (t : State) (id : Nat) (f : Frame) (x : Session) (op : OpReq) (v : Ver), s.atTurn id 4 f x op ∧ s.halted = false ∧ f.w = none ∧ s.findPlace f (s.setOf f.epoch) op (s.writeChecks (s.setOf f.epoch) f x op) = .pass t ∧ s.isPending op.ns op.key = false ∧ s.liveOf op.ns op.key = some v ∧ op.arg ≠ 0 ∧ v.version ≠ op.arg ∧ t.reserveOk (recLines op.key.length op.val.length) = true ∧ ((t.pendKey op.ns op.key id).2.valueDamage op.ns op.key).contains false = false) :=
  ⟨⟨onOpr ({ opRq 2 with val := [5] }), onOpr ({ opRq 2 with val := [5] }), 3, frm [{ opRq 2 with val := [5] }], se, { opRq 2 with val := [5] }, by decide +kernel⟩,
   ⟨withKeys [key1] (onOpr ({ opRq 4 with arg := 3 })), withKeys [key1] (onOpr ({ opRq 4 with arg := 3 })), 3, frm [{ opRq 4 with arg := 3 }], se, { opRq 4 with arg := 3 }, ver1, by decide +kernel⟩⟩
theorem witness_FetchWriteShows_put : let f : Frame := { frm [opRq 2] with w := some write1 }; let s := withFrame sv se f
    s.atTurn 3 2 f se (opRq 2) ∧ s.halted = false ∧ f.w = some write1 ∧ write1.phase = .pending := by decide +kernel
theorem witness_FetchWriteShows_delete : let f : Frame := { frm [opRq 3] with w := some write1 }; let s := withFrame sv se f
    s.atTurn 3 3 f se (opRq 3) ∧ s.halted = false ∧ f.w = some write1 ∧ write1.phase = .pending := by decide +kernel
theorem witness_FetchWriteShows_cas : let f : Frame := { frm [opRq 4] with w := some write1 }; let s := withFrame sv se f
    s.atTurn 3 4 f se (opRq 4) ∧ s.halted = false ∧ f.w = some write1 ∧ write1.phase = .pending := by decide +kernel
theorem witness_FetchWriteShows_fetchAdd : let f : Frame := { frm [opRq 5] with w := some write1 }; let s := withFrame sv se f
    s.atTurn 3 5 f se (opRq 5) ∧ s.halted = false ∧ f.w = some write1 ∧ write1.phase = .pending := by decide +kernel
theorem witness_FetchWriteShows_append : let f : Frame := { frm [opRq 6] with w := some write1 }; let s := withFrame sv se f
    s.atTurn 3 6 f se (opRq 6) ∧ s.halted = false ∧ f.w = some write1 ∧ write1.phase = .pending := by decide +kernel
theorem witness_FetchWriteShows :
    (∃ (s : State) (id : Nat) (f : Frame) (x : Session) (op : OpReq) (w : Write) (r : JRec), s.atTurn id 2 f x op ∧ s.halted = false ∧ f.w = some w ∧ w.phase = .pending ∧ s.st.jrn.find? (fun y => y.jsn = w.jsn) = some r ∧ s.localCap ≤ 2 ^ 32 ∧ 64 * r.line + 64 * r.lines ≤ s.localCap ∧ s.interCap ≤ 0x8000000000) ∧
    (∃ (s : State) (id : Nat) (f : Frame) (x : Session) (op : OpReq) (w : Write), s.atTurn id 2 f x op ∧ s.halted = false ∧ f.w = some w ∧ w.phase = .taken ∧ s.isPending w.ns w.key = false ∧ ((s.findKey w.ns w.key).map heldVersion).getD 0 ≤ w.version) ∧
    (∃ (s : State) (id : Nat) (f : Frame) (x : Session) (op : OpReq) (w : Write), s.atTurn id 2 f x op ∧ s.halted = false ∧ f.w = some w ∧ w.phase = .taken ∧ s.isPending w.ns w.key = false ∧ w.version < ((s.findKey w.ns w.key).map heldVersion).getD 0) ∧
    (∃ (s : State) (id : Nat) (f : Frame) (op : OpReq) (w : Write), s.serving ∧ s.frame id = some f ∧ f.w = some w ∧ f.op = some op ∧ w.phase = .waitJournal) ∧
    (∃ (s : State) (m : Mirror) (ns : BitVec 12) (fo : BitVec 14) (v : DWord), s.serving ∧ s.ks.mirrors = [m] ∧ m.ns = ns.toNat ∧ m.follower = fo.toNat) ∧
    (∃ (s : State) (id : Nat) (f : Frame) (d : WDone), s.serving ∧ s.frame id = some f ∧ f.writes = [d] ∧ d.cls = 2 ∧ d.reached = false) :=
  ⟨⟨jrnS (withFrame sv se (wfr 2 .pending)), 3, wfr 2 .pending, se, opRq 2, write1, { hrec 1 with jsn := 0, value := [8] }, by decide +kernel⟩,
   ⟨withFrame sv se (wfr 2 .taken), 3, wfr 2 .taken, se, opRq 2, { write1 with phase := .taken }, by decide +kernel⟩,
   ⟨withKeys [{ key1 with vers := [{ ver1 with version := 99 }] }] (withFrame sv se (wfr 2 .taken)), 3, wfr 2 .taken, se, opRq 2, { write1 with phase := .taken }, by decide +kernel⟩,
   ⟨withFrame sv se (wfr 2 .waitJournal), 3, wfr 2 .waitJournal, opRq 2, { write1 with phase := .waitJournal }, by decide +kernel⟩,
   ⟨sv.setKs { sv.ks with mirrors := [mir1] }, mir1, 1, 2, 9, by decide +kernel⟩,
   ⟨withFrame sv se { frm [opRq 2] with writes := [wd1], res := [resOf (opRq 2) 0 9 [] 2] }, 3, { frm [opRq 2] with writes := [wd1], res := [resOf (opRq 2) 0 9 [] 2] }, wd1, by decide +kernel⟩⟩
theorem witness_FetchSegmentResults :
    (∃ (s : State) (t : State) (id : Nat) (f : Frame) (x : Session) (op : OpReq), s.serving ∧ s.frame id = some f ∧ s.frameSess f = some x ∧ s.sess f.sess = some x ∧ f.op = some op ∧ f.isClient = true ∧ f.phase = .executing ∧ f.waits = none ∧ f.seg = none ∧ f.w = none ∧ bit op.flags 4 = true ∧ ((op.opcode = 2 ∨ op.opcode = 4 ∨ op.opcode = 6 ∨ op.opcode = 0x0B ∨ op.opcode = 0x31)) ∧ 8 ≤ op.val.length ∧ op.val.length ≤ 7936 ∧ beAt op.val 0 4 ≤ 16777216 ∧ op.val.length - 8 < beAt op.val 0 4 ∧ s.segChecks (s.setOf f.epoch) x op (beAt op.val 0 4) = .pass t ∧ t.segNoSpace (s.setOf f.epoch) op (beAt op.val 0 4) = false ∧ x.seg = none ∧ s.reassemblyUsed + (beAt op.val 0 4 + 4095) / 4096 * 4096 ≤ s.proto 12 4 * 1048576) ∧
    (∃ (s : State) (t : State) (id : Nat) (f : Frame) (x : Session) (op : OpReq) (g : Seg), s.atTurn id 0x10 f x op ∧ f.isClient = true ∧ s.sess f.sess = some x ∧ s.admitOp (s.setOf f.epoch) x 0 = some t ∧ x.seg = some g ∧ op.arg / 2 ^ 32 = g.first ∧ op.arg % 2 ^ 32 = g.data.length ∧ op.ns = 0 ∧ op.key = [] ∧ op.val.length ≤ 7936 ∧ g.data.length + op.val.length < g.total) ∧
    (∃ (s : State) (t : State) (id : Nat) (f : Frame) (x : Session) (op : OpReq) (g : Seg), s.atTurn id 0x10 f x op ∧ f.isClient = true ∧ s.sess f.sess = some x ∧ s.admitOp (s.setOf f.epoch) x 0 = some t ∧ x.seg = some g ∧ op.arg / 2 ^ 32 = g.first ∧ op.arg % 2 ^ 32 = g.data.length ∧ op.ns = 0 ∧ op.key = [] ∧ op.val.length ≤ 7936 ∧ g.data.length + op.val.length = g.total) ∧
    (∃ (s : State) (sid : Fin 65536) (x : Session), s.serving ∧ s.sess sid = some x ∧ x.seg.isSome = true) ∧
    (∃ (s : State) (id : Nat) (f : Frame) (x : Session) (op : OpReq), s.atTurn id 0x31 f x op ∧ bits op.flags 2 2 = 0 ∧ isOperator x = true ∧ nsStateOf (s.setOf f.epoch) op.ns = 3 ∧ s.power.sit = false ∧ packN (s.setOf f.epoch) ≤ 1 ∧ s.underLead = false ∧ mirrorFieldsOk 0 f.seg.isSome op = true ∧ s.flag rStState 4 = false ∧ op.arg = (s.nsOf op.ns).applied + 1 ∧ s.reserveOk (recLines op.key.length op.val.length) = true) ∧
    (∃ (s : State) (id : Nat) (f : Frame) (x : Session) (op : OpReq), s.atTurn id 0x31 f x op ∧ bits op.flags 2 2 = 1 ∧ isOperator x = true ∧ nsStateOf (s.setOf f.epoch) op.ns = 3 ∧ s.power.sit = false ∧ packN (s.setOf f.epoch) ≤ 1 ∧ s.underLead = false ∧ keyOk op.key = true ∧ op.val = [] ∧ op.arg = (s.nsOf op.ns).applied + 1 ∧ s.reserveOk (recLines op.key.length 0) = true) ∧
    (∃ (s : State) (id : Nat) (f : Frame) (x : Session) (op : OpReq), s.atTurn id 0x31 f x op ∧ bits op.flags 2 2 = 2 ∧ isOperator x = true ∧ nsStateOf (s.setOf f.epoch) op.ns = 3 ∧ s.power.sit = false ∧ packN (s.setOf f.epoch) ≤ 1 ∧ s.underLead = false ∧ op.key = [] ∧ op.val = [] ∧ op.arg = (s.nsOf op.ns).applied + 1) ∧
    (∃ (s : State) (id : Nat) (f : Frame) (x : Session) (op : OpReq), s.atTurn id 0x31 f x op ∧ bits op.flags 2 2 = 3 ∧ isOperator x = true ∧ nsStateOf (s.setOf f.epoch) op.ns = 3 ∧ s.power.sit = false ∧ packN (s.setOf f.epoch) ≤ 1 ∧ s.underLead = false ∧ op.key = [] ∧ op.val = [] ∧ (s.nsOf op.ns).applied < op.arg) :=
  ⟨⟨onOpr seg1, onOpr seg1, 3, frm [seg1], se, seg1, by decide +kernel⟩,
   ⟨withFrame sv segS (frm [segM 2]), withFrame sv segS (frm [segM 2]), 3, frm [segM 2], segS, segM 2, segT, by decide +kernel⟩,
   ⟨withFrame sv segS (frm [segM 4]), withFrame sv segS (frm [segM 4]), 3, frm [segM 4], segS, segM 4, segT, by decide +kernel⟩,
   ⟨withFrame sv segS (frm []), 5, segS, by decide +kernel⟩,
   ⟨onOpr (mfwd 0), 3, frm [mfwd 0], se, mfwd 0, by decide +kernel⟩,
   ⟨onOpr (mfwd 1), 3, frm [mfwd 1], se, mfwd 1, by decide +kernel⟩,
   ⟨onOpr (mfwd 2), 3, frm [mfwd 2], se, mfwd 2, by decide +kernel⟩,
   ⟨onOpr (mfwd 3), 3, frm [mfwd 3], se, mfwd 3, by decide +kernel⟩⟩
theorem witness_FrameIntakeResults :
    (∃ (s : State) (p : Fin 2) (raw : Bytes) (w : RxIn), s.serving ∧ s.loopDepth p = 0 ∧ s.linkUp p = true ∧ s.halted = false ∧ raw.length ≤ s.fld (macBase p + 8) 13 0 ∧ 64 ≤ raw.length ∧ (s.takeCells p (cellsFor (raw.take 12 ++ raw.drop (12 + 4 * rawTags raw)).length) w.room).isSome = true ∧ s.passesFilter p raw = true ∧ beAt raw 12 2 ≠ 0x8808 ∧ isArpNd raw = false ∧ s.flag (macBase p) 13 = false ∧ s.power.base ≠ .test ∧ s.dropsFetch = false ∧ s.frameGood p w = true) ∧
    (∃ (s : State) (p : Fin 2) (raw : Bytes) (w : RxIn), s.serving ∧ s.loopDepth p = 0 ∧ s.linkUp p = true ∧ s.halted = false ∧ raw.length ≤ s.fld (macBase p + 8) 13 0 ∧ 64 ≤ raw.length ∧ (s.takeCells p (cellsFor (raw.take 12 ++ raw.drop (12 + 4 * rawTags raw)).length) w.room).isSome = true ∧ s.frameGood p w = false) ∧
    (∃ (s : State) (p : Fin 2) (full : Bool) (ecc : Ecc) (r : RxFrame) (c : Nat), s.serving ∧ s.halted = false ∧ s.nextFresh p = some r ∧ s.verify r.raw = .drop c) ∧
    (∃ (s : State) (s2 : State) (p : Fin 2) (r : RxFrame) (sid : Nat) (v : Nat) (x : Session) (up : Parsed) (plain : Bytes) (value : Bytes) (op : OpReq), s.serving ∧ s.halted = false ∧ s.nextFresh p = some r ∧ s.verify r.raw = .pass sid up plain false ∧ s.sess sid = some x ∧ x.slot = none ∧ s.flag rRtvCtl 0 = true ∧ r.spill = [] ∧ (s.port p).quickRoom 9216 = true ∧ ((s.updSess sid (learn p r.raw)).bump 0x10002000).fastPath sid (learn p r.raw x) up plain false .good = .hit v value false op s2) ∧
    (∃ (s : State) (p : Fin 2) (full : Bool) (ecc : Ecc) (r : RxFrame) (sid : Nat) (x : Session) (up : Parsed) (plain : Bytes), s.serving ∧ s.halted = false ∧ s.nextFresh p = some r ∧ s.verify r.raw = .pass sid up plain false ∧ s.sess sid = some x ∧ s.framesOf sid = [] ∧ ((s.flag rRtvCtl 0 = false ∨ full = true ∨ r.spill ≠ [])) ∧ x.busy = false ∧ x.seqAt (beAt up.payload 8 4) (tiled (byteAt up.payload 2) plain) = .go) ∧
    (∃ (s : State) (p : Fin 2) (r : RxFrame) (sid : Nat), s.serving ∧ s.halted = false ∧ s.nextFresh p = some r ∧ s.verify r.raw = .saved sid ∧ s.cph.queue.length < 256) ∧
    (∃ (s : State) (sid : Fin 65536) (n : Nat) (x : Session), s.serving ∧ s.cph.queue = [] ∧ s.cph.restores = [(sid.val, n)] ∧ s.sess sid = some x ∧ s.framesOf sid = []) ∧
    (∃ (s : State) (sid : Fin 65536) (n : Nat) (x : Session), s.serving ∧ s.cph.queue = [] ∧ s.cph.restores = [(sid.val, n)] ∧ s.sess sid = some x ∧ s.framesOf sid = []) ∧
    (∃ (s : State) (w : RestWait) (r : RxFrame), s.serving ∧ s.cph.queue = [w] ∧ s.cph.restores = [] ∧ s.waitFrame w = some r) ∧
    (∃ (s : State) (s2 : State) (id : Nat) (t : Fin 256) (f : Frame) (m : Msg) (x : Session) (up : Parsed) (ops : List OpReq), s.serving ∧ s.halted = false ∧ s.noCommit ∧ s.frame id = some f ∧ f.phase = .intake ∧ s.sess f.sess = some x ∧ s.takeIntake t f = some (m, s2) ∧ m.typ < 0xF0 ∧ s.canSend f.port = true ∧ f.status = 0 ∧ f.old = false ∧ parseUdp f.raw = some up ∧ tiled (byteAt up.payload 2) f.plain = some ops ∧ x.seqAt f.seq (some ops) = .go ∧ ((isOperator x = true ∨ tenantState (s.setOf f.epoch) x.tenant = 1))) ∧
    (∃ (s : State) (sid : Fin 65536) (x : Session) (id : Nat) (f : Frame), s.serving ∧ s.noCommit ∧ s.sess sid = some x ∧ (s.heldFrames sid).find? (fun e => decide (x.h + 1 < e.2.seq)) = some (id, f)) ∧
    (∃ (s : State) (id : Nat) (f : Frame) (x : Session), s.serving ∧ s.noCommit ∧ s.frame id = some f ∧ f.finished = true ∧ f.isClient = true ∧ s.power.brace = false ∧ f.cont = none ∧ s.sends f.sess x ∧ s.canSend f.port = true ∧ (s.ft.replays.map Replay.size).sum + 95 + 24 * f.res.length ≤ s.proto 16 4 * 1048576) :=
  ⟨⟨(wPort sv), 0, reqRaw 1, rxGood, by decide +kernel⟩,
   ⟨(wPort sv), 0, reqRaw 1, { rxGood with uncorr := 1, hit := true }, by decide +kernel⟩,
   ⟨hold (reqRaw 1) (wPort sv), 0, false, .good, rxf (reqRaw 1), cDropSession, by decide +kernel⟩,
   ⟨hitS, fastOf hitS clientS, 0, rxf (reqRaw 1), 5, 7, clientS, parsed1, reqOps, [1, 2], { opRq 1 with val := [] }, by decide +kernel⟩,
   ⟨rxS.setFt { rxS.ft with frames := [] }, 0, false, .good, rxf (reqRaw 1), 5, clientS, parsed1, reqOps, by decide +kernel⟩,
   ⟨savedS, 0, rxf rawGcm, 5, by decide +kernel⟩,
   ⟨restS.setFt { restS.ft with frames := [] }, 5, 2, gcmS, by decide +kernel⟩,
   ⟨restS.setFt { restS.ft with frames := [] }, 5, 2, gcmS, by decide +kernel⟩,
   ⟨(hold (reqRaw 1) sv).setCph { sv.cph with queue := [{ port := 0, addr := 128, sess := 5 }] }, { port := 0, addr := 128, sess := 5 }, rxf (reqRaw 1), by decide +kernel⟩,
   ⟨inS, ((inS.takeIntake 4 inF).map (·.2)).getD inS, 3, 4, inF, ((inS.takeIntake 4 inF).map (·.1)).getD inM, se, parsed1, [opRq 1], by decide +kernel⟩,
   ⟨wtg { dm 0 with frame := some 3, bounced := none } (withFrame sv { se with h := 4 } { inF with seq := 7 }), 5, { se with h := 4 }, 3, { inF with seq := 7 }, by decide +kernel⟩,
   ⟨withFrame sv se doneF, 3, doneF, se, by decide +kernel⟩⟩
theorem witness_DispatcherResults_stopped : let s := (sv.setTh 15 { Thread.reset with double := true }).setDisp { sv.disp with notices := [(3, 3)] }
    s.serving ∧ s.fenceIdle ∧ (s.th 15).double = true ∧ (s.th 15).run = false ∧ (s.disp.stops.filter fun x => x.1 == 15).length < 2 ∧ (s.en 0).queue.length < 16 ∧
    (s.en 0).waiters = [] ∧ (s.th 15).csr 0x008 = 0 := by decide +kernel
theorem witness_DispatcherResults_stopped_frame : let s := (withFrame (sv.setTh 15 ({ Thread.reset with double := true }.setCsr 8 1)) se { frm [opRq 1] with thread := some 15 }).setDisp { sv.disp with notices := [(3, 3)] }; let f := { frm [opRq 1] with thread := some 15 }
    s.serving ∧ s.fenceIdle ∧ (s.th 15).double = true ∧ (s.th 15).csr 0x008 ≠ 0 ∧ s.servedBy 15 = some (3, f) ∧ f.w = none ∧ f.seg = none ∧ f.res.length < f.ops.length := by decide +kernel
theorem witness_DispatcherResults :
    (∃ (s : State) (d : DMsg) (e : Nat), s.serving ∧ s.flag rDspCtl 0 = true ∧ s.flag rDspCtl 1 = false ∧ s.halted = false ∧ s.disp.waiting = [d] ∧ s.mayGo d = true ∧ s.testHolds d = false ∧ s.holder d.m.role = some e) ∧
    (∃ (s : State) (e : Fin 64) (d : DMsg), s.serving ∧ s.disp.waiting.find? (fun d => decide (d.flight = e.val + 1)) = some d ∧ matchesRole d.m (s.en e).role = true ∧ (s.en e).queue.length < 16 ∧ (s.en e).waiters = []) ∧
    (∃ (s : State) (e : Fin 64) (d : DMsg), s.serving ∧ s.disp.waiting.find? (fun d => decide (d.flight = e.val + 1)) = some d ∧ matchesRole d.m (s.en e).role = false) ∧
    (∃ (s : State) (d : DMsg), s.serving ∧ s.noCommit ∧ s.giveUpCandidate = some d ∧ d.frame = none) ∧
    (∃ (s : State) (d : DMsg), s.serving ∧ s.noCommit ∧ s.giveUpCandidate = some d ∧ d.frame.isSome = true) ∧
    (∃ (s : State) (e : Fin 64) (role : BitVec 4), s.serving ∧ e ≠ 0 ∧ role.toNat < 7 ∧ (s.deng e).assigned = none) ∧
    (∃ (s : State) (e : Fin 64) (role : BitVec 4) (at0 : Nat), s.serving ∧ (s.deng e).assigned = some at0 ∧ s.now < at0 + 150000) ∧
    (∃ (s : State) (e : Fin 64) (role : Nat) (ep : Nat), s.serving ∧ (s.deng e).pendRole = some (role, ep) ∧ ((∀ d ∈ s.disp.waiting, d.flight = e.val + 1 → d.sent = true → d.m.epoch = ep))) ∧
    (∃ (s : State) (e : Fin 64) (role : Nat) (ep : Nat), s.serving ∧ (s.deng e).pendRole = some (role, ep) ∧ (s.en e).role = ep * 65536 + role ∧ (s.deng e).state ≠ 3) ∧
    (∃ (s : State) (t : Nat), s.serving ∧ s.disp.notices = [(0, t)] ∧ s.power.brace = false ∧ s.power.fault = false) ∧
    (∃ (s : State) (sid : Fin 65536) (x : Session), s.serving ∧ s.noCommit ∧ s.sess sid = some x) :=
  ⟨⟨hldS, dm 0, 3, by decide +kernel⟩,
   ⟨(wtg (dm 2) sv).setEn 1 { Engine.reset with role := 65538 }, 1, dm 2, by decide +kernel⟩,
   ⟨wtg (dm 2) sv, 1, dm 2, by decide +kernel⟩,
   ⟨wtg (dm 0) sv, dm 0, by decide +kernel⟩,
   ⟨wtg { dm 0 with frame := some 3 } sv, { dm 0 with frame := some 3 }, by decide +kernel⟩,
   ⟨sv, 3, 6, by decide +kernel⟩,
   ⟨sv.setDEng 3 { DEng.reset with assigned := some 0 }, 3, 2, 0, by decide +kernel⟩,
   ⟨(sv.setDEng 3 { DEng.reset with pendRole := some (2, 1) }).setEn 3 { Engine.reset with queue := [inM] }, 3, 2, 1, by decide +kernel⟩,
   ⟨(sv.setDEng 3 { DEng.reset with pendRole := some (2, 1) }).setEn 3 { Engine.reset with role := 65538 }, 3, 2, 1, by decide +kernel⟩,
   ⟨sv.setDisp { sv.disp with notices := [(0, 1)] }, 1, by decide +kernel⟩,
   ⟨withFrame sv { se with busy := true } (frm []), 5, { se with busy := true }, by decide +kernel⟩⟩
theorem witness_SessionResults :
    (∃ (s : State) (t : State) (m : FMsg) (key : Bytes), s.serving ∧ s.takeLead 0x10 = some (m, t) ∧ t.sessionCheck m.data = (0, key)) ∧
    (∃ (s : State) (id : Nat) (f : Frame) (x : Session) (op : OpReq), s.atTurn id 0x20 f x op ∧ op.key = [] ∧ op.val = [] ∧ op.ns = 0 ∧ op.arg = 0 ∧ s.sends f.sess x ∧ (s.admitOp (s.setOf f.epoch) x 0).isSome = true ∧ x.cipher = 0 ∧ s.earlierFrames id f = false ∧ s.canSend f.port = true) ∧
    (∃ (s : State) (id : Nat) (n : Nat) (f : Frame) (x : Session) (op : OpReq) (next : KMat), s.atTurn id 0x20 f x op ∧ op.key = [] ∧ op.val = [] ∧ op.ns = 0 ∧ op.arg = 0 ∧ s.sends f.sess x ∧ (s.admitOp (s.setOf f.epoch) x 0).isSome = true ∧ x.cipher ≠ 0 ∧ x.slot = some n ∧ (s.slot n).next = some next ∧ (s.slot n).shadow = none ∧ (s.slot n).erasing = false ∧ (s.slot n).gen < 0xFFFFFFFF ∧ s.earlierFrames id f = false ∧ s.canSend f.port = true) ∧
    (∃ (s : State) (sid : Fin 65536) (n : Nat) (x : Session) (o : OldWindow), s.serving ∧ s.sess sid = some x ∧ x.old = some o ∧ x.slot = some n ∧ (s.slot n).erasing = false ∧ (s.slot n).inflightSh = 0 ∧ s.cph.queue = []) ∧
    (∃ (s : State) (id : Nat) (f : Frame) (x : Session) (op : OpReq), s.atTurn id 0x21 f x op ∧ s.noCommit ∧ op.key = [] ∧ op.val = [] ∧ op.ns = 0 ∧ op.arg = 0 ∧ s.sess f.sess = some x ∧ (s.admitOp (s.setOf f.epoch) x 0).isSome = true ∧ s.framesOf f.sess = [(id, f)] ∧ s.canSend f.port = true) ∧
    (∃ (s : State) (t : State) (m : FMsg) (x : Session), s.serving ∧ s.noCommit ∧ s.takeClose false = some (m, t) ∧ s.sess (leAt m.data 0 2) = some x ∧ s.framesOf (leAt m.data 0 2) = []) ∧
    (∃ (s : State) (t : State) (m : FMsg) (x : Session), s.serving ∧ s.noCommit ∧ s.takeClose false = some (m, t) ∧ s.sess (leAt m.data 0 2) = some x ∧ s.framesOf (leAt m.data 0 2) ≠ []) ∧
    (∃ (s : State) (t : State) (m : FMsg) (x : Session) (n : Nat), s.serving ∧ s.noCommit ∧ s.takeClose true = some (m, t) ∧ s.sess (leAt m.data 0 2) = some x ∧ s.framesOf (leAt m.data 0 2) = [] ∧ x.slot = some n ∧ (s.slot n).sess = some (leAt m.data 0 2) ∧ s.cph.queue = []) :=
  ⟨⟨toSv 0x10 opReqMsg sv, (lead 0x10 (toSv 0x10 opReqMsg sv)).2, (lead 0x10 (toSv 0x10 opReqMsg sv)).1, [], by decide +kernel⟩,
   ⟨onOpr { opRq 0x20 with ns := 0, key := [] }, 3, frm [{ opRq 0x20 with ns := 0, key := [] }], se, { opRq 0x20 with ns := 0, key := [] }, by decide +kernel⟩,
   ⟨(withFrame sv gcmR (frm [{ opRq 0x20 with ns := 0, key := [] }])).setSlot 2 kslot, 3, 2, frm [{ opRq 0x20 with ns := 0, key := [] }], gcmR, { opRq 0x20 with ns := 0, key := [] }, { kmat with salt := [1, 1, 1, 1] }, by decide +kernel⟩,
   ⟨(withFrame sv { gcmR with old := some { gen := 2, tx := 1, done := [] } } (frm [])).setSlot 2 { kslot with shadow := some (kmat, 2), grace := true }, 5, 2, { gcmR with old := some { gen := 2, tx := 1, done := [] } }, { gen := 2, tx := 1, done := [] }, by decide +kernel⟩,
   ⟨onOpr { opRq 0x21 with ns := 0, key := [] }, 3, frm [{ opRq 0x21 with ns := 0, key := [] }], se, { opRq 0x21 with ns := 0, key := [] }, by decide +kernel⟩,
   ⟨clsS, ((clsS.takeClose false).getD (lead 1 clsS)).2, ((clsS.takeClose false).getD (lead 1 clsS)).1, se, by decide +kernel⟩,
   ⟨toSv 0x11 (leBytes 2 5 ++ [0]) (withFrame sv se (frm [])), ((((toSv 0x11 (leBytes 2 5 ++ [0]) (withFrame sv se (frm []))).takeClose false).getD (lead 1 sv))).2, ((((toSv 0x11 (leBytes 2 5 ++ [0]) (withFrame sv se (frm []))).takeClose false).getD (lead 1 sv))).1, se, by decide +kernel⟩,
   ⟨eraS, ((eraS.takeClose true).getD (lead 1 eraS)).2, ((eraS.takeClose true).getD (lead 1 eraS)).1, gcmR, 2, by decide +kernel⟩⟩
theorem witness_TeamJobResults_gcmEnc : let s := setDesc 1
    s.issuesSystem 5 ∧ ((s.th 5).g 3).toNat % 64 = 0 ∧ (s.th 5).mayAccess ((s.th 5).g 3).toNat 64 = true ∧ s.dbad 5 ((s.th 5).g 3).toNat 64 = false ∧
    freeTicket (s.th 5).tickets = some 0 ∧ byteAt (s.dread 5 ((s.th 5).g 3).toNat 64) 0 = 1 := by decide +kernel
theorem witness_TeamJobResults_gcmDec : let s := setDesc 2
    s.issuesSystem 5 ∧ ((s.th 5).g 3).toNat % 64 = 0 ∧ (s.th 5).mayAccess ((s.th 5).g 3).toNat 64 = true ∧ s.dbad 5 ((s.th 5).g 3).toNat 64 = false ∧
    freeTicket (s.th 5).tickets = some 0 ∧ byteAt (s.dread 5 ((s.th 5).g 3).toNat 64) 0 = 2 := by decide +kernel
theorem witness_TeamJobResults_xtsEnc : let s := setDesc 3
    s.issuesSystem 5 ∧ ((s.th 5).g 3).toNat % 64 = 0 ∧ (s.th 5).mayAccess ((s.th 5).g 3).toNat 64 = true ∧ s.dbad 5 ((s.th 5).g 3).toNat 64 = false ∧
    freeTicket (s.th 5).tickets = some 0 ∧ byteAt (s.dread 5 ((s.th 5).g 3).toNat 64) 0 = 3 := by decide +kernel
theorem witness_TeamJobResults_xtsDec : let s := setDesc 4
    s.issuesSystem 5 ∧ ((s.th 5).g 3).toNat % 64 = 0 ∧ (s.th 5).mayAccess ((s.th 5).g 3).toNat 64 = true ∧ s.dbad 5 ((s.th 5).g 3).toNat 64 = false ∧
    freeTicket (s.th 5).tickets = some 0 ∧ byteAt (s.dread 5 ((s.th 5).g 3).toNat 64) 0 = 4 := by decide +kernel
theorem witness_TeamJobResults_kwWrap : let s := setDesc 5
    s.issuesSystem 5 ∧ ((s.th 5).g 3).toNat % 64 = 0 ∧ (s.th 5).mayAccess ((s.th 5).g 3).toNat 64 = true ∧ s.dbad 5 ((s.th 5).g 3).toNat 64 = false ∧
    freeTicket (s.th 5).tickets = some 0 ∧ byteAt (s.dread 5 ((s.th 5).g 3).toNat 64) 0 = 5 := by decide +kernel
theorem witness_TeamJobResults_kwUnwrap : let s := setDesc 6
    s.issuesSystem 5 ∧ ((s.th 5).g 3).toNat % 64 = 0 ∧ (s.th 5).mayAccess ((s.th 5).g 3).toNat 64 = true ∧ s.dbad 5 ((s.th 5).g 3).toNat 64 = false ∧
    freeTicket (s.th 5).tickets = some 0 ∧ byteAt (s.dread 5 ((s.th 5).g 3).toNat 64) 0 = 6 := by decide +kernel
theorem witness_TeamJobResults_sha384 : let s := setDesc 7
    s.issuesSystem 5 ∧ ((s.th 5).g 3).toNat % 64 = 0 ∧ (s.th 5).mayAccess ((s.th 5).g 3).toNat 64 = true ∧ s.dbad 5 ((s.th 5).g 3).toNat 64 = false ∧
    freeTicket (s.th 5).tickets = some 0 ∧ byteAt (s.dread 5 ((s.th 5).g 3).toNat 64) 0 = 7 := by decide +kernel
theorem witness_TeamJobResults_sealJob : let s := setDesc 8
    s.issuesSystem 5 ∧ ((s.th 5).g 3).toNat % 64 = 0 ∧ (s.th 5).mayAccess ((s.th 5).g 3).toNat 64 = true ∧ s.dbad 5 ((s.th 5).g 3).toNat 64 = false ∧
    freeTicket (s.th 5).tickets = some 0 ∧ byteAt (s.dread 5 ((s.th 5).g 3).toNat 64) 0 = 8 := by decide +kernel
theorem witness_TeamJobResults_unsealJob : let s := setDesc 9
    s.issuesSystem 5 ∧ ((s.th 5).g 3).toNat % 64 = 0 ∧ (s.th 5).mayAccess ((s.th 5).g 3).toNat 64 = true ∧ s.dbad 5 ((s.th 5).g 3).toNat 64 = false ∧
    freeTicket (s.th 5).tickets = some 0 ∧ byteAt (s.dread 5 ((s.th 5).g 3).toNat 64) 0 = 9 := by decide +kernel
theorem witness_TeamJobResults :
    (∃ (s : State) (m : Fin 8) (j : DmaJob), s.serving ∧ s.jobs.dma = [j] ∧ j.thread / 32 = m.val ∧ j.running = false ∧ s.dmaValid j = true) ∧
    (∃ (s : State) (m : Fin 8) (j : DmaJob), s.serving ∧ s.jobs.dma = [j] ∧ j.thread / 32 = m.val ∧ j.running = false ∧ s.dmaValid j = false ∧ s.owes j.thread j.ticket) ∧
    (∃ (s : State) (j : DmaJob), s.serving ∧ s.jobs.dma = [j] ∧ j.running = true ∧ j.src / 2 ^ 60 ≤ 2 ∧ j.dst / 2 ^ 60 ≤ 2 ∧ poisonLines s (engineOf j.thread) (j.src / 2 ^ 60) (j.src % 2 ^ 40) j.len = [] ∧ s.owes j.thread j.ticket) ∧
    (∃ (s : State) (j : DmaJob), s.serving ∧ s.jobs.dma = [j] ∧ j.running = true ∧ ((j.src / 2 ^ 60 = 3 ∨ j.dst / 2 ^ 60 = 3 → s.dramReady = true)) ∧ ((j.dst / 2 ^ 60 = 3 → s.dramTakes (j.dst % 2 ^ 40) j.len = true)) ∧ poisonLines s (engineOf j.thread) (j.src / 2 ^ 60) (j.src % 2 ^ 40) j.len = [] ∧ s.owes j.thread j.ticket) ∧
    (∃ (s : State) (j : DmaJob), s.serving ∧ s.jobs.dma = [j] ∧ j.running = true ∧ ((j.src / 2 ^ 60 = 1 ∨ j.src / 2 ^ 60 = 2)) ∧ j.dst / 2 ^ 60 = 0 ∧ 0 < j.len ∧ s.owes j.thread j.ticket) ∧
    (∃ (s : State) (j : EmitJob) (x : Session), s.serving ∧ s.halted = false ∧ s.jobs.emits = [j] ∧ byteAt j.desc 5 ≤ 1 ∧ bits (byteAt j.desc 2) 0 2 = 0 ∧ gathers j.desc = [] ∧ s.sends (leAt j.desc 0 2) x ∧ x.addr.length = 16 ∧ s.canSend (byteAt j.desc 5) = true ∧ 256 ≤ s.maxFrame (byteAt j.desc 5)) ∧
    (∃ (s : State) (m : Fin 8) (j : CJob), s.serving ∧ s.cph.jobs = [j] ∧ j.state = .queued ∧ j.lane = m.val ∧ j.op = 7 ∧ s.flag rCphCtl 0 = true ∧ s.flag rCphStatus (8 + m.val) = false ∧ s.cjobValid j = true) ∧
    (∃ (s : State) (m : Fin 8) (j : CJob) (k : KMat), s.serving ∧ s.cph.jobs = [j] ∧ j.state = .queued ∧ j.lane = m.val ∧ ((j.op = 1 ∨ j.op = 2)) ∧ s.flag rCphCtl 0 = true ∧ s.flag rCphStatus (8 + m.val) = false ∧ s.cjobValid j = true ∧ (((s.slot j.keysel).typ = 1 ∨ (s.slot j.keysel).typ = 2)) ∧ (s.slot j.keysel).erasing = false ∧ (s.slot j.keysel).cur = some k ∧ leAt j.desc 4 4 = 0) ∧
    (∃ (s : State) (j : CJob), s.serving ∧ s.cph.jobs = [j] ∧ j.state = .running ∧ j.op = 7 ∧ j.gone = false ∧ j.svc = none ∧ j.bound = none ∧ j.src / 2 ^ 60 ≤ 2 ∧ j.dst / 2 ^ 60 ≤ 2 ∧ poisonLines s (engineOf j.thread) (j.src / 2 ^ 60) (j.src % 2 ^ 40) j.nIn = [] ∧ s.owes j.thread j.ticket) ∧
    (∃ (s : State) (j : CJob) (n : Nat) (g : Nat), s.serving ∧ s.cph.jobs = [j] ∧ j.state = .running ∧ j.op ≠ 7 ∧ j.op ≠ 8 ∧ j.gone = false ∧ j.svc = none ∧ j.bound = some (n * 2 ^ 32 + g) ∧ n < 4096 ∧ g < 2 ^ 32 ∧ g = (s.slot n).gen ∧ (s.slot n).typ ≠ 4 ∧ (s.slot n).erasing = false ∧ s.cph.queue = [] ∧ j.src / 2 ^ 60 ≤ 2 ∧ j.dst / 2 ^ 60 ≤ 2 ∧ poisonLines s (engineOf j.thread) (j.src / 2 ^ 60) (j.src % 2 ^ 40) j.nIn = [] ∧ s.owes j.thread j.ticket) ∧
    (∃ (s : State) (j : CJob), s.serving ∧ s.cph.jobs = [j] ∧ j.state = .running ∧ j.gone = true ∧ j.svc = none ∧ j.dst / 2 ^ 60 ≤ 2 ∧ j.src / 2 ^ 60 ≤ 2 ∧ s.owes j.thread j.ticket) ∧
    (∃ (s : State) (j : CJob), s.serving ∧ s.cph.jobs = [j] ∧ j.state = .running ∧ j.op = 7 ∧ j.gone = false ∧ j.svc = none ∧ j.bound = none ∧ ((j.src / 2 ^ 60 = 1 ∨ j.src / 2 ^ 60 = 2)) ∧ j.dst / 2 ^ 60 ≤ 2 ∧ 0 < j.len ∧ s.owes j.thread j.ticket) :=
  ⟨⟨(({ sv with mem := { sv.mem with dstore := memWrite [] (0x20000 + 0x1000) [1, 2, 3] } }).setTh 5 owed).setJobs { sv.jobs with dma := [{ id := 1, thread := 5, ticket := 2, src := 0x1000, dst := 2 ^ 60 + 64, len := 64, running := false }] }, 0, { id := 1, thread := 5, ticket := 2, src := 0x1000, dst := 2 ^ 60 + 64, len := 64, running := false }, by decide +kernel⟩,
   ⟨(sv.setTh 5 owed).setJobs { sv.jobs with dma := [{ id := 1, thread := 5, ticket := 2, src := 0x1000, dst := 2 ^ 60 + 65, len := 10, running := false }] }, 0, { id := 1, thread := 5, ticket := 2, src := 0x1000, dst := 2 ^ 60 + 65, len := 10, running := false }, by decide +kernel⟩,
   ⟨(({ sv with mem := { sv.mem with dstore := memWrite [] (0x20000 + 0x1000) [1, 2, 3] } }).setTh 5 owed).setJobs { sv.jobs with dma := [{ id := 1, thread := 5, ticket := 2, src := 0x1000, dst := 2 ^ 60 + 64, len := 64, running := true }] }, { id := 1, thread := 5, ticket := 2, src := 0x1000, dst := 2 ^ 60 + 64, len := 64, running := true }, by decide +kernel⟩,
   ⟨(({ sv with mem := { sv.mem with dstore := memWrite [] (0x20000 + 0x1000) [1, 2, 3] } }).setTh 5 owed).setJobs { sv.jobs with dma := [{ id := 1, thread := 5, ticket := 2, src := 0x1000, dst := 5 * 2 ^ 60 + 64, len := 64, running := true }] }, { id := 1, thread := 5, ticket := 2, src := 0x1000, dst := 5 * 2 ^ 60 + 64, len := 64, running := true }, by decide +kernel⟩,
   ⟨(({ sv with mem := { sv.mem with dstore := memWrite [] (0x20000 + 0x1000) [1, 2, 3] } }).setTh 5 owed).setJobs { sv.jobs with dma := [{ id := 1, thread := 5, ticket := 2, src := 2 ^ 60 + 64, dst := 0x2000, len := 64, running := true }] }, { id := 1, thread := 5, ticket := 2, src := 2 ^ 60 + 64, dst := 0x2000, len := 64, running := true }, by decide +kernel⟩,
   ⟨emS.setJobs { emS.jobs with emits := [{ id := 1, thread := 5, ticket := 2, desc := padTo 64 [5, 0, 0, 0, 0, 0], counter := 0 }] }, { id := 1, thread := 5, ticket := 2, desc := padTo 64 [5, 0, 0, 0, 0, 0], counter := 0 }, clientS, by decide +kernel⟩,
   ⟨((sv.setTh 5 owed).setFlag rCphCtl 0 true).setCph { sv.cph with jobs := [{ id := 1, thread := 5, ticket := 2, desc := leBytes 1 7 ++ [0] ++ leBytes 2 0x8000 ++ zeros 4 ++ leBytes 8 0x1000 ++ leBytes 8 0x2000 ++ leBytes 4 64 ++ zeros 36, state := .queued, bound := none, gone := false, svc := none }] }, 0, { id := 1, thread := 5, ticket := 2, desc := leBytes 1 7 ++ [0] ++ leBytes 2 0x8000 ++ zeros 4 ++ leBytes 8 0x1000 ++ leBytes 8 0x2000 ++ leBytes 4 64 ++ zeros 36, state := .queued, bound := none, gone := false, svc := none }, by decide +kernel⟩,
   ⟨(((sv.setTh 5 owed).setFlag rCphCtl 0 true).setCph { sv.cph with jobs := [{ id := 1, thread := 5, ticket := 2, desc := leBytes 1 1 ++ [0] ++ leBytes 2 2 ++ zeros 4 ++ leBytes 8 0x1000 ++ leBytes 8 0x2000 ++ leBytes 4 64 ++ zeros 36, state := .queued, bound := none, gone := false, svc := none }] }).setSlot 2 kslot, 0, { id := 1, thread := 5, ticket := 2, desc := leBytes 1 1 ++ [0] ++ leBytes 2 2 ++ zeros 4 ++ leBytes 8 0x1000 ++ leBytes 8 0x2000 ++ leBytes 4 64 ++ zeros 36, state := .queued, bound := none, gone := false, svc := none }, kmat, by decide +kernel⟩,
   ⟨((sv.setTh 5 owed).setFlag rCphCtl 0 true).setCph { sv.cph with jobs := [{ id := 1, thread := 5, ticket := 2, desc := leBytes 1 7 ++ [0] ++ leBytes 2 0x8000 ++ zeros 4 ++ leBytes 8 0x1000 ++ leBytes 8 0x2000 ++ leBytes 4 64 ++ zeros 36, state := .running, bound := none, gone := false, svc := none }] }, { id := 1, thread := 5, ticket := 2, desc := leBytes 1 7 ++ [0] ++ leBytes 2 0x8000 ++ zeros 4 ++ leBytes 8 0x1000 ++ leBytes 8 0x2000 ++ leBytes 4 64 ++ zeros 36, state := .running, bound := none, gone := false, svc := none }, by decide +kernel⟩,
   ⟨(((sv.setTh 5 owed).setFlag rCphCtl 0 true).setCph { sv.cph with jobs := [{ id := 1, thread := 5, ticket := 2, desc := leBytes 1 1 ++ [0] ++ leBytes 2 2 ++ zeros 4 ++ leBytes 8 (0x1000) ++ leBytes 8 0x2000 ++ leBytes 4 64 ++ zeros 36, state := .running, bound := some (2 * 2 ^ 32 + 3), gone := false, svc := none }] }).setSlot 2 { kslot with inflight := 1 }, { id := 1, thread := 5, ticket := 2, desc := leBytes 1 1 ++ [0] ++ leBytes 2 2 ++ zeros 4 ++ leBytes 8 (0x1000) ++ leBytes 8 0x2000 ++ leBytes 4 64 ++ zeros 36, state := .running, bound := some (2 * 2 ^ 32 + 3), gone := false, svc := none }, 2, 3, by decide +kernel⟩,
   ⟨((sv.setTh 5 owed).setFlag rCphCtl 0 true).setCph { sv.cph with jobs := [{ id := 1, thread := 5, ticket := 2, desc := leBytes 1 2 ++ [0] ++ leBytes 2 2 ++ zeros 4 ++ leBytes 8 0x1000 ++ leBytes 8 0x2000 ++ leBytes 4 64 ++ zeros 36, state := .running, bound := none, gone := true, svc := none }] }, { id := 1, thread := 5, ticket := 2, desc := leBytes 1 2 ++ [0] ++ leBytes 2 2 ++ zeros 4 ++ leBytes 8 0x1000 ++ leBytes 8 0x2000 ++ leBytes 4 64 ++ zeros 36, state := .running, bound := none, gone := true, svc := none }, by decide +kernel⟩,
   ⟨((sv.setTh 5 owed).setFlag rCphCtl 0 true).setCph { sv.cph with jobs := [{ id := 1, thread := 5, ticket := 2, desc := leBytes 1 7 ++ [0] ++ leBytes 2 0x8000 ++ zeros 4 ++ leBytes 8 (2 ^ 60 + 64) ++ leBytes 8 0x2000 ++ leBytes 4 64 ++ zeros 36, state := .running, bound := none, gone := false, svc := none }] }, { id := 1, thread := 5, ticket := 2, desc := leBytes 1 7 ++ [0] ++ leBytes 2 0x8000 ++ zeros 4 ++ leBytes 8 (2 ^ 60 + 64) ++ leBytes 8 0x2000 ++ leBytes 4 64 ++ zeros 36, state := .running, bound := none, gone := false, svc := none }, by decide +kernel⟩⟩
theorem witness_TrickResults :
    (∃ (s : State) (t2 : State) (id : Nat) (t : Fin 256) (f : Frame) (x : Session) (op : OpReq) (k : Trick), s.atTurn id 0x0B f x op ∧ mget s.tricks.invokes t = none ∧ (s.tricks.invokes.any fun e => e.2.frame == id) = false ∧ s.trickPlace f (s.setOf f.epoch) op (s.trickChecks (s.setOf f.epoch) f x op) = .pass t2 ∧ mget s.tricks.slots (bits op.arg 0 8) = some k ∧ s.trickThread t = true ∧ 4 * k.entry < k.code.length ∧ k.code.length ≤ 2048 ∧ 1 ≤ k.budget ∧ k.budget ≤ 200000 ∧ (s.th t).mzLoops = []) ∧
    (∃ (s : State) (id : Nat) (n : Nat) (t : Fin 256) (f : Frame) (x : Session) (op : OpReq) (v : Invoke), s.atTurn id 0x0B f x op ∧ mget s.tricks.invokes t = some v ∧ v.frame = id ∧ (s.th t).muzzled = false ∧ (s.th t).run = true ∧ (s.th t).csr cMZCAUSE % 256 = mEXIT ∧ (s.th t).csr cMZTVAL = n ∧ n ≤ 7936 ∧ n ≤ s.valueRoom f x) ∧
    (∃ (s : State) (t : Fin 256) (v : Invoke) (f : Frame) (x : Session) (op : OpReq) (w : Ver), s.trickCalls t v ∧ (s.th t).inWindow (s.gn t 3) (s.gn t 4) = true ∧ (s.th t).inWindow (s.gn t 5) (s.gn t 6) = true ∧ s.trickSess v = some (f, x) ∧ op = { s.serviceOp t 1 f with flags := 0 } ∧ keyOk op.key = true ∧ hasRight x 0 = true ∧ op.ns < 4096 ∧ nsAllowed (s.setOf f.epoch) x op.ns = true ∧ f.waits = none ∧ s.noseOpen = true ∧ s.findPlace f (s.setOf f.epoch) op (s.placeCheck (s.setOf f.epoch) x op false) = .pass s ∧ s.isPending op.ns op.key = false ∧ s.liveOf op.ns op.key = some w ∧ (s.valueDamage op.ns op.key).contains false = false) ∧
    (∃ (s : State) (t : Fin 256) (v : Invoke) (f : Frame) (x : Session) (op : OpReq) (w : Ver), s.trickCalls t v ∧ (s.th t).inWindow (s.gn t 3) (s.gn t 4) = true ∧ s.trickSess v = some (f, x) ∧ op = { s.serviceOp t 7 f with flags := 0 } ∧ keyOk op.key = true ∧ hasRight x 0 = true ∧ op.ns < 4096 ∧ nsAllowed (s.setOf f.epoch) x op.ns = true ∧ f.waits = none ∧ s.noseOpen = true ∧ s.findPlace f (s.setOf f.epoch) op (s.placeCheck (s.setOf f.epoch) x op false) = .pass s ∧ s.isPending op.ns op.key = false ∧ s.liveOf op.ns op.key = some w ∧ (s.valueDamage op.ns op.key).contains false = false) ∧
    (∃ (s : State) (t : Fin 256) (v : Invoke), s.trickCalls t v ∧ (s.th t).inWindow (s.gn t 3) (s.gn t 4) = true) ∧
    (∃ (s : State) (t : Fin 256) (v : Invoke), s.trickCalls t v) ∧
    (∃ (s : State) (t : Fin 256) (v : Invoke), s.trickCalls t v ∧ s.flag rRngStatus 1 = false) ∧
    (∃ (s : State) (t : Fin 256) (v : Invoke) (ks : Nat) (i : Nat), s.trickCalls t v ∧ (s.th t).inWindow (s.gn t 2) (s.gn t 3) = true ∧ (s.th t).inWindow (s.gn t 4) (s.gn t 3 + 28) = true ∧ v.trick.keyslot = some ks ∧ freeTicket (s.th t).tickets = some i) ∧
    (∃ (s : State) (t : Fin 256) (v : Invoke) (ks : Nat) (i : Nat) (w : Nat), s.serviceJobDone t 0x020 i w v ∧ (s.th t).inWindow (s.gn t 2) (s.gn t 3) = true ∧ (s.th t).inWindow (s.gn t 4) (s.gn t 3 + 28) = true ∧ v.trick.keyslot = some ks ∧ w % 256 = 0) ∧
    (∃ (s : State) (t : Fin 256) (v : Invoke) (ks : Nat) (i : Nat), s.trickCalls t v ∧ (s.th t).inWindow (s.gn t 2) (s.gn t 3) = true ∧ (s.th t).inWindow (s.gn t 4) (s.gn t 3 - 28) = true ∧ v.trick.keyslot = some ks ∧ freeTicket (s.th t).tickets = some i) ∧
    (∃ (s : State) (t : Fin 256) (v : Invoke) (ks : Nat) (i : Nat) (w : Nat), s.serviceJobDone t 0x021 i w v ∧ (s.th t).inWindow (s.gn t 2) (s.gn t 3) = true ∧ (s.th t).inWindow (s.gn t 4) (s.gn t 3 - 28) = true ∧ v.trick.keyslot = some ks ∧ w % 256 = 0) :=
  ⟨⟨trS, passed (trS.trickChecks (trS.setOf 1) (frm [trOp]) se trOp), 3, 1, frm [trOp], se, trOp, trk1, by decide +kernel⟩,
   ⟨inv (leftT mEXIT 2) inv1, 3, 2, 1, frm [trOp], se, trOp, inv1, by decide +kernel⟩,
   ⟨withKeys [key1] (inv callT inv1), 1, inv1, frm [trOp], se, { opRq 1 with key := [65] }, ver1, by decide +kernel⟩,
   ⟨withKeys [key1] (inv callT inv1), 1, inv1, frm [trOp], se, { opRq 7 with key := [65] }, ver1, by decide +kernel⟩,
   ⟨inv (gset callT 3 0xE000) inv1, 1, inv1, by decide +kernel⟩,
   ⟨inv callT inv1, 1, inv1, by decide +kernel⟩,
   ⟨inv callT inv1, 1, inv1, by decide +kernel⟩,
   ⟨inv (sealT 8) inv1, 1, inv1, 4, 0, by decide +kernel⟩,
   ⟨inv (waitT 0x20 0) { inv1 with job := some 0 }, 1, { inv1 with job := some 0 }, 4, 0, 64 * 2 ^ 32, by decide +kernel⟩,
   ⟨inv (sealT 36) inv1, 1, inv1, 4, 0, by decide +kernel⟩,
   ⟨inv (waitT 0x21 36) { inv1 with job := some 0 }, 1, { inv1 with job := some 0 }, 4, 0, 64 * 2 ^ 32, by decide +kernel⟩⟩
theorem witness_TrickWriteResults_kput : let s := withKeys [key1] (inv (gset (gset callT 7 0) 5 0xE100) inv1); let op := s.serviceOp 1 2 (frm [trOp])
    s.trickCalls 1 inv1 ∧ (s.th 1).inWindow (s.gn 1 3) (s.gn 1 4) = true ∧ (s.th 1).inWindow (s.gn 1 5) (s.gn 1 6) = true ∧ s.trickSess inv1 = some (frm [trOp], se) ∧ keyOk op.key = true ∧
    op.val.length ≤ 7936 ∧ hasRight se 1 = true ∧ op.ns < 4096 ∧ nsAllowed (s.setOf 1) se op.ns = true ∧ s.noseOpen = true ∧ s.findPlace (frm [trOp]) (s.setOf 1) op (s.placeCheck (s.setOf 1) se op true) = .pass s ∧
    s.isPending op.ns op.key = false ∧ s.reserveOk (recLines op.key.length op.val.length) = true ∧
    (s.valueDamage op.ns op.key).contains false = false ∧ s.writeRoom (s.setOf 1) op false [7, 8] ∧
    ((s.findKey op.ns op.key).map heldVersion).getD 0 ≤ (s.nsOf op.ns).counter := by decide +kernel
theorem witness_TrickWriteResults_kcas : let s := withKeys [key1] (inv (gset (gset callT 7 7) 5 0xE100) inv1); let op := s.serviceOp 1 4 (frm [trOp])
    s.trickCalls 1 inv1 ∧ (s.th 1).inWindow (s.gn 1 3) (s.gn 1 4) = true ∧ (s.th 1).inWindow (s.gn 1 5) (s.gn 1 6) = true ∧ s.trickSess inv1 = some (frm [trOp], se) ∧ keyOk op.key = true ∧
    op.val.length ≤ 7936 ∧ hasRight se 1 = true ∧ op.ns < 4096 ∧ nsAllowed (s.setOf 1) se op.ns = true ∧ s.noseOpen = true ∧ s.findPlace (frm [trOp]) (s.setOf 1) op (s.placeCheck (s.setOf 1) se op true) = .pass s ∧
    s.isPending op.ns op.key = false ∧ s.reserveOk (recLines op.key.length op.val.length) = true ∧
    (s.valueDamage op.ns op.key).contains false = false ∧ s.writeRoom (s.setOf 1) op false [7, 8] ∧
    ((s.findKey op.ns op.key).map heldVersion).getD 0 ≤ (s.nsOf op.ns).counter := by decide +kernel
theorem witness_TrickWriteResults_kdel : let s := withKeys [key1] (inv (gset (gset callT 7 0) 5 0xE100) inv1); let op := s.serviceOp 1 3 (frm [trOp])
    s.trickCalls 1 inv1 ∧ (s.th 1).inWindow (s.gn 1 3) (s.gn 1 4) = true ∧  s.trickSess inv1 = some (frm [trOp], se) ∧ keyOk op.key = true ∧
    op.val.length ≤ 7936 ∧ hasRight se 1 = true ∧ op.ns < 4096 ∧ nsAllowed (s.setOf 1) se op.ns = true ∧ s.noseOpen = true ∧ s.findPlace (frm [trOp]) (s.setOf 1) op (s.placeCheck (s.setOf 1) se op true) = .pass s ∧
    s.isPending op.ns op.key = false ∧ s.reserveOk (recLines op.key.length op.val.length) = true ∧
    (s.valueDamage op.ns op.key).contains false = false ∧ s.writeRoom (s.setOf 1) op true [] ∧
    ((s.findKey op.ns op.key).map heldVersion).getD 0 ≤ (s.nsOf op.ns).counter := by decide +kernel
theorem witness_TrickWriteResults_kadd : let s := withKeys [] (inv (gset (gset callT 7 0) 5 9) inv1); let op := s.serviceOp 1 5 (frm [trOp])
    s.trickCalls 1 inv1 ∧ (s.th 1).inWindow (s.gn 1 3) (s.gn 1 4) = true ∧  s.trickSess inv1 = some (frm [trOp], se) ∧ keyOk op.key = true ∧
    op.val.length ≤ 7936 ∧ hasRight se 1 = true ∧ op.ns < 4096 ∧ nsAllowed (s.setOf 1) se op.ns = true ∧ s.noseOpen = true ∧ s.findPlace (frm [trOp]) (s.setOf 1) op (s.placeCheck (s.setOf 1) se op true) = .pass s ∧
    s.isPending op.ns op.key = false ∧ s.reserveOk (recLines op.key.length op.val.length) = true ∧
    (s.valueDamage op.ns op.key).contains false = false ∧ s.writeRoom (s.setOf 1) op false (zeros 7 ++ [9]) ∧
    ((s.findKey op.ns op.key).map heldVersion).getD 0 ≤ (s.nsOf op.ns).counter := by decide +kernel
theorem witness_KeyStoreResults :
    (∃ (s : State) (t : State) (m : FMsg) (k : Bytes), s.serving ∧ s.takeS 0x12 = some (m, t) ∧ byteAt m.data 2 ≠ 8 ∧ t.keyWriteCheck (bits (leAt m.data 0 2) 0 12) (byteAt m.data 2) (byteAt m.data 3) (bits (leAt m.data 4 2) 0 12) (m.data.drop 16) = (0, k)) ∧
    (∃ (s : State) (t : State) (m : FMsg) (x : Session) (n : Nat), s.serving ∧ s.takeS 0x13 = some (m, t) ∧ s.sess (leAt m.data 0 2) = some x ∧ x.closing = false ∧ byteAt m.data 3 = 0 ∧ x.cipher ≠ 0 ∧ byteAt m.data 2 = x.cipher ∧ x.slot = some n) ∧
    (∃ (s : State) (t : State) (m : FMsg) (n : Nat), s.serving ∧ s.takeS 0x14 = some (m, t) ∧ n = bits (leAt m.data 0 2) 0 12 ∧ s.lockedSlot n = false ∧ (s.slot n).typ ≠ 0 ∧ (s.slot n).inflight = 0 ∧ (s.slot n).inflightSh = 0 ∧ s.cph.queue = []) ∧
    (∃ (s : State) (t : State) (m : FMsg), s.serving ∧ s.noCommit ∧ s.takeS 0x15 = some (m, t) ∧ leAt m.data 0 2 < 4096 ∧ s.lockedSlot (leAt m.data 0 2) = false ∧ s.cph.queue = []) ∧
    (∃ (s : State) (t : State) (m : FMsg), s.serving ∧ s.noCommit ∧ s.takeS 0x15 = some (m, t) ∧ leAt m.data 0 2 < 4096 ∧ s.lockedSlot (leAt m.data 0 2) = true ∧ s.power.brace = false ∧ s.power.fault = false) ∧
    (∃ (s : State) (t : State) (m : FMsg) (n : Nat), s.serving ∧ s.takeS 0x16 = some (m, t) ∧ n = bits (leAt m.data 0 2) 0 12 ∧ s.fenceIdle) ∧
    (∃ (s : State) (t : State) (m : FMsg) (c : Nat), s.serving ∧ s.takeS 0x17 = some (m, t) ∧ c = leAt m.data 0 2 % 16 ∧ byteAt m.data 3 = 0 ∧ ((byteAt m.data 2 = 1 ∨ byteAt m.data 2 = 2)) ∧ (((s.collar c).page.typ = 0 ∨ (s.collar c).page.typ = byteAt m.data 2)) ∧ (s.collar c).page.shadow = none ∧ (s.collar c).page.gen < 0xFFFFFFFF) ∧
    (∃ (s : State) (t : State) (m : FMsg), s.serving ∧ s.takeS 0x18 = some (m, t)) ∧
    (∃ (s : State) (rct : Nat) (apt : Nat), s.serving ∧ s.flag rCphCtl 2 = true ∧ s.flag rRngStatus 1 = false ∧ s.flag rRngStatus 0 = false) :=
  ⟨⟨toSv 0x12 (leBytes 2 2 ++ [1, 0] ++ zeros 4 ++ [1, 2, 3, 4] ++ zeros 4 ++ zeros 80) (sv), (front 0x12 (toSv 0x12 (leBytes 2 2 ++ [1, 0] ++ zeros 4 ++ [1, 2, 3, 4] ++ zeros 4 ++ zeros 80) (sv))).2, (front 0x12 (toSv 0x12 (leBytes 2 2 ++ [1, 0] ++ zeros 4 ++ [1, 2, 3, 4] ++ zeros 4 ++ zeros 80) (sv))).1, zeros 16, by decide +kernel⟩,
   ⟨toSv 0x13 (leBytes 2 5 ++ [1, 0] ++ zeros 4 ++ [1, 2, 3, 4] ++ zeros 4 ++ zeros 80) ((sv.setFt { sv.ft with sessions := [(5, gcmR)] }).setSlot 2 kslot), (front 0x13 (toSv 0x13 (leBytes 2 5 ++ [1, 0] ++ zeros 4 ++ [1, 2, 3, 4] ++ zeros 4 ++ zeros 80) ((sv.setFt { sv.ft with sessions := [(5, gcmR)] }).setSlot 2 kslot))).2, (front 0x13 (toSv 0x13 (leBytes 2 5 ++ [1, 0] ++ zeros 4 ++ [1, 2, 3, 4] ++ zeros 4 ++ zeros 80) ((sv.setFt { sv.ft with sessions := [(5, gcmR)] }).setSlot 2 kslot))).1, gcmR, 2, by decide +kernel⟩,
   ⟨toSv 0x14 (leBytes 2 2 ++ zeros 6) (sv.setSlot 2 { kslot with sess := none }), (front 0x14 (toSv 0x14 (leBytes 2 2 ++ zeros 6) (sv.setSlot 2 { kslot with sess := none }))).2, (front 0x14 (toSv 0x14 (leBytes 2 2 ++ zeros 6) (sv.setSlot 2 { kslot with sess := none }))).1, 2, by decide +kernel⟩,
   ⟨toSv 0x15 (leBytes 2 2 ++ zeros 6) (sv.setSlot 2 kslot), (front 0x15 (toSv 0x15 (leBytes 2 2 ++ zeros 6) (sv.setSlot 2 kslot))).2, (front 0x15 (toSv 0x15 (leBytes 2 2 ++ zeros 6) (sv.setSlot 2 kslot))).1, by decide +kernel⟩,
   ⟨toSv 0x15 (leBytes 2 0 ++ zeros 6) (sv), (front 0x15 (toSv 0x15 (leBytes 2 0 ++ zeros 6) (sv))).2, (front 0x15 (toSv 0x15 (leBytes 2 0 ++ zeros 6) (sv))).1, by decide +kernel⟩,
   ⟨toSv 0x16 (leBytes 2 2 ++ zeros 6) (sv.setSlot 2 kslot), (front 0x16 (toSv 0x16 (leBytes 2 2 ++ zeros 6) (sv.setSlot 2 kslot))).2, (front 0x16 (toSv 0x16 (leBytes 2 2 ++ zeros 6) (sv.setSlot 2 kslot))).1, 2, by decide +kernel⟩,
   ⟨toSv 0x17 (leBytes 2 3 ++ [1, 0] ++ zeros 2 ++ leBytes 2 7 ++ [1, 2, 3, 4] ++ zeros 4 ++ zeros 80) (sv), (front 0x17 (toSv 0x17 (leBytes 2 3 ++ [1, 0] ++ zeros 2 ++ leBytes 2 7 ++ [1, 2, 3, 4] ++ zeros 4 ++ zeros 80) (sv))).2, (front 0x17 (toSv 0x17 (leBytes 2 3 ++ [1, 0] ++ zeros 2 ++ leBytes 2 7 ++ [1, 2, 3, 4] ++ zeros 4 ++ zeros 80) (sv))).1, 3, by decide +kernel⟩,
   ⟨toSv 0x18 [3] (sv), (front 0x18 (toSv 0x18 [3] (sv))).2, (front 0x18 (toSv 0x18 [3] (sv))).1, by decide +kernel⟩,
   ⟨sv.setFlag rCphCtl 2 true, 3, 4, by decide +kernel⟩⟩
theorem witness_FlashJobResults_flashRead : let s := setDesc 1
    s.issuesSystem 5 ∧ ((s.th 5).g 3).toNat % 64 = 0 ∧ (s.th 5).mayAccess ((s.th 5).g 3).toNat 64 = true ∧ s.dbad 5 ((s.th 5).g 3).toNat 64 = false ∧
    freeTicket (s.th 5).tickets = some 0 ∧ byteAt (s.dread 5 ((s.th 5).g 3).toNat 64) 0 = 1 := by decide +kernel
theorem witness_FlashJobResults_flashProgram : let s := setDesc 2
    s.issuesSystem 5 ∧ ((s.th 5).g 3).toNat % 64 = 0 ∧ (s.th 5).mayAccess ((s.th 5).g 3).toNat 64 = true ∧ s.dbad 5 ((s.th 5).g 3).toNat 64 = false ∧
    freeTicket (s.th 5).tickets = some 0 ∧ byteAt (s.dread 5 ((s.th 5).g 3).toNat 64) 0 = 2 := by decide +kernel
theorem witness_FlashJobResults_flashParity : let s := setDesc 3
    s.issuesSystem 5 ∧ ((s.th 5).g 3).toNat % 64 = 0 ∧ (s.th 5).mayAccess ((s.th 5).g 3).toNat 64 = true ∧ s.dbad 5 ((s.th 5).g 3).toNat 64 = false ∧
    freeTicket (s.th 5).tickets = some 0 ∧ byteAt (s.dread 5 ((s.th 5).g 3).toNat 64) 0 = 3 := by decide +kernel
theorem witness_FlashJobResults_flashErase : let s := setDesc 4
    s.issuesSystem 5 ∧ ((s.th 5).g 3).toNat % 64 = 0 ∧ (s.th 5).mayAccess ((s.th 5).g 3).toNat 64 = true ∧ s.dbad 5 ((s.th 5).g 3).toNat 64 = false ∧
    freeTicket (s.th 5).tickets = some 0 ∧ byteAt (s.dread 5 ((s.th 5).g 3).toNat 64) 0 = 4 := by decide +kernel
theorem witness_FlashJobResults_flashRaw : let s := setDesc 5
    s.issuesSystem 5 ∧ ((s.th 5).g 3).toNat % 64 = 0 ∧ (s.th 5).mayAccess ((s.th 5).g 3).toNat 64 = true ∧ s.dbad 5 ((s.th 5).g 3).toNat 64 = false ∧
    freeTicket (s.th 5).tickets = some 0 ∧ byteAt (s.dread 5 ((s.th 5).g 3).toNat 64) 0 = 5 := by decide +kernel
theorem witness_FlashJobResults :
    (∃ (s : State) (lun : Fin 256) (j : FJob), s.serving ∧ s.st.jobs = [j] ∧ j.running = false ∧ (s.jobLuns j).contains lun.val = true ∧ s.flag rFlcCtl 0 = true ∧ s.fjobValid j = true ∧ s.power.base ≠ .test ∧ j.xts = false ∧ j.acc = false ∧ j.op ≠ 3) ∧
    (∃ (s : State) (lun : Fin 256) (j : FJob), s.serving ∧ s.st.jobs = [j] ∧ j.running = false ∧ (s.jobLuns j).contains lun.val = true ∧ j.bound = false ∧ ((s.flag rFlcCtl 0 = false ∨ s.fjobValid j = false)) ∧ s.owes j.thread j.ticket) ∧
    (∃ (s : State) (j : FJob) (w : Cw), s.serving ∧ s.st.jobs = [j] ∧ j.running = true ∧ j.bound = false ∧ j.op = 1 ∧ j.count = 1 ∧ j.xts = false ∧ j.buf / 2 ^ 60 = 1 ∧ s.st.lostGroups.contains (j.seg % s.flGroups) = false ∧ mget s.st.media (cwKey j.seg j.cw) = some w ∧ w.xts = none ∧ s.owes j.thread j.ticket) ∧
    (∃ (s : State) (j : FJob), s.serving ∧ s.st.jobs = [j] ∧ j.running = true ∧ j.bound = false ∧ j.op = 2 ∧ j.xts = false ∧ j.acc = false ∧ j.buf / 2 ^ 60 = 1 ∧ poisonLines s (engineOf j.thread) 1 (j.buf % 2 ^ 40) (s.pageSet * 4096) = [] ∧ s.owes j.thread j.ticket) ∧
    (∃ (s : State) (j : FJob) (slot : Nat) (status : Nat), s.serving ∧ s.st.jobs = [j] ∧ j.running = true ∧ j.bound = false ∧ j.op = 2 ∧ j.xts = false ∧ j.acc = false ∧ j.buf / 2 ^ 60 = 1 ∧ poisonLines s (engineOf j.thread) 1 (j.buf % 2 ^ 40) (s.pageSet * 4096) = [] ∧ s.owes j.thread j.ticket) ∧
    (∃ (s : State) (j : FJob) (a : Accum), s.serving ∧ s.st.jobs = [j] ∧ j.running = true ∧ j.bound = false ∧ j.op = 3 ∧ j.xts = false ∧ mget s.st.accums (s.accKey j) = some a ∧ s.owes j.thread j.ticket) ∧
    (∃ (s : State) (j : FJob), s.serving ∧ s.st.jobs = [j] ∧ j.running = true ∧ j.bound = false ∧ j.op = 4 ∧ j.xts = false ∧ s.owes j.thread j.ticket) ∧
    (∃ (s : State) (j : FJob) (raw : Bytes), s.serving ∧ s.st.jobs = [j] ∧ j.running = true ∧ j.bound = false ∧ j.op = 5 ∧ j.xts = false ∧ j.buf / 2 ^ 60 = 1 ∧ byteAt j.desc 45 = 0 ∧ s.owes j.thread j.ticket) ∧
    (∃ (s : State) (l : Fin 256), s.serving ∧ ((s.st.jobs.filter (·.running)).flatMap s.jobLuns).contains l.val = true ∧ s.lunPresent l = true) ∧
    (∃ (s : State), s.serving) ∧
    (∃ (s : State) (ch : Fin 16) (mode : Fin 8) (rate : Fin 8) (present : Word) (bad : List Nat), s.serving) ∧
    (∃ (s : State) (j : FJob), s.serving ∧ s.st.jobs = [j] ∧ j.running = true ∧ j.bound = false ∧ j.op = 2 ∧ j.xts = false ∧ j.buf / 2 ^ 60 = 1 ∧ 0 < s.pageSet ∧ s.owes j.thread j.ticket) :=
  ⟨⟨flS (fj 1 1 3 2 false), 32, fj 1 1 3 2 false, by decide +kernel⟩,
   ⟨flS (fj 1 1 3 4 false), 32, fj 1 1 3 4 false, by decide +kernel⟩,
   ⟨flS (fj 1 1 3 1 true), fj 1 1 3 1 true, { data := [7], xts := none }, by decide +kernel⟩,
   ⟨flS (fj 2 1 3 0 true), fj 2 1 3 0 true, by decide +kernel⟩,
   ⟨flS (fj 2 1 3 0 true), fj 2 1 3 0 true, 2, 0xE1, by decide +kernel⟩,
   ⟨(flS (fj 3 1 3 0 true)).setSt { (flS (fj 3 1 3 0 true)).st with accums := [(0, { seg := 1, stripe := 0, data := [5] })] }, fj 3 1 3 0 true, { seg := 1, stripe := 0, data := [5] }, by decide +kernel⟩,
   ⟨flS (fj 4 1 0 0 true), fj 4 1 0 0 true, by decide +kernel⟩,
   ⟨flS { fj 5 1 3 0 true with desc := patch (flDesc 5 0 0 0) 43 [2] }, { fj 5 1 3 0 true with desc := patch (flDesc 5 0 0 0) 43 [2] }, [8, 9], by decide +kernel⟩,
   ⟨pollS, 16, by decide +kernel⟩,
   ⟨sv, by decide +kernel⟩,
   ⟨pollS, 3, 1, 1, 0xFFFFFFFF, [5], by decide +kernel⟩,
   ⟨flS (fj 2 1 3 0 true), fj 2 1 3 0 true, by decide +kernel⟩⟩
theorem witness_StorageResults :
    (∃ (s : State), s.serving ∧ s.st.flush = none ∧ s.flushWanted = true) ∧
    (∃ (s : State), s.serving ∧ s.st.flush = none ∧ s.flushWanted = false) ∧
    (∃ (s : State) (t0 : Nat), s.serving ∧ s.st.flush = some t0 ∧ s.resolvedBelow t0 = false) ∧
    (∃ (s : State) (t0 : Nat), s.serving ∧ s.st.flush = some t0 ∧ s.resolvedBelow t0 = true ∧ s.ks.keys.flatMap (s.flushEnts t0) = []) ∧
    (∃ (s : State) (q : State) (t0 : Nat) (es : List RunEnt), s.serving ∧ s.st.flush = some t0 ∧ s.resolvedBelow t0 = true ∧ es = sortEnts (s.ks.keys.flatMap (s.flushEnts t0)) ∧ es ≠ [] ∧ q = s.noseQuiet.progSearch (es.length + 1) ∧ (q.writeRun 0 es t0 []).isSome = true) ∧
    (∃ (s : State) (h : HardRec), s.serving ∧ s.flag rFlcCtl 0 = true ∧ s.hardDue = [h] ∧ (s.logWrite s.st.logDone false [h.r]).isNone = true) ∧
    (∃ (s : State) (h : HardRec), s.serving ∧ s.flag rFlcCtl 0 = true ∧ s.st.hard = [h] ∧ s.hardDue = [h] ∧ s.st.logDone < 64 * h.r.lines ∧ (s.logWrite s.st.logDone false [h.r]).isSome = true) ∧
    (∃ (s : State) (n : Fin 8), s.serving ∧ s.levelFull n = false) ∧
    (∃ (s : State) (n : Fin 8), s.serving ∧ n.val < 7 ∧ s.levelFull n = true ∧ s.mergeInputs n ≠ [] ∧ ((s.mergeInputs n).flatMap (·.ents)) ≠ [] ∧ ((s.mergeInputs n).all fun r => r.ents.all fun e => s.ofLife r e && s.entCurrent e && !e.tomb) = true ∧ (s.writeRun (n + 1) (sortEnts ((s.mergeInputs n).flatMap (·.ents))) (((s.mergeInputs n).map (·.jsnEnd)).foldl max 0) ((s.mergeInputs n).map (·.no))).isSome = true ∧ (s.st.index.all fun e => decide (e.1 < 4 * s.st.nbuckets)) = true) ∧
    (∃ (s : State) (n : BitVec 18) (k : Nat), s.serving ∧ s.groomTarget n.toNat = true ∧ s.bestSeg = some k ∧ (s.st.runs.any fun r => r.segs.contains n.toNat) = true ∧ (s.st.segs.map (·.1)).Pairwise (· < ·) ∧ (s.st.index.all fun e => decide (e.1 < 4 * s.st.nbuckets)) = true) :=
  ⟨⟨{ (sv.setC64 rJrnTail 5) with brace := { sv.brace with sitFlush := true } }, by decide +kernel⟩,
   ⟨sv, by decide +kernel⟩,
   ⟨sv.setSt { sv.st with flush := some 3, jrn := [{ hrec 1 with jsn := 1, complete := false }] }, 3, by decide +kernel⟩,
   ⟨sv.setSt { sv.st with flush := some 3 }, 3, by decide +kernel⟩,
   ⟨withKeys [key1] (grS.setSt { grS.st with flush := some 3 }), (withKeys [key1] (grS.setSt { grS.st with flush := some 3 })).noseQuiet.progSearch 2, 3, sortEnts ((withKeys [key1] (grS.setSt { grS.st with flush := some 3 })).ks.keys.flatMap ((withKeys [key1] (grS.setSt { grS.st with flush := some 3 })).flushEnts 3)), by decide +kernel⟩,
   ⟨hardS 0, { r := hrec 6, programmed := false }, by decide +kernel⟩,
   ⟨hardS 3, { r := hrec 6, programmed := false }, by decide +kernel⟩,
   ⟨sv.setSt { sv.st with runs := [] }, 1, by decide +kernel⟩,
   ⟨grS, 0, by decide +kernel⟩,
   ⟨grS, 1, 0, by decide +kernel⟩⟩
theorem witness_DramRequestResults :
    (∃ (s : State) (a : BitVec 40) (data : Bytes) (k : Nat), s.serving ∧ s.dramKeys (a.toNat / 64 * 64) 64 = some (k, [k]) ∧ data.length = 64 ∧ s.drc.waiting = [] ∧ s.drc.fifos = [] ∧ s.chanOpen (s.dramPlace k).ch = true ∧ (s.chan (s.dramPlace k).ch).wq.length < 48) ∧
    (∃ (s : State) (a : BitVec 40) (k : Nat) (ch : Nat) (ks : List Nat), s.serving ∧ s.dramKeys (a.toNat / 64 * 64) 64 = some (k, ks) ∧ ch = (s.dramPlace k).ch ∧ s.drc.waiting = [] ∧ s.drc.fifos = [] ∧ s.chanOpen ch = true ∧ (s.chan ch).rq.length < 64 ∧ (s.chan ch).newest (k / 64) = none) ∧
    (∃ (s : State) (a : BitVec 40) (data : Bytes) (mask : Bytes) (old : Ecc) (k : Nat), s.serving ∧ s.dramKeys (a.toNat / 64 * 64) 64 = some (k, [k]) ∧ mask.length = 8 ∧ (mask.any (· != 0xFF)) = true ∧ s.drc.waiting = [] ∧ s.drc.fifos = [] ∧ s.chanOpen (s.dramPlace k).ch = true ∧ (s.chan (s.dramPlace k).ch).wq.length < 48) ∧
    (∃ (s : State) (a : BitVec 40) (data : Bytes) (k : Nat), s.serving ∧ s.dramKeys (a.toNat / 64 * 64) 64 = some (k, [k]) ∧ s.drc.fifos = [] ∧ s.chanOpen (s.dramPlace k).ch = false ∧ s.drc.waiting = []) ∧
    (∃ (s : State) (a : BitVec 40) (w : Bool) (data : Bytes) (mask : Bytes), s.serving ∧ s.dramKeys (a.toNat / 64 * 64) 64 = none) ∧
    (∃ (s : State) (ch : Fin 8) (l : List Nat), s.serving ∧ s.flag rDrcStatus 6 = false ∧ (s.chan ch).forced = true) ∧
    (∃ (s : State) (ch : Fin 8) (r : DReq), s.serving ∧ s.dramReady = true ∧ bit (s.fld rTrain 7 0) ch = false ∧ (s.chan ch).forced = false ∧ (s.chan ch).rq = [r] ∧ (s.chan ch).wq = [] ∧ (s.chan ch).staging = [] ∧ r.ch = ch ∧ r.write = false ∧ mget (s.chan ch).rows (s.dramPlace (r.line * 64)).bank = some (s.dramPlace (r.line * 64)).row ∧ s.drc.waiting = [] ∧ s.drc.fifos = []) ∧
    (∃ (s : State) (ch : Fin 8) (r : DReq), s.serving ∧ s.dramReady = true ∧ bit (s.fld rTrain 7 0) ch = false ∧ (s.chan ch).forced = false ∧ (s.chan ch).rq = [r] ∧ (s.chan ch).wq = [] ∧ (s.chan ch).staging = [] ∧ r.write = false ∧ mget (s.chan ch).rows (s.dramPlace (r.line * 64)).bank = none) ∧
    (∃ (s : State) (ch : Fin 8), s.serving ∧ s.flag rDrcStatus 6 = false ∧ (s.chan ch).rq = [] ∧ (s.chan ch).wq = [] ∧ (s.chan ch).staging = [] ∧ (s.chan ch).down = false) ∧
    (∃ (s : State) (ch : Fin 8), s.serving ∧ s.flag rDrcStatus 6 = false ∧ s.howlAt (ctlOf ch) = false) ∧
    (∃ (s : State) (ch : Fin 8), s.serving ∧ s.flag rDrcStatus 6 = false ∧ s.howlAt (ctlOf ch) = true) ∧
    (∃ (s : State) (ch : Fin 8), s.serving ∧ s.flag rDrcStatus 6 = false) ∧
    (∃ (s : State) (hot : Bool), s.serving ∧ s.flag rDrcStatus 6 = false) ∧
    (∃ (s : State), s.serving ∧ s.flag rDrcStatus 0 = false ∧ s.flag rDrcStatus 6 = false ∧ s.flag rDrcCtl 0 = true ∧ s.drc.partInit = false ∧ s.power.waking = false ∧ (¬ ((s.power.base = .boot ∨ s.power.base = .heel) ∧ (s.power.step = 3 ∨ s.power.step = 5))) ∧ s.drc.waiting = [] ∧ s.drc.fifos = []) ∧
    (∃ (s : State), s.serving ∧ s.flag rDrcCtl 2 = true ∧ s.fld 0x10300090 13 0 ≠ 0 ∧ s.dramReady = true ∧ s.halted = false) ∧
    (∃ (s : State) (ch : Nat), s.serving ∧ s.flag rDrcCtl 2 = true ∧ s.fld 0x10300090 13 0 ≠ 0 ∧ s.dramReady = true ∧ s.halted = false ∧ s.dramChans = [ch] ∧ s.flag rDrcStatus 24 = false ∧ s.fld 0x1030008C 23 16 ≤ (s.chan (s.dramPlace (s.scrubKey ch s.drc.scrub)).ch).ueWin + 1 ∧ s.modeNow = .serve) ∧
    (∃ (s : State) (ch : Fin 8), s.serving ∧ (s.chan ch).ceWin ≤ s.fld 0x1030008C 15 0) ∧
    (∃ (s : State) (ch : Fin 8), s.serving ∧ s.fld 0x1030008C 15 0 < (s.chan ch).ceWin) :=
  ⟨⟨drS, 128, List.replicate 64 3, 128, by decide +kernel⟩,
   ⟨drS, 128, 128, 0, [128], by decide +kernel⟩,
   ⟨drS, 128, List.replicate 64 3, List.replicate 8 0x0F, .good, 128, by decide +kernel⟩,
   ⟨drS.setFlag rTrain 0 true, 128, List.replicate 64 3, 128, by decide +kernel⟩,
   ⟨drS, 0xFFFFFFFFFF, true, [], [], by decide +kernel⟩,
   ⟨withChan { DChan.reset with forced := true } drS, 0, [], by decide +kernel⟩,
   ⟨withChan { DChan.reset with rq := [dReq], rows := [(bankOf, rowOf)] } drS, 0, dReq, by decide +kernel⟩,
   ⟨withChan { DChan.reset with rq := [dReq] } drS, 0, dReq, by decide +kernel⟩,
   ⟨drS, 0, by decide +kernel⟩,
   ⟨drS, 0, by decide +kernel⟩,
   ⟨drS.setDrc { drS.drc with howl := [0] }, 0, by decide +kernel⟩,
   ⟨drS, 0, by decide +kernel⟩,
   ⟨drS, true, by decide +kernel⟩,
   ⟨{ drS.setFlag rDrcStatus 0 false with mem := { drS.mem with dram := [⟨4, 7⟩] } }, by decide +kernel⟩,
   ⟨drS, by decide +kernel⟩,
   ⟨drS, 0, by decide +kernel⟩,
   ⟨drS, 0, by decide +kernel⟩,
   ⟨withChan { DChan.reset with ceWin := 2000 } drS, 0, by decide +kernel⟩⟩
theorem witness_DramControlResults :
    (∃ (s : State) (t : Fin 4), s.serving ∧ s.drc.change = none ∧ t.val ≤ 2 ∧ s.fld rTrain 7 0 = 0 ∧ s.flag (0x10300010 + 4 * t) 8 = true ∧ t.val ≠ s.fspOp) ∧
    (∃ (s : State) (t : Fin 4), s.serving ∧ s.drc.change = none ∧ t.val ≤ 2 ∧ ((s.fld rTrain 7 0 ≠ 0 ∨ s.flag (0x10300010 + 4 * t) 8 = false ∨ t.val = s.fspOp))) ∧
    (∃ (s : State) (t : Nat), s.serving ∧ s.drc.change = some t ∧ s.drc.howl ≠ []) ∧
    (∃ (s : State) (t : Nat), s.serving ∧ s.drc.change = some t ∧ s.drc.howl = [] ∧ s.drc.waiting = [] ∧ s.drc.fifos = []) ∧
    (∃ (s : State), s.serving ∧ s.flag rDrcStatus 6 = false) ∧
    (∃ (s : State), s.serving ∧ s.flag rDrcStatus 6 = true ∧ s.drc.waiting = [] ∧ s.drc.fifos = []) ∧
    (∃ (s : State) (ch : Fin 8), s.serving ∧ s.flag rFspCtl 31 = false ∧ bit (s.fld rTrain 7 0) ch = false) ∧
    (∃ (s : State) (ch : Fin 8) (w : DWin), s.serving ∧ bit (s.fld rTrain 7 0) ch = true ∧ mget s.drc.windows ch = some w) ∧
    (∃ (s : State) (ch : Fin 8) (w : DWin), s.serving ∧ bit (s.fld rTrain 7 0) ch = true ∧ mget s.drc.windows ch = some w ∧ (w.saved.map (·.1)).Nodup ∧ s.drc.waiting = [] ∧ s.drc.fifos = [] ∧ (w.saved.all fun x => decide (0x10301000 ≤ x.1)) = true) ∧
    (∃ (s : State) (ch : Fin 8) (w : DWin), s.serving ∧ mget s.drc.windows ch = some w ∧ w.live = true ∧ (w.saved.map (·.1)).Nodup ∧ s.drc.waiting = [] ∧ s.drc.fifos = [] ∧ (w.saved.all fun x => decide (0x10301000 ≤ x.1)) = true) ∧
    (∃ (s : State) (ch : Fin 8) (rank : Fin 2) (ma : Byte) (opd : Byte), s.mayTrain ch) ∧
    (∃ (s : State) (ch : Fin 8) (rank : Fin 2) (ma : Byte), s.mayTrain ch) ∧
    (∃ (s : State) (ch : Fin 8) (rank : Fin 2), s.mayTrain ch) ∧
    (∃ (s : State) (ch : Fin 8) (rank : Fin 2), s.mayTrain ch) ∧
    (∃ (s : State) (ch : Fin 8) (rank : Fin 2), s.mayTrain ch) ∧
    (∃ (s : State) (ch : Fin 8) (rank : Fin 2), s.mayTrain ch) ∧
    (∃ (s : State) (ch : Fin 8) (rank : Fin 2), s.mayTrain ch) ∧
    (∃ (s : State) (b : Byte) (tr : DTrain), s.serving ∧ s.drc.train = some tr ∧ tr.op = 1) :=
  ⟨⟨drS.setFlag 0x10300014 8 true, 1, by decide +kernel⟩,
   ⟨drS, 1, by decide +kernel⟩,
   ⟨drS.setDrc { drS.drc with change := some 1, howl := [1] }, 1, by decide +kernel⟩,
   ⟨drS.setDrc { drS.drc with change := some 1 }, 1, by decide +kernel⟩,
   ⟨drS, by decide +kernel⟩,
   ⟨(drS.setFlag rDrcStatus 6 true).wr 0x103000A0 1, by decide +kernel⟩,
   ⟨drS, 0, by decide +kernel⟩,
   ⟨winS true, 0, win1 true, by decide +kernel⟩,
   ⟨winS true, 0, win1 true, by decide +kernel⟩,
   ⟨winS true, 0, win1 true, by decide +kernel⟩,
   ⟨winS true, 0, 1, 5, 6, by decide +kernel⟩,
   ⟨winS true, 0, 1, 5, by decide +kernel⟩,
   ⟨winS true, 0, 1, by decide +kernel⟩,
   ⟨winS true, 0, 1, by decide +kernel⟩,
   ⟨winS true, 0, 1, by decide +kernel⟩,
   ⟨winS true, 0, 1, by decide +kernel⟩,
   ⟨winS true, 0, 1, by decide +kernel⟩,
   ⟨drS.setDrc { drS.drc with train := some { ch := 0, rank := 0, op := 1, ma := 3, opd := 0 } }, 9, { ch := 0, rank := 0, op := 1, ma := 3, opd := 0 }, by decide +kernel⟩⟩
theorem witness_LinkResults :
    (∃ (s : State) (p : Fin 2), s.serving) ∧
    (∃ (s : State) (p : Fin 2), s.serving ∧ s.portState p = 1 ∧ s.fld (0x10900010 + 4 * p) 2 0 ≠ 4 ∧ ((s.fld (macBase p) 9 8 = 0 → (s.port p).dataPath = true))) ∧
    (∃ (s : State) (p : Fin 2), s.serving ∧ s.linkUp p = true ∧ s.loopDepth p = 0) ∧
    (∃ (s : State) (p : Fin 2), s.serving ∧ s.linkUp p = false) ∧
    (∃ (s : State) (p : Fin 2) (addr : Byte) (page : Byte) (len : Fin 8) (paged : Bool), s.serving ∧ s.flag (macBase p + 0x200) 31 = false) ∧
    (∃ (s : State) (p : Fin 2) (addr : Byte) (page : Byte) (len : Fin 8) (paged : Bool) (data : DWord), s.serving ∧ s.flag (macBase p + 0x200) 31 = false) ∧
    (∃ (s : State) (p : Fin 2) (nack : Bool) (timeout : Bool) (data : Bytes), s.serving ∧ s.flag (macBase p + 0x200) 31 = true ∧ (s.port p).cmis = none) ∧
    (∃ (s : State) (p : Fin 2) (data : Bytes), s.serving ∧ s.flag (macBase p + 0x200) 31 = true ∧ s.flag (macBase p + 0x200) 30 = false ∧ s.fld (macBase p + 0x200) 26 24 = 7 ∧ data.length = 8 ∧ (s.port p).cmis = none) ∧
    (∃ (s : State) (p : Fin 2) (data : Bytes) (got : List Bytes), s.serving ∧ s.flag (macBase p + 0x200) 31 = true ∧ s.flag (macBase p + 0x200) 30 = false ∧ s.fld (macBase p + 0x200) 26 24 = 7 ∧ data.length = 8 ∧ (s.port p).cmis = some got ∧ (s.port p).cmisBusy = true) ∧
    (∃ (s : State) (p : Fin 2) (present : Bool), s.serving ∧ s.flag (macBase p + 0x20C) 2 ≠ present) ∧
    (∃ (s : State) (p : Fin 2) (low : Bool), s.serving) ∧
    (∃ (s : State) (up : Bool), s.operating ∧ s.flag 0x50004 0 ≠ up ∧ s.mgtDepth = 0) :=
  ⟨⟨txS, 0, by decide +kernel⟩,
   ⟨(sv.setFld 0x10500004 7 6 1).setFld 0x10500000 9 8 1, 0, by decide +kernel⟩,
   ⟨txS, 0, by decide +kernel⟩,
   ⟨sv, 0, by decide +kernel⟩,
   ⟨sv, 0, 1, 2, 3, true, by decide +kernel⟩,
   ⟨sv, 0, 1, 2, 3, true, 0x1122334455667788, by decide +kernel⟩,
   ⟨modS, 0, true, false, [], by decide +kernel⟩,
   ⟨modS, 0, [1, 2, 3, 4, 5, 6, 7, 8], by decide +kernel⟩,
   ⟨withPort { Port.reset with cmis := some [], cmisBusy := true } modS, 0, [1, 2, 3, 4, 5, 6, 7, 8], [], by decide +kernel⟩,
   ⟨sv, 0, true, by decide +kernel⟩,
   ⟨sv, 0, true, by decide +kernel⟩,
   ⟨sv, true, by decide +kernel⟩⟩
theorem witness_TransmitResults :
    (∃ (s : State) (p : Fin 2) (a : BitVec 23) (r : RxFrame), s.serving ∧ (s.port p).rx.find? (fun r => r.addr = a.toNat) = some r) ∧
    (∃ (s : State) (p : Fin 2) (a : BitVec 23), s.serving ∧ (s.port p).rx.find? (fun r => r.addr = a.toNat) = none) ∧
    (∃ (s : State) (p : Fin 2) (prio : Fin 9), s.serving) ∧
    (∃ (s : State) (p : Fin 2) (prio : Fin 9), s.serving) ∧
    (∃ (s : State) (p : Fin 2) (prio : Fin 9), s.serving ∧ mhas (s.port p).paused prio = true) ∧
    (∃ (s : State) (p : Fin 2) (prio : Fin 9), s.serving) ∧
    (∃ (s : State) (p : Fin 2) (prio : Nat) (quanta : Nat) (t : List (Nat × Nat)), s.serving ∧ (s.port p).sending = none ∧ s.linkUp p = true ∧ s.flag (macBase p) 1 = true ∧ s.halted = false ∧ (s.port p).ctl = (prio, quanta) :: t) ∧
    (∃ (s : State) (p : Fin 2) (a : List TxFrame) (b : List TxFrame) (f : TxFrame), s.serving ∧ (s.port p).sending = none ∧ s.linkUp p = true ∧ s.flag (macBase p) 1 = true ∧ s.halted = false ∧ (s.port p).ctl = [] ∧ (s.port p).paused = [] ∧ s.flag (macBase p + 0x300) 0 = false ∧ (s.port p).txq = a ++ f :: b ∧ f.prio ≤ 7 ∧ ((a ++ b).all fun g => decide (g.prio < f.prio)) = true ∧ f.stamp = none) ∧
    (∃ (s : State) (p : Fin 2) (f : TxFrame), s.serving ∧ (s.port p).sending = some f ∧ f.emit = none ∧ s.loopDepth p = 0) :=
  ⟨⟨hold (reqRaw 1) txS, 0, 128, rxf (reqRaw 1), by decide +kernel⟩,
   ⟨txS, 0, 5, by decide +kernel⟩,
   ⟨withPort { Port.reset with xoff := [3], rx := [{ rxf [] with cells := List.range 20000, prio := 3 }] } sv, 0, 3, by decide +kernel⟩,
   ⟨withPort { Port.reset with paused := [(3, 7)] } sv, 0, 3, by decide +kernel⟩,
   ⟨withPort { Port.reset with paused := [(3, 7)] } sv, 0, 3, by decide +kernel⟩,
   ⟨withPort { Port.reset with hold := [3] } sv, 0, 3, by decide +kernel⟩,
   ⟨withPort { Port.reset with ctl := [(8, 0xFFFF)] } txS, 0, 8, 0xFFFF, [], by decide +kernel⟩,
   ⟨withPort { Port.reset with txq := [txf 60 1, txf 70 5, txf 80 2] } txS, 0, [txf 60 1], [txf 80 2], txf 70 5, by decide +kernel⟩,
   ⟨withPort { Port.reset with sending := some (txf 60 1) } txS, 0, txf 60 1, by decide +kernel⟩⟩
theorem witness_GateAndDozeResults :
    (∃ (s : State) (p : Fin 2), s.serving ∧ s.flag (macBase p + 0x300) 0 = true) ∧
    (∃ (s : State) (p : Fin 2), s.serving ∧ s.flag (macBase p + 0x300) 0 = false) ∧
    (∃ (s : State) (p : Fin 2), s.serving) ∧
    (∃ (s : State) (p : Fin 2), s.serving) ∧
    (∃ (s : State) (p : Fin 2), s.serving ∧ s.flag (macBase p + 0x300) 1 = true ∧ s.c64 (macBase p + 0x318) ≤ s.phcNs) ∧
    (∃ (s : State), s.serving) ∧
    (∃ (s : State) (p : Fin 2), s.serving ∧ bit (byteAt (s.cfg.active.get secPort p) 14) 2 = true ∧ s.portTakes p = true ∧ s.flag (macBase p + 4) 8 = false ∧ (s.port p).change = none ∧ (s.port (other p)).change = none ∧ s.linkUp (other p) = true ∧ (s.port p).lastChange = none ∧ (s.port p).noAutoUntil ≤ s.now) ∧
    (∃ (s : State) (p : Fin 2), s.serving ∧ s.portTakes p = true ∧ s.fld (macBase p + 4) 11 9 ≠ fSPEED p s ∧ (s.port p).change = none ∧ (s.port (other p)).change = none ∧ (s.port p).noAutoUntil ≤ s.now) ∧
    (∃ (s : State) (p : Fin 2) (old : Nat) (new : Nat), s.serving ∧ (s.port p).change = some (old, new) ∧ s.portState p = 3) ∧
    (∃ (s : State) (p : Fin 2) (old : Nat) (new : Nat), s.serving ∧ (s.port p).change = some (old, new) ∧ s.linkUp p = false) :=
  ⟨⟨sv.setFlag 0x10500300 0 true, 0, by decide +kernel⟩,
   ⟨sv, 0, by decide +kernel⟩,
   ⟨sv, 0, by decide +kernel⟩,
   ⟨sv, 0, by decide +kernel⟩,
   ⟨sv.setFlag 0x10500300 1 true, 0, by decide +kernel⟩,
   ⟨sv.setC64 0x10500910 77, by decide +kernel⟩,
   ⟨dzS, 0, by decide +kernel⟩,
   ⟨dzS.setFld 0x10500004 11 9 4, 0, by decide +kernel⟩,
   ⟨withPort { Port.reset with change := some (0, 4) } (dzS.setFld 0x10500004 7 6 3), 0, 0, 4, by decide +kernel⟩,
   ⟨withPort { Port.reset with change := some (0, 4) } (dzS.setFlag 0x10500004 0 false), 0, 0, 4, by decide +kernel⟩⟩
theorem witness_ConfigResults_start_blank : ∃ s t page, State.bringsUp s t page ∧ page.ok = true ∧ s.segCws true ≤ 262144 ∧ s.segCws false ≤ 262144 ∧
    t.flag rDrcStatus 7 = false ∧ t.checkSet t.candidate (List.range 14) = none ∧ t.flag rDrcStatus 0 = true ∧ t.flashBlank = true ∧ byteAt (t.candidate.get secStorage 0) 5 ≠ 1 :=
  ⟨bootOf goodSet true, upOf (bootOf goodSet true) (page1 true), page1 true, ⟨by decide, by decide +kernel, by decide, by decide, by decide, by decide, by decide, by decide, by decide, rfl⟩, by decide +kernel⟩
theorem witness_ConfigResults_start_done : ∃ s t page, State.bringsUp s t page ∧ page.ok = true ∧ s.segCws true ≤ 262144 ∧ s.segCws false ≤ 262144 ∧
    t.flag rDrcStatus 7 = false ∧ t.checkSet t.candidate (List.range 14) = none ∧ t.flag rDrcStatus 0 = true ∧ byteAt (t.candidate.get secStorage 0) 5 = 1 ∧ s.keeper.storeTricks = [] ∧ ((s.fence.toS ++ s.keeper.outQ).any fun p => p.typ == 0x21 || p.typ == 0x22) = false ∧ s.flag rPwrCtl 2 = false :=
  ⟨bootOf autoSet true, upOf (bootOf autoSet true) (page1 true), page1 true, ⟨by decide, by decide +kernel, by decide, by decide, by decide, by decide, by decide, by decide, by decide, rfl⟩, by decide +kernel⟩
theorem witness_ConfigResults_start_wait : ∃ s t page, State.bringsUp s t page ∧ page.ok = true ∧ s.segCws true ≤ 262144 ∧ s.segCws false ≤ 262144 ∧
    t.flag rDrcStatus 7 = false ∧ t.checkSet t.candidate (List.range 14) = none ∧ t.flag rDrcStatus 0 = false :=
  ⟨bootOf goodSet false, upOf (bootOf goodSet false) (page1 true), page1 true, ⟨by decide, by decide +kernel, by decide, by decide, by decide, by decide, by decide, by decide, by decide, rfl⟩, by decide +kernel⟩
theorem witness_ConfigResults_start_refused : ∃ s t page, State.bringsUp s t page ∧ page.ok = true ∧ s.segCws true ≤ 262144 ∧ s.segCws false ≤ 262144 ∧
    t.flag rDrcStatus 7 = false ∧ t.checkSet t.candidate (List.range 14) ≠ none :=
  ⟨bootOf { goodSet with recs := [] } true, upOf (bootOf { goodSet with recs := [] } true) (page1 true), page1 true, ⟨by decide, by decide +kernel, by decide, by decide, by decide, by decide, by decide, by decide, by decide, rfl⟩, by decide +kernel⟩
theorem witness_ConfigResults_start_geometry : ∃ s t page, State.bringsUp s t page ∧ page.ok = false ∧ s.segCws true ≤ 262144 ∧ s.segCws false ≤ 262144 ∧
    t.flag rDrcStatus 7 = false ∧ True :=
  ⟨bootOf goodSet true, upOf (bootOf goodSet true) (page1 false), page1 false, ⟨by decide, by decide +kernel, by decide, by decide, by decide, by decide, by decide, by decide, by decide, rfl⟩, by decide +kernel⟩
theorem witness_ConfigResults :
    (∃ (s : State) (m : FMsg) (c : CfgSet), s.atLead 0x01 m ∧ s.cfg.waiting = none ∧ byteAt m.data 1 = 0 ∧ byteAt m.data 0 ≤ 13 ∧ m.data.length = 12 + leAt m.data 8 4 * recSize (byteAt m.data 0) ∧ leAt m.data 8 4 ≠ 0 ∧ ((byteAt m.data 0 = secDir → leAt m.data 4 4 = 0)) ∧ applyPayload s.cfg.shadow (byteAt m.data 0) 0 (leAt m.data 4 4) (chunks (leAt m.data 8 4) (recSize (byteAt m.data 0)) (m.data.drop 12)) = some c ∧ s.fenceIdle) ∧
    (∃ (s : State) (m : FMsg), s.atLead 0x01 m ∧ s.cfg.waiting = none ∧ byteAt m.data 1 = 1 ∧ byteAt m.data 0 = secDir ∧ leAt m.data 8 4 = 0 ∧ m.data.length = 12 ∧ s.fenceIdle) ∧
    (∃ (s : State) (m : FMsg), s.atLead 0x02 m ∧ s.cfg.waiting = none ∧ leAt m.data 0 4 ≠ 0 ∧ leAt m.data 0 4 ≠ s.rd rCfgShadowGen ∧ s.fenceIdle) ∧
    (∃ (s : State) (t : State) (m : FMsg) (sec : Nat) (i : Nat) (r : Nat), s.serving ∧ s.takeLead 0x02 = some (m, t) ∧ t.cfg.waiting = none ∧ ((leAt m.data 0 4 = 0 ∨ leAt m.data 0 4 = t.rd rCfgShadowGen)) ∧ t.checkSet t.candidate (List.range 14) = some (sec, i, r) ∧ t.fenceIdle) ∧
    (∃ (s : State) (t : State) (m : FMsg), s.serving ∧ s.takeLead 0x02 = some (m, t) ∧ t.noCommit ∧ ((leAt m.data 0 4 = 0 ∨ leAt m.data 0 4 = t.rd rCfgShadowGen)) ∧ t.checkSet t.candidate (List.range 14) = none ∧ t.power.base ≠ .heel) ∧
    (∃ (s : State) (tag : Nat) (b : Bool), s.serving ∧ s.cfg.waiting = some (tag, b) ∧ s.fenceIdle) ∧
    (∃ (s : State) (m : FMsg), s.atLead 0x03 m ∧ s.cfg.waiting = none ∧ s.fenceIdle) ∧
    (∃ (s : State) (m : FMsg) (src : OpSrc) (tag : Nat), s.atK 0x04 m ∧ s.fromI3c m.tag tag src) ∧
    (∃ (s : State) (m : FMsg), s.atK 0x05 m ∧ byteAt m.data 1 = 2) ∧
    (∃ (s : State) (m : FMsg) (c : CfgSet), s.atK 0x05 m ∧ byteAt m.data 1 = 0 ∧ byteAt m.data 0 ≤ 13 ∧ byteAt m.data 0 ≠ secDir ∧ leAt m.data 8 4 = 1 ∧ m.data.length = 12 + recSize (byteAt m.data 0) ∧ s.cfg.incoming = some c) ∧
    (∃ (s : State) (m : FMsg) (c : CfgSet), s.atK 0x05 m ∧ byteAt m.data 1 = 3 ∧ s.cfg.incoming = some c) ∧
    (∃ (s : State) (c : CfgSet) (t : List Persist) (src : OpSrc) (tag : Nat) (d : Bytes) (rest : List (OpSrc × Nat × Bytes)) (ok : Bool), s.operating ∧ s.norFree = true ∧ s.cfg.persisting = .image c :: t ∧ s.cfg.half0.valid = false ∧ s.keeper.commits = (src, tag, d) :: rest ∧ src.chan = 1) ∧
    (∃ (s : State) (m : FMsg) (src : OpSrc) (tag : Nat), s.atK 0x19 m ∧ s.fromI3c m.tag tag src) :=
  ⟨⟨toSv 1 (cfgPay 7 0 2 1 ([2, 0, 0, 0, 3, 9] ++ zeros 26)) sv, frontS (toSv 1 (cfgPay 7 0 2 1 ([2, 0, 0, 0, 3, 9] ++ zeros 26)) sv), (applyPayload set1 7 0 2 [[2, 0, 0, 0, 3, 9] ++ zeros 26]).getD set1, by decide +kernel⟩,
   ⟨toSv 1 (cfgPay 8 1 1 0 []) sv, frontS (toSv 1 (cfgPay 8 1 1 0 []) sv), by decide +kernel⟩,
   ⟨toSv 2 (leBytes 4 9 ++ [0]) sv, frontS (toSv 2 (leBytes 4 9 ++ [0]) sv), by decide +kernel⟩,
   ⟨toSv 2 (zeros 5) (sv.setCfg { cfS.cfg with shadow := { goodSet with recs := [] } }), (lead 0x02 (toSv 2 (zeros 5) (sv.setCfg { cfS.cfg with shadow := { goodSet with recs := [] } }))).2, (lead 0x02 (toSv 2 (zeros 5) (sv.setCfg { cfS.cfg with shadow := { goodSet with recs := [] } }))).1, (((lead 0x02 (toSv 2 (zeros 5) (sv.setCfg { cfS.cfg with shadow := { goodSet with recs := [] } }))).2).checkSet ((lead 0x02 (toSv 2 (zeros 5) (sv.setCfg { cfS.cfg with shadow := { goodSet with recs := [] } }))).2).candidate (List.range 14)).getD (0, 0, 0) |>.1, (((lead 0x02 (toSv 2 (zeros 5) (sv.setCfg { cfS.cfg with shadow := { goodSet with recs := [] } }))).2).checkSet ((lead 0x02 (toSv 2 (zeros 5) (sv.setCfg { cfS.cfg with shadow := { goodSet with recs := [] } }))).2).candidate (List.range 14)).getD (0, 0, 0) |>.2.1, (((lead 0x02 (toSv 2 (zeros 5) (sv.setCfg { cfS.cfg with shadow := { goodSet with recs := [] } }))).2).checkSet ((lead 0x02 (toSv 2 (zeros 5) (sv.setCfg { cfS.cfg with shadow := { goodSet with recs := [] } }))).2).candidate (List.range 14)).getD (0, 0, 0) |>.2.2, by decide +kernel⟩,
   ⟨toSv 2 (zeros 5) cfS, (lead 0x02 (toSv 2 (zeros 5) cfS)).2, (lead 0x02 (toSv 2 (zeros 5) cfS)).1, by decide +kernel⟩,
   ⟨sv.setCfg { sv.cfg with waiting := some (4, true) }, 4, true, by decide +kernel⟩,
   ⟨toSv 3 [] sv, frontS (toSv 3 [] sv), by decide +kernel⟩,
   ⟨toKp 0x04 ([0, 1, 0, 0] ++ zeros 12) (sv), frontK (toKp 0x04 ([0, 1, 0, 0] ++ zeros 12) (sv)), i3cSrc, 77, by decide +kernel⟩,
   ⟨toKp 0x05 (cfgPay 0 2 3 0 []) (sv), frontK (toKp 0x05 (cfgPay 0 2 3 0 []) (sv)), by decide +kernel⟩,
   ⟨toKp 0x05 (cfgPay 7 0 2 1 ([2, 0, 0, 0, 3, 9] ++ zeros 26)) (sv.setCfg { sv.cfg with incoming := some set1 }), frontK (toKp 0x05 (cfgPay 7 0 2 1 ([2, 0, 0, 0, 3, 9] ++ zeros 26)) (sv.setCfg { sv.cfg with incoming := some set1 })), set1, by decide +kernel⟩,
   ⟨toKp 0x05 (cfgPay 0 3 0 0 []) (sv.setCfg { sv.cfg with incoming := some set1 }), frontK (toKp 0x05 (cfgPay 0 3 0 0 []) (sv.setCfg { sv.cfg with incoming := some set1 })), set1, by decide +kernel⟩,
   ⟨(sv.setCfg { sv.cfg with persisting := [.image set1] }).setKeeper { sv.keeper with commits := [(i3cSrc, 77, zeros 16)] }, set1, [], i3cSrc, 77, zeros 16, [], true, by decide +kernel⟩,
   ⟨toKp 0x19 (zeros 20) (sv), frontK (toKp 0x19 (zeros 20) (sv)), i3cSrc, 77, by decide +kernel⟩⟩
theorem witness_LoadMessageResults :
    (∃ (s : State) (m : FMsg), s.atS 0x20 m ∧ (s.th 0).run = false ∧ leAt m.data 0 4 % 32 = 0 ∧ leAt m.data 0 4 + 32 ≤ 0x10000 ∧ bit (byteAt m.data 4) 0 = false) ∧
    (∃ (s : State) (m : FMsg) (a : Nat), s.atS 0x20 m ∧ (s.th 0).run = false ∧ leAt m.data 0 4 = 2 ^ 31 + a ∧ a % 32 = 0 ∧ a + 32 ≤ 0x20000 ∧ bit (byteAt m.data 4) 0 = true) ∧
    (∃ (s : State) (m : FMsg), s.atS 0x20 m ∧ (s.th 0).run = true ∧ s.fenceIdle) ∧
    (∃ (s : State) (m : FMsg), s.atLead 0x21 m ∧ leAt m.data 0 4 % 32 = 0 ∧ leAt m.data 0 4 < 16384 ∧ leAt m.data 0 4 = (if leAt m.data 0 4 = 0 then 0 else s.tricks.handlerIn.length) ∧ bit (byteAt m.data 4) 0 = false) ∧
    (∃ (s : State) (m : FMsg), s.atLead 0x21 m ∧ leAt m.data 0 4 % 32 = 0 ∧ leAt m.data 0 4 < 16384 ∧ leAt m.data 0 4 = s.tricks.handlerIn.length ∧ bit (byteAt m.data 4) 0 = true ∧ s.fenceIdle ∧ s.power.step ≠ 7) ∧
    (∃ (s : State) (t : State) (m : FMsg) (w : Nat), s.serving ∧ s.takeLead 0x22 = some (m, t) ∧ t.verifyTrick m.data = (0, w) ∧ t.fenceIdle ∧ s.power.step ≠ 7) ∧
    (∃ (s : State) (t : State) (m : FMsg) (code : Nat) (w : Nat), s.serving ∧ s.takeLead 0x22 = some (m, t) ∧ t.verifyTrick m.data = (code, w) ∧ code ≠ 0 ∧ t.fenceIdle ∧ s.power.step ≠ 7) ∧
    (∃ (s : State) (m : FMsg) (x : Trick), s.atLead 0x23 m ∧ mget s.tricks.slots (byteAt m.data 0) = some x ∧ x.tenant = leAt m.data 2 2 ∧ s.fenceIdle) ∧
    (∃ (s : State) (m : FMsg) (x : Trick), s.atLead 0x23 m ∧ mget s.tricks.slots (byteAt m.data 0) = some x ∧ x.tenant ≠ leAt m.data 2 2 ∧ s.fenceIdle) ∧
    (∃ (s : State) (m : FMsg) (src : OpSrc) (tag : Nat) (b : Bytes), s.atK 0x24 m ∧ s.fromI3c m.tag tag src ∧ byteAt m.data 1 = 0 ∧ byteAt m.data 0 = 1 ∧ mget s.keeper.loading (byteAt m.data 2) = some b) ∧
    (∃ (s : State) (m : FMsg) (src : OpSrc) (tag : Nat), s.atK 0x24 m ∧ s.fromI3c m.tag tag src ∧ byteAt m.data 1 ≠ 0) ∧
    (∃ (s : State) (m : FMsg), s.atS 0x31 m) ∧
    (∃ (s : State) (m : FMsg) (a : Bytes) (p : Nat), s.atK 0x32 m ∧ s.keeper.lastSrc = some (a, p)) ∧
    (∃ (s : State), s.operating ∧ s.svUp = true ∧ s.keeper.heartbeats = true ∧ 1 ≤ s.power.step ∧ s.fenceIdle ∧ s.noKept) ∧
    (∃ (s : State), s.operating ∧ s.svUp = true ∧ s.keeper.heartbeats = true ∧ s.power.brace = false ∧ s.power.fault = false ∧ s.keeper.running = true) :=
  ⟨⟨toSv 0x20 (leBytes 4 (64) ++ [0, 0, 0, 0] ++ List.replicate 32 9) (sv), frontS (toSv 0x20 (leBytes 4 (64) ++ [0, 0, 0, 0] ++ List.replicate 32 9) (sv)), by decide +kernel⟩,
   ⟨toSv 0x20 (leBytes 4 (2 ^ 31 + 32) ++ [1, 0, 0, 0] ++ List.replicate 32 9) (sv), frontS (toSv 0x20 (leBytes 4 (2 ^ 31 + 32) ++ [1, 0, 0, 0] ++ List.replicate 32 9) (sv)), 32, by decide +kernel⟩,
   ⟨toSv 0x20 (leBytes 4 (64) ++ [0, 0, 0, 0] ++ List.replicate 32 9) (sv.setTh 0 { Thread.reset with run := true }), frontS (toSv 0x20 (leBytes 4 (64) ++ [0, 0, 0, 0] ++ List.replicate 32 9) (sv.setTh 0 { Thread.reset with run := true })), by decide +kernel⟩,
   ⟨toSv 0x21 (leBytes 4 (0) ++ [0, 0, 0, 0] ++ List.replicate 32 9) (sv), frontS (toSv 0x21 (leBytes 4 (0) ++ [0, 0, 0, 0] ++ List.replicate 32 9) (sv)), by decide +kernel⟩,
   ⟨toSv 0x21 (leBytes 4 (32) ++ [1, 0, 0, 0] ++ List.replicate 32 9) (sv.setTricks { sv.tricks with handlerIn := List.replicate 32 4 }), frontS (toSv 0x21 (leBytes 4 (32) ++ [1, 0, 0, 0] ++ List.replicate 32 9) (sv.setTricks { sv.tricks with handlerIn := List.replicate 32 4 })), by decide +kernel⟩,
   ⟨toSv 0x22 trkImg sv, (lead 0x22 (toSv 0x22 trkImg sv)).2, (lead 0x22 (toSv 0x22 trkImg sv)).1, (((lead 0x22 (toSv 0x22 trkImg sv)).2).verifyTrick ((lead 0x22 (toSv 0x22 trkImg sv)).1).data).2, by decide +kernel⟩,
   ⟨toSv 0x22 (zeros 32) sv, (lead 0x22 (toSv 0x22 (zeros 32) sv)).2, (lead 0x22 (toSv 0x22 (zeros 32) sv)).1, (((lead 0x22 (toSv 0x22 (zeros 32) sv)).2).verifyTrick ((lead 0x22 (toSv 0x22 (zeros 32) sv)).1).data).1, (((lead 0x22 (toSv 0x22 (zeros 32) sv)).2).verifyTrick ((lead 0x22 (toSv 0x22 (zeros 32) sv)).1).data).2, by decide +kernel⟩,
   ⟨toSv 0x23 [0, 0, 0, 0] (sv.setTricks { sv.tricks with slots := [(0, trk1), (1, trk1)] }), frontS (toSv 0x23 [0, 0, 0, 0] (sv.setTricks { sv.tricks with slots := [(0, trk1), (1, trk1)] })), trk1, by decide +kernel⟩,
   ⟨toSv 0x23 [0, 0, 1, 0] (sv.setTricks { sv.tricks with slots := [(0, trk1), (1, trk1)] }), frontS (toSv 0x23 [0, 0, 1, 0] (sv.setTricks { sv.tricks with slots := [(0, trk1), (1, trk1)] })), trk1, by decide +kernel⟩,
   ⟨toKp 0x24 ([1, 0, 2, 0] ++ zeros 4) (sv.setKeeper { sv.keeper with loading := [(2, [7])] }), frontK (toKp 0x24 ([1, 0, 2, 0] ++ zeros 4) (sv.setKeeper { sv.keeper with loading := [(2, [7])] })), i3cSrc, 77, [7], by decide +kernel⟩,
   ⟨toKp 0x24 ([1, 3, 2, 0] ++ zeros 4) (sv), frontK (toKp 0x24 ([1, 3, 2, 0] ++ zeros 4) (sv)), i3cSrc, 77, by decide +kernel⟩,
   ⟨toSv 0x31 [5, 1, 6, 1] sv, frontS (toSv 0x31 [5, 1, 6, 1] sv), by decide +kernel⟩,
   ⟨toKp 0x32 ([9, 7, 8, 0] ++ zeros 12) (sv.setKeeper { sv.keeper with lastSrc := some (mapped [10, 0, 0, 9], 9000) }), frontK (toKp 0x32 ([9, 7, 8, 0] ++ zeros 12) (sv.setKeeper { sv.keeper with lastSrc := some (mapped [10, 0, 0, 9], 9000) })), mapped [10, 0, 0, 9], 9000, by decide +kernel⟩,
   ⟨sv.setKeeper { sv.keeper with heartbeats := true }, by decide +kernel⟩,
   ⟨sv.setKeeper { sv.keeper with heartbeats := true }, by decide +kernel⟩⟩
theorem witness_TimeAndDiagnosticResults :
    (∃ (s : State) (m : FMsg), s.atLead 0x40 m) ∧
    (∃ (s : State) (m : FMsg), s.atLead 0x41 m) ∧
    (∃ (s : State) (m : FMsg) (p : Fin 2), s.atS 0x42 m ∧ byteAt m.data 0 % 2 = p ∧ s.portTakes p = true) ∧
    (∃ (s : State) (m : FMsg) (p : Fin 2), s.atS 0x42 m ∧ byteAt m.data 0 % 2 = p ∧ s.portTakes p = false) ∧
    (∃ (s : State) (m : FMsg) (rest : List FPart), s.operating ∧ frontMsg s.fence.toK = some (m, rest) ∧ s.fence.waiting = [] ∧ s.noKept ∧ m.typ = 0x43 ∧ 24 ≤ m.data.length) ∧
    (∃ (s : State) (m : FMsg) (rest : List FPart), s.operating ∧ frontMsg s.fence.toK = some (m, rest) ∧ s.fence.waiting = [] ∧ s.noKept ∧ m.typ = 0x45 ∧ 144 ≤ m.data.length) ∧
    (∃ (s : State) (p : Fin 2) (e : TsEnt) (t : List TsEnt), s.serving ∧ (s.port p).ts = e :: t ∧ s.fenceIdle) ∧
    (∃ (s : State) (p : Fin 2) (m : TsMark), s.serving ∧ (s.port p).ts = [] ∧ (s.port p).mark = some m ∧ s.fenceIdle) ∧
    (∃ (s : State) (t : State) (m : FMsg) (a : Nat) (n : Nat), s.serving ∧ s.takeS 0x50 = some (m, t) ∧ leAt m.data 0 4 = a ∧ byteAt m.data 4 = n ∧ 1 ≤ n ∧ n ≤ 10 ∧ a % 4 = 0 ∧ ((List.range n).all fun i => diagAllowed (a + 4 * i)) = true ∧ t.fenceIdle) ∧
    (∃ (s : State) (t : State) (m : FMsg) (a : Nat) (n : Nat), s.corrupt = false ∧ s.svPresent = true ∧ s.takeS 0x50 = some (m, t) ∧ leAt m.data 0 4 = a ∧ byteAt m.data 4 = n ∧ 1 ≤ n ∧ n ≤ 10 ∧ a % 4 = 0 ∧ t.fenceIdle ∧ ((List.range n).all fun i => diagAllowed (a + 4 * i)) = false) ∧
    (∃ (s : State) (t : State) (m : FMsg) (a : Nat) (n : Nat), s.corrupt = false ∧ s.svPresent = true ∧ s.takeS 0x50 = some (m, t) ∧ leAt m.data 0 4 = a ∧ byteAt m.data 4 = n ∧ 1 ≤ n ∧ n ≤ 10 ∧ a % 4 = 0 ∧ t.fenceIdle ∧ ((List.range n).all fun i => diagAllowed (a + 4 * i)) = true ∧ s.svUp = false) ∧
    (∃ (s : State) (m : FMsg) (src : OpSrc) (tag : Nat), s.atK 0x51 m ∧ s.fromI3c m.tag tag src) ∧
    (∃ (s : State) (m : FMsg), s.atK 0x60 m ∧ m.data.length = 32 ∧ s.appends ∧ isAlarm (leAt m.data 0 2) = false ∧ s.repeats (leAt m.data 0 2) (sourceOf (leAt m.data 2 2)) (slice m.data 16 16) = false) ∧
    (∃ (s : State) (m : FMsg), s.atK 0x60 m ∧ m.data.length = 32 ∧ s.appends ∧ s.repeats (leAt m.data 0 2) (sourceOf (leAt m.data 2 2)) (slice m.data 16 16) = true) ∧
    (∃ (s : State) (m : FMsg), s.atK 0x61 m ∧ m.data.length = 32 ∧ s.appends ∧ isAlarm (leAt m.data 0 2) = true ∧ s.repeats (leAt m.data 0 2) (sourceOf (leAt m.data 2 2)) (slice m.data 16 16) = false) :=
  ⟨⟨toSv 0x40 (leBytes 8 0x123456789) sv, frontS (toSv 0x40 (leBytes 8 0x123456789) sv), by decide +kernel⟩,
   ⟨toSv 0x41 (leBytes 4 77) sv, frontS (toSv 0x41 (leBytes 4 77) sv), by decide +kernel⟩,
   ⟨toSv 0x42 ([0, 5] ++ leBytes 2 9 ++ [1, 0] ++ leBytes 2 60 ++ List.replicate 60 3) (txS), frontS (toSv 0x42 ([0, 5] ++ leBytes 2 9 ++ [1, 0] ++ leBytes 2 60 ++ List.replicate 60 3) (txS)), 0, by decide +kernel⟩,
   ⟨toSv 0x42 ([0, 5] ++ leBytes 2 9 ++ [1, 0] ++ leBytes 2 60 ++ List.replicate 60 3) (sv), frontS (toSv 0x42 ([0, 5] ++ leBytes 2 9 ++ [1, 0] ++ leBytes 2 60 ++ List.replicate 60 3) (sv)), 0, by decide +kernel⟩,
   ⟨toKp 0x43 (zeros 24) (sv), frontK (toKp 0x43 (zeros 24) (sv)), [], by decide +kernel⟩,
   ⟨toKp 0x45 (zeros 144) (sv), frontK (toKp 0x45 (zeros 144) (sv)), [], by decide +kernel⟩,
   ⟨sv.setPort 0 { sv.port 0 with ts := [{ ns := 5, frac := 6, seqId := 7 }] }, 0, { ns := 5, frac := 6, seqId := 7 }, [], by decide +kernel⟩,
   ⟨sv.setPort 0 { sv.port 0 with mark := some { ns := 5, first := 6, last := 7, count := 8 } }, 0, { ns := 5, first := 6, last := 7, count := 8 }, by decide +kernel⟩,
   ⟨toSv 0x50 (leBytes 4 0x10500000 ++ [2, 0, 0, 0]) (sv), (front 0x50 (toSv 0x50 (leBytes 4 0x10500000 ++ [2, 0, 0, 0]) (sv))).2, (front 0x50 (toSv 0x50 (leBytes 4 0x10500000 ++ [2, 0, 0, 0]) (sv))).1, 0x10500000, 2, by decide +kernel⟩,
   ⟨toSv 0x50 (leBytes 4 0x20000 ++ [1, 0, 0, 0]) (sv), (front 0x50 (toSv 0x50 (leBytes 4 0x20000 ++ [1, 0, 0, 0]) (sv))).2, (front 0x50 (toSv 0x50 (leBytes 4 0x20000 ++ [1, 0, 0, 0]) (sv))).1, 0x20000, 1, by decide +kernel⟩,
   ⟨{ (toSv 0x50 (leBytes 4 0x10500000 ++ [1, 0, 0, 0]) (sv)) with power := { sv.power with fault := false, svRstOut := true, stopped := true } }, (front 0x50 ({ (toSv 0x50 (leBytes 4 0x10500000 ++ [1, 0, 0, 0]) (sv)) with power := { sv.power with fault := false, svRstOut := true, stopped := true } })).2, (front 0x50 ({ (toSv 0x50 (leBytes 4 0x10500000 ++ [1, 0, 0, 0]) (sv)) with power := { sv.power with fault := false, svRstOut := true, stopped := true } })).1, 0x10500000, 1, by decide +kernel⟩,
   ⟨toKp 0x51 (zeros 48) (sv), frontK (toKp 0x51 (zeros 48) (sv)), i3cSrc, 77, by decide +kernel⟩,
   ⟨toKp 0x60 (leBytes 2 0x0105 ++ leBytes 2 0x41 ++ leBytes 4 3 ++ zeros 8 ++ List.replicate 16 7) (trlS), frontK (toKp 0x60 (leBytes 2 0x0105 ++ leBytes 2 0x41 ++ leBytes 4 3 ++ zeros 8 ++ List.replicate 16 7) (trlS)), by decide +kernel⟩,
   ⟨toKp 0x60 (leBytes 2 0x0105 ++ leBytes 2 0x41 ++ leBytes 4 3 ++ zeros 8 ++ List.replicate 16 7) ((nxt (execEvent (toKp 0x60 (leBytes 2 0x0105 ++ leBytes 2 0x41 ++ leBytes 4 3 ++ zeros 8 ++ List.replicate 16 7) (trlS))))), frontK (toKp 0x60 (leBytes 2 0x0105 ++ leBytes 2 0x41 ++ leBytes 4 3 ++ zeros 8 ++ List.replicate 16 7) ((nxt (execEvent (toKp 0x60 (leBytes 2 0x0105 ++ leBytes 2 0x41 ++ leBytes 4 3 ++ zeros 8 ++ List.replicate 16 7) (trlS)))))), by decide +kernel⟩,
   ⟨toKp 0x61 (leBytes 2 0x0402 ++ leBytes 2 0x41 ++ leBytes 4 3 ++ zeros 8 ++ List.replicate 16 7) (trlS), frontK (toKp 0x61 (leBytes 2 0x0402 ++ leBytes 2 0x41 ++ leBytes 4 3 ++ zeros 8 ++ List.replicate 16 7) (trlS)), by decide +kernel⟩⟩
theorem witness_FenceAndKeeperResults :
    (∃ (s : State), s.operating ∧ s.flag 0x20000 0 = true ∧ s.svPresent = true ∧ s.fence.toS.length < 64) ∧
    (∃ (s : State), s.operating ∧ s.flag 0x20000 0 = true ∧ s.svPresent = true ∧ 64 ≤ s.fence.toS.length) ∧
    (∃ (s : State), s.operating ∧ s.flag 0x20000 0 = true ∧ s.svPresent = false) ∧
    (∃ (s : State) (p : FPart) (t : List FPart), s.operating ∧ s.fence.toK = p :: t ∧ s.fence.waiting = [] ∧ s.noKept) ∧
    (∃ (s : State) (h : Nat), s.corrupt = false ∧ s.fence.hold = some h ∧ s.fence.waiting = [] ∧ s.noKept) ∧
    (∃ (s : State) (r : Nat) (n : Nat) (p : FPart), s.operating ∧ badFront typesToK minLenK s.fence.toK = some (r, p, n) ∧ s.takeK 0x7E = none ∧ s.svPresent = true ∧ s.fence.toS.length < 64 ∧ s.keeper.outQ = [] ∧ s.fence.waiting = [] ∧ s.noKept) ∧
    (∃ (s : State) (p : FPart) (t : List FPart) (readable : Bool), s.operating ∧ s.fence.toK = p :: t ∧ s.svPresent = true ∧ s.fence.toS.length < 64 ∧ s.keeper.outQ = [] ∧ s.fence.waiting = [] ∧ s.noKept) ∧
    (∃ (s : State) (r : Nat) (n : Nat) (p : FPart), s.serving ∧ badFront typesToS minLenS s.fence.toS = some (r, p, n) ∧ s.takeLead 0x7E = none ∧ s.fenceIdle) ∧
    (∃ (s : State) (p : FPart) (t : List FPart) (readable : Bool), s.serving ∧ s.fence.toS = p :: t ∧ s.fenceIdle) ∧
    (∃ (s : State) (id : Nat) (f : Frame) (x : Session) (op : OpReq), s.atTurn id opImage f x op ∧ isOperator x = true ∧ f.ops.length = 1 ∧ op.ns = 0 ∧ op.key = [] ∧ s.fenceIdle) ∧
    (∃ (s : State) (id : Nat) (f : Frame) (x : Session) (op : OpReq), s.atTurn id opImage f x op ∧ isOperator x = false) ∧
    (∃ (s : State) (m : FMsg), s.atK 0x70 m ∧ s.keeper.running = true ∧ s.keeper.inbox = [] ∧ s.imgKnown (leAt m.data 8 8) = true) ∧
    (∃ (s : State) (m : FMsg) (id : Nat) (f : Frame) (op : OpReq), s.atLead 0x71 m ∧ s.frame id = some f ∧ f.op = some op ∧ (s.ft.frames.find? fun e => e.2.sess = leAt m.data 0 2 && e.2.seq = leAt m.data 4 4 && e.2.waits == some 4 && e.2.isClient) = some (id, f)) ∧
    (∃ (s : State) (t : State) (m : OpMsg), s.operating ∧ s.takeOwn 0x80 = some (m, t) ∧ t.keeperIdle ∧ m.src.chan = 1 ∧ 1 ≤ byteAt m.data 4 ∧ byteAt m.data 4 ≤ 10) ∧
    (∃ (s : State) (t : State) (m : OpMsg), s.operating ∧ s.takeOwn 0x80 = some (m, t) ∧ t.keeperIdle ∧ m.src.chan = 1 ∧ ((byteAt m.data 4 = 0 ∨ 10 < byteAt m.data 4))) ∧
    (∃ (s : State) (b : Bytes), s.operating ∧ s.flag 0x58000 0 = true ∧ s.keeper.running = true ∧ s.keeperIdle ∧ s.keeper.i3cParts = [] ∧ recAccess s.keeper.rcd = 2 ∧ s.flag 0x58000 1 = false ∧ b.length = 64 ∧ byteAt b 6 = 0x80 ∧ byteAt b 8 = 3 ∧ byteAt b 9 = 0 ∧ 5 ≤ byteAt b 10 ∧ byteAt b 10 ≤ 48 ∧ leAt b 16 4 = 0x10018 ∧ byteAt b 20 = 1) ∧
    (∃ (s : State) (t : State) (w : State) (m : OpMsg) (i : WriteIn), s.operating ∧ s.takeOwn 0x81 = some (m, t) ∧ leAt m.data 0 4 < 0x10000000 ∧ w = (t.keeperReply m.src m.tag 0 (leAt m.data 0 4) []).writeReg i (leAt m.data 0 4) (leAt m.data 4 4) ∧ w.keeperIdle) ∧
    (∃ (s : State) (t : State) (m : OpMsg) (i : WriteIn), s.operating ∧ s.takeOwn 0x81 = some (m, t) ∧ 0x10000000 ≤ leAt m.data 0 4 ∧ t.keeperIdle ∧ m.src.chan = 1) ∧
    (∃ (s : State) (t : State) (m : OpMsg), s.operating ∧ s.takeOwn 0x82 = some (m, t) ∧ t.keeperIdle) ∧
    (∃ (s : State), s.operating ∧ s.flag 0x58000 0 = true) ∧
    (∃ (s : State) (da : BitVec 7), s.operating ∧ s.flag 0x58000 0 = true ∧ s.flag 0x58000 1 = false) ∧
    (∃ (s : State), s.operating) ∧
    (∃ (s : State) (i : RomIn), s.operating ∧ s.flag 0x10 31 = true) ∧
    (∃ (s : State) (raw : Bytes), s.operating ∧ s.flag 0x50000 0 = true ∧ s.flag 0x50004 0 = true ∧ s.mgtDepth = 0 ∧ raw.length < 64 ∧ s.keeper.inbox = [] ∧ s.net.mgtRing = []) ∧
    (∃ (s : State) (raw : Bytes), s.operating ∧ s.flag 0x50000 0 = true ∧ s.flag 0x50004 0 = true ∧ s.mgtDepth = 0 ∧ 64 ≤ raw.length ∧ raw.length ≤ 1522 ∧ beAt raw 0 6 = s.c64 0x50008 % 2 ^ 48 ∧ s.net.mgtRing.length < 32 ∧ s.keeper.running = false ∧ s.power.base ≠ .recovery) ∧
    (∃ (s : State) (raw : Bytes) (tpa : Bytes), s.operating ∧ s.flag 0x50000 0 = true ∧ s.flag 0x50004 0 = true ∧ s.mgtDepth = 0 ∧ raw.length = 64 ∧ beAt raw 0 6 = 2 ^ 48 - 1 ∧ beAt raw 12 2 = 0x0806 ∧ isArpNd raw = true ∧ beAt raw 20 2 = 1 ∧ tpa = slice raw 38 4 ∧ s.mgtAddrs.contains (mapped tpa) = true ∧ s.keeper.running = true ∧ s.keeperIdle) :=
  ⟨⟨fenS, by decide +kernel⟩,
   ⟨fenS.setFence { fenS.fence with toS := List.replicate 64 badPart }, by decide +kernel⟩,
   ⟨{ fenS with power := { sv.power with svRstOut := false } }, by decide +kernel⟩,
   ⟨sv.setFence { sv.fence with toK := [badPart] }, badPart, [], by decide +kernel⟩,
   ⟨sv.setFence { sv.fence with hold := some 0x41 }, 0x41, by decide +kernel⟩,
   ⟨sv.setFence { sv.fence with toK := [badPart] }, 1, 1, badPart, by decide +kernel⟩,
   ⟨sv.setFence { sv.fence with toK := [badPart] }, badPart, [], true, by decide +kernel⟩,
   ⟨sv.setFence { sv.fence with toS := [badPart] }, 1, 1, badPart, by decide +kernel⟩,
   ⟨sv.setFence { sv.fence with toS := [badPart] }, badPart, [], false, by decide +kernel⟩,
   ⟨onOpr imgOp, 3, frm [imgOp], se, imgOp, by decide +kernel⟩,
   ⟨withFrame sv { se with rights := 1 } (frm [imgOp]), 3, frm [imgOp], { se with rights := 1 }, imgOp, by decide +kernel⟩,
   ⟨toKp 0x70 (leBytes 2 5 ++ zeros 2 ++ leBytes 4 1 ++ leBytes 8 (3 * 2 ^ 56) ++ leBytes 2 2 ++ zeros 6 ++ [1, 2]) (sv), frontK (toKp 0x70 (leBytes 2 5 ++ zeros 2 ++ leBytes 4 1 ++ leBytes 8 (3 * 2 ^ 56) ++ leBytes 2 2 ++ zeros 6 ++ [1, 2]) (sv)), by decide +kernel⟩,
   ⟨toSv 0x71 (leBytes 2 5 ++ zeros 2 ++ leBytes 4 1 ++ zeros 8 ++ leBytes 8 99 ++ leBytes 2 1 ++ zeros 6 ++ [7]) waitImg, frontS (toSv 0x71 (leBytes 2 5 ++ zeros 2 ++ leBytes 4 1 ++ zeros 8 ++ leBytes 8 99 ++ leBytes 2 1 ++ zeros 6 ++ [7]) waitImg), 3, { frm [imgOp] with waits := some 4 }, imgOp, by decide +kernel⟩,
   ⟨inbox 0x80 0 (leBytes 4 0x10018 ++ [1]) sv, (own 0x80 (inbox 0x80 0 (leBytes 4 0x10018 ++ [1]) sv)).2, (own 0x80 (inbox 0x80 0 (leBytes 4 0x10018 ++ [1]) sv)).1, by decide +kernel⟩,
   ⟨inbox 0x80 0 (leBytes 4 0x10018 ++ [0]) sv, (own 0x80 (inbox 0x80 0 (leBytes 4 0x10018 ++ [0]) sv)).2, (own 0x80 (inbox 0x80 0 (leBytes 4 0x10018 ++ [0]) sv)).1, by decide +kernel⟩,
   ⟨i3cS, rdBytes, by decide +kernel⟩,
   ⟨inbox 0x81 0 (leBytes 4 0x20000 ++ leBytes 4 1) sv, (own 0x81 (inbox 0x81 0 (leBytes 4 0x20000 ++ leBytes 4 1) sv)).2, (((own 0x81 (inbox 0x81 0 (leBytes 4 0x20000 ++ leBytes 4 1) sv)).2).keeperReply ((own 0x81 (inbox 0x81 0 (leBytes 4 0x20000 ++ leBytes 4 1) sv)).1).src ((own 0x81 (inbox 0x81 0 (leBytes 4 0x20000 ++ leBytes 4 1) sv)).1).tag 0 0x20000 []).writeReg wrIn 0x20000 1, (own 0x81 (inbox 0x81 0 (leBytes 4 0x20000 ++ leBytes 4 1) sv)).1, wrIn, by decide +kernel⟩,
   ⟨inbox 0x81 0 (leBytes 4 0x10000000 ++ leBytes 4 1) sv, (own 0x81 (inbox 0x81 0 (leBytes 4 0x10000000 ++ leBytes 4 1) sv)).2, (own 0x81 (inbox 0x81 0 (leBytes 4 0x10000000 ++ leBytes 4 1) sv)).1, wrIn, by decide +kernel⟩,
   ⟨inbox 0x82 0 (zeros 64) sv, (own 0x82 (inbox 0x82 0 (zeros 64) sv)).2, (own 0x82 (inbox 0x82 0 (zeros 64) sv)).1, by decide +kernel⟩,
   ⟨i3cS.setKeeper { i3cS.keeper with i3cOut := [[1, 2]] }, by decide +kernel⟩,
   ⟨i3cS, 77, by decide +kernel⟩,
   ⟨sv, by decide +kernel⟩,
   ⟨sv.setFlag 0x10 31 true, romIn, by decide +kernel⟩,
   ⟨mgtS, zeros 60, by decide +kernel⟩,
   ⟨(mgtS.setKeeper { mgtS.keeper with running := false }).setC64 0x50008 0x0B, beBytes 6 0x0B ++ zeros 60, by decide +kernel⟩,
   ⟨mgtS, arpReq, [10, 0, 0, 3], by decide +kernel⟩⟩
theorem witness_ModeRequestResults :
    (∃ (s : State), s.operating ∧ s.power.reqBusy = false ∧ ((s.modeNow = .heel ∨ s.modeNow = .sit)) ∧ s.power.base ≠ .nap ∧ s.serveRefusal = 0) ∧
    (∃ (s : State), s.operating ∧ s.power.reqBusy = false ∧ s.modeNow = .heel ∧ s.serveRefusal ≠ 0) ∧
    (∃ (s : State), s.operating ∧ s.power.reqBusy = false ∧ ((s.modeNow = .boot ∨ s.modeNow = .serve))) ∧
    (∃ (s : State), s.operating ∧ s.power.reqBusy = false ∧ s.power.waking = false ∧ ((s.modeNow = .serve ∨ s.modeNow = .doze))) ∧
    (∃ (s : State) (after : BitVec 4) (wakeTo : BitVec 4), s.operating ∧ s.power.reqBusy = false ∧ s.power.waking = false ∧ ((s.modeNow = .heel ∨ s.modeNow = .serve ∨ s.modeNow = .doze ∨ s.modeNow = .sit)) ∧ ((after = 0 ∨ after = 1 ∨ after = 2 ∨ (after = 5 ∧ (wakeTo = 2 ∨ wakeTo = 3))))) ∧
    (∃ (s : State) (after : BitVec 4) (wakeTo : BitVec 4), s.operating ∧ s.power.reqBusy = false ∧ s.power.waking = false ∧ ((s.modeNow = .heel ∨ s.modeNow = .serve ∨ s.modeNow = .doze ∨ s.modeNow = .sit)) ∧ after ≠ 0 ∧ after ≠ 1 ∧ after ≠ 2 ∧ ((after = 5 → wakeTo ≠ 2 ∧ wakeTo ≠ 3))) ∧
    (∃ (s : State), s.operating ∧ s.modeNow = .drain ∧ s.brace.running = false) ∧
    (∃ (s : State) (i : RomIn), s.corrupt = false ∧ s.modeNow = .drain ∧ s.brace.running = false ∧ s.framesDone = true ∧ s.power.drainAfter = 2) ∧
    (∃ (s : State) (i : RomIn), s.corrupt = false ∧ s.modeNow = .drain ∧ s.brace.running = false ∧ s.framesDone = true ∧ s.power.drainAfter = 5) ∧
    (∃ (s : State) (i : RomIn), s.corrupt = false ∧ s.modeNow = .drain ∧ s.brace.running = false ∧ s.framesDone = true ∧ s.power.drainAfter = 0) ∧
    (∃ (s : State) (i : RomIn), s.corrupt = false ∧ s.modeNow = .drain ∧ s.brace.running = false ∧ s.framesDone = true ∧ s.power.drainAfter = 1) ∧
    (∃ (s : State) (goal : Bool), s.operating ∧ s.power.reqBusy = false ∧ s.power.base = .nap ∧ s.power.brace = false ∧ s.power.waking = false) ∧
    (∃ (s : State) (goal : Bool), s.operating ∧ s.power.base = .nap ∧ s.power.brace = false ∧ s.power.waking = true) ∧
    (∃ (s : State), s.operating ∧ s.power.base = .nap ∧ s.power.brace = false ∧ s.power.waking = false ∧ s.rd 0x10038 ≠ 0) ∧
    (∃ (s : State), s.operating ∧ s.power.reqBusy = false ∧ s.power.waking = false ∧ s.modeNow = .heel ∧ s.flag 0x10028 1 = true ∧ s.flag 0x10000014 3 = true) ∧
    (∃ (s : State), s.operating ∧ s.power.reqBusy = false ∧ s.power.waking = false ∧ s.modeNow = .heel ∧ s.flag 0x10028 1 = false) ∧
    (∃ (s : State), s.operating ∧ s.power.reqBusy = false ∧ s.power.fault = true ∧ s.brace.running = false) ∧
    (∃ (s : State), s.operating ∧ s.power.reqBusy = false ∧ s.modeNow = .test) ∧
    (∃ (s : State), s.operating ∧ s.svPresent = true ∧ s.power.fault = false ∧ s.power.brace = false) ∧
    (∃ (s : State), s.corrupt = false ∧ s.svPresent = true ∧ s.power.fault = false ∧ s.power.brace = false) ∧
    (∃ (s : State), s.corrupt = false ∧ s.svPresent = true ∧ s.power.fault = false ∧ s.power.brace = true ∧ s.brace.running = true ∧ s.brace.pendingFault = none) :=
  ⟨⟨{ (cfS.setCfg { cfS.cfg with active := cfS.candidate }) with power := { (cfS.setCfg { cfS.cfg with active := cfS.candidate }).power with base := .heel } }, by decide +kernel⟩,
   ⟨{ ({ (cfS.setCfg { cfS.cfg with active := cfS.candidate }) with power := { (cfS.setCfg { cfS.cfg with active := cfS.candidate }).power with base := .heel } }) with brace := { sv.brace with codes := [2] } }, by decide +kernel⟩,
   ⟨{ (sv) with power := { (sv).power with base := .boot } }, by decide +kernel⟩,
   ⟨sv, by decide +kernel⟩,
   ⟨sv, 5, 2, by decide +kernel⟩,
   ⟨sv, 3, 0, by decide +kernel⟩,
   ⟨{ (sv) with power := { (sv).power with base := .serve, drain := true, drainAfter := 2, reqBusy := true } }, by decide +kernel⟩,
   ⟨{ (sv) with power := { (sv).power with base := .serve, drain := true, drainAfter := 2, reqBusy := true } }, romIn, by decide +kernel⟩,
   ⟨{ (sv) with power := { (sv).power with base := .serve, drain := true, drainAfter := 5, reqBusy := true } }, romIn, by decide +kernel⟩,
   ⟨{ (sv) with power := { (sv).power with base := .serve, drain := true, drainAfter := 0, reqBusy := true } }, romIn, by decide +kernel⟩,
   ⟨{ (sv) with power := { (sv).power with base := .serve, drain := true, drainAfter := 1, reqBusy := true } }, romIn, by decide +kernel⟩,
   ⟨{ (sv) with power := { (sv).power with base := .nap, stopped := true } }, true, by decide +kernel⟩,
   ⟨{ (sv) with power := { (sv).power with base := .nap, waking := true } }, true, by decide +kernel⟩,
   ⟨({ (sv) with power := { (sv).power with base := .nap, stopped := true, wakeTo := 3 } }).wr 0x10038 50, by decide +kernel⟩,
   ⟨(({ (cfS.setCfg { cfS.cfg with active := cfS.candidate }) with power := { (cfS.setCfg { cfS.cfg with active := cfS.candidate }).power with base := .heel } }).setFlag 0x10028 1 true).setFlag 0x10000014 3 true, by decide +kernel⟩,
   ⟨{ (cfS.setCfg { cfS.cfg with active := cfS.candidate }) with power := { (cfS.setCfg { cfS.cfg with active := cfS.candidate }).power with base := .heel } }, by decide +kernel⟩,
   ⟨{ (sv) with power := { (sv).power with fault := true } }, by decide +kernel⟩,
   ⟨{ (sv) with power := { (sv).power with base := .test } }, by decide +kernel⟩,
   ⟨sv, by decide +kernel⟩,
   ⟨sv, by decide +kernel⟩,
   ⟨{ ({ (sv) with power := { (sv).power with brace := true } }) with brace := { sv.brace with running := true } }, by decide +kernel⟩⟩
theorem witness_PowerAndResetResults :
    (∃ (s : State), s.corrupt = false ∧ s.flag rPwrCtl 0 = true) ∧
    (∃ (s : State), s.corrupt = false ∧ s.power.svPgood = true ∧ s.flag rPwrCtl 0 = true ∧ s.svPresent = true ∧ s.power.fault = false) ∧
    (∃ (s : State), s.corrupt = false ∧ s.flag rPwrCtl 0 = false) ∧
    (∃ (s : State) (pos : BitVec 3) (testEn : Bool) (post : Half) (kat : BitVec 11), s.corrupt = false ∧ s.power.svPgood = true ∧ s.flag rPwrCtl 0 = true ∧ s.flag rPwrCtl 1 = false ∧ s.svPresent = false ∧ s.power.fault = false ∧ s.power.dip = false) ∧
    (∃ (s : State), s.operating ∧ s.power.svPgood = false ∧ s.flag rPwrCtl 0 = true ∧ s.appends ∧ s.repeats 0x104 2 (zeros 16) = false) ∧
    (∃ (s : State), s.operating) ∧
    (∃ (s : State), s.operating ∧ ((s.modeNow = .heel ∨ s.modeNow = .recovery))) ∧
    (∃ (s : State), s.operating ∧ ((s.modeNow = .serve ∨ s.modeNow = .boot ∨ s.modeNow = .drain))) ∧
    (∃ (s : State), s.operating) ∧
    (∃ (s : State), s.operating) ∧
    (∃ (s : State) (i : RomIn), s.operating ∧ s.upd.fuseOp = none) ∧
    (∃ (s : State), s.operating) ∧
    (∃ (s : State), s.upd.fuseOp = none) ∧
    (∃ (s : State), s.power.aon = true ∧ s.power.porstHigh = true ∧ s.upd.fuseOp = none) ∧
    (∃ (s : State) (r : Bool) (t : Bool) (m : Bool) (i : RomIn), s.power.aon = true ∧ s.power.porstHigh = false ∧ s.power.dip = false) ∧
    (∃ (s : State), s.corrupt = false ∧ s.svPresent = true) ∧
    (∃ (s : State) (mv : BitVec 12), s.corrupt = false ∧ s.power.aon = true ∧ s.power.dip = false ∧ mv.toNat < s.fld rPwrReset 11 0) ∧
    (∃ (s : State) (mv : BitVec 12) (i : RomIn), s.corrupt = false ∧ s.power.dip = true ∧ s.svPresent = false ∧ s.okLevel ≤ mv.toNat ∧ s.power.porstHigh = true) :=
  ⟨⟨sv.setFlag rPwrCtl 0 true, by decide +kernel⟩,
   ⟨sv.setFlag rPwrCtl 0 true, by decide +kernel⟩,
   ⟨sv, by decide +kernel⟩,
   ⟨{ ((sv.setFlag rPwrCtl 0 true).setFlag rPwrCtl 1 false) with power := { ((sv.setFlag rPwrCtl 0 true).setFlag rPwrCtl 1 false).power with svRstOut := false } }, 3, true, 7, 0, by decide +kernel⟩,
   ⟨{ ((sv.setFlag rPwrCtl 0 true).setFlag 0x30000 0 true |>.setC64 0x30018 100000) with power := { ((sv.setFlag rPwrCtl 0 true).setFlag 0x30000 0 true |>.setC64 0x30018 100000).power with svPgood := false } }, by decide +kernel⟩,
   ⟨sv, by decide +kernel⟩,
   ⟨{ (cfS.setCfg { cfS.cfg with active := cfS.candidate }) with power := { (cfS.setCfg { cfS.cfg with active := cfS.candidate }).power with base := .heel } }, by decide +kernel⟩,
   ⟨sv, by decide +kernel⟩,
   ⟨sv, by decide +kernel⟩,
   ⟨sv, by decide +kernel⟩,
   ⟨sv, romIn, by decide +kernel⟩,
   ⟨sv, by decide +kernel⟩,
   ⟨sv, by decide +kernel⟩,
   ⟨sv, by decide +kernel⟩,
   ⟨{ (sv) with power := { (sv).power with porstHigh := false } }, true, false, true, romIn, by decide +kernel⟩,
   ⟨sv, by decide +kernel⟩,
   ⟨sv.setFld rPwrReset 11 0 900, 800, by decide +kernel⟩,
   ⟨{ (sv) with power := { (sv).power with dip := true, svRstOut := false } }, 1000, romIn, by decide +kernel⟩⟩
theorem witness_BraceResults :
    (∃ (s : State) (mv : BitVec 12) (pfail : Bool), s.corrupt = false ∧ ((s.modeNow = .heel ∨ s.modeNow = .serve ∨ s.modeNow = .doze ∨ s.modeNow = .sit ∨ s.modeNow = .drain ∨ s.modeNow = .nap)) ∧ (((s.flag rPwrWarn 28 = true ∧ mv.toNat < s.warnLevel) ∨ (s.flag rPwrWarn 29 = true ∧ pfail = true)))) ∧
    (∃ (s : State) (mv : BitVec 12) (pfail : Bool), s.operating ∧ ((s.modeNow = .boot ∨ s.modeNow = .recovery ∨ s.modeNow = .test ∨ s.modeNow = .fault)) ∧ (((s.flag rPwrWarn 28 = true ∧ mv.toNat < s.warnLevel) ∨ (s.flag rPwrWarn 29 = true ∧ pfail = true))) ∧ s.appends ∧ s.repeats 0x101 2 (leBytes 2 mv.toNat ++ leBytes 1 s.modeNow.code ++ zeros 13) = false) ∧
    (∃ (s : State) (mv : BitVec 12), s.corrupt = false ∧ s.okLevel ≤ mv.toNat) ∧
    (∃ (s : State) (i : RomIn), s.corrupt = false ∧ s.brace.running = true ∧ s.drc.change = none ∧ s.power.brace = true ∧ s.power.fault = false ∧ s.brace.pendingFault = none ∧ s.power.base ≠ .nap) ∧
    (∃ (s : State) (i : RomIn), s.corrupt = false ∧ s.brace.running = true ∧ s.drc.change = none ∧ s.power.fault = false ∧ s.power.base ≠ .nap) ∧
    (∃ (s : State) (i : RomIn), s.corrupt = false ∧ s.brace.running = true ∧ s.drc.change = none ∧ s.power.fault = true ∧ s.power.brace = false ∧ s.brace.pendingFault = none ∧ s.fld rPwrFault 7 0 ≠ 5) ∧
    (∃ (s : State) (i : RomIn), s.corrupt = false ∧ s.power.brace = true ∧ s.brace.done = true ∧ s.brace.count.isSome = true ∧ s.power.warn = false ∧ s.power.base ≠ .nap ∧ s.brace.after ≠ 2) ∧
    (∃ (s : State) (i : RomIn), s.corrupt = false ∧ s.power.brace = true ∧ s.brace.done = true ∧ s.brace.count.isSome = true ∧ s.power.warn = false ∧ s.power.base = .nap) :=
  ⟨⟨((sv.setFlag rPwrWarn 28 true).setFld rPwrWarn 11 0 1000).setFlag 0x30000 0 true |>.setC64 0x30018 100000, 900, false, by decide +kernel⟩,
   ⟨{ (((sv.setFlag rPwrWarn 28 true).setFld rPwrWarn 11 0 1000).setFlag 0x30000 0 true |>.setC64 0x30018 100000) with power := { (((sv.setFlag rPwrWarn 28 true).setFld rPwrWarn 11 0 1000).setFlag 0x30000 0 true |>.setC64 0x30018 100000).power with base := .heel, fault := true } }, 900, false, by decide +kernel⟩,
   ⟨sv, 4000, by decide +kernel⟩,
   ⟨{ ({ (sv) with power := { (sv).power with brace := true } }) with brace := { sv.brace with running := true } }, romIn, by decide +kernel⟩,
   ⟨{ (sv) with brace := { sv.brace with running := true } }, romIn, by decide +kernel⟩,
   ⟨{ ({ (sv) with power := { (sv).power with fault := true } }) with brace := { sv.brace with running := true } }, romIn, by decide +kernel⟩,
   ⟨{ ({ (sv) with power := { (sv).power with brace := true } }) with brace := { sv.brace with done := true, count := some 0 } }, romIn, by decide +kernel⟩,
   ⟨{ ({ (sv) with power := { (sv).power with base := .nap, brace := true, stopped := true } }) with brace := { sv.brace with done := true, count := some 0 } }, romIn, by decide +kernel⟩⟩
theorem witness_TrailResults :
    (∃ (s : State) (code : Nat) (src : Nat) (args : Bytes), s.operating ∧ s.appends ∧ code = bits (s.rd 0x30040) 0 16 ∧ src = bits (s.rd 0x30040) 16 7 ∧ args = ((List.range 4).flatMap fun i => leBytes 4 (s.rd (0x30050 + 4 * i))) ∧ s.repeats code src args = false) ∧
    (∃ (s : State), s.operating ∧ s.flag rTrlCtl 0 = false) ∧
    (∃ (s : State), s.operating) ∧
    (∃ (s : State), s.operating ∧ s.norFree = true ∧ s.trail.pos < 16383 ∧ s.trail.due ≠ [] ∧ s.flag rTrlCtl 1 = true ∧ s.flag rTrlStatus 1 = false ∧ s.trail.leaseNext = none ∧ s.trail.cur = 0) ∧
    (∃ (s : State), s.operating ∧ s.norFree = true ∧ s.trail.pos < 16384 ∧ s.trail.due ≠ [] ∧ s.flag rTrlCtl 1 = true ∧ s.flag rTrlStatus 1 = false) ∧
    (∃ (s : State), s.operating ∧ s.norFree = true ∧ 12288 ≤ s.trail.pos ∧ s.trail.pos < 16384 ∧ s.trail.erased < 64 ∧ s.flag rTrlCtl 1 = true ∧ s.flag rTrlStatus 1 = false ∧ s.trail.cur = 0) ∧
    (∃ (s : State) (a : BitVec 19), s.operating) ∧
    (∃ (s : State) (a : BitVec 19), s.operating) ∧
    (∃ (s : State) (a : BitVec 19), s.operating ∧ s.flag rTrlStatus 0 = false) ∧
    (∃ (s : State) (seq : BitVec 48), s.operating) ∧
    (∃ (s : State), s.operating ∧ s.norFree = true ∧ s.trail.looking = true) ∧
    (∃ (s : State) (v : DWord), s.operating ∧ s.leaseFar ∧ s.repeats evClockStep 0 (leBytes 8 (s.c64 rTrlWall) ++ leBytes 8 v.toNat) = false) ∧
    (∃ (s : State), s.operating ∧ s.flag rTrlStatus 1 = true) ∧
    (∃ (s : State), s.operating ∧ s.flag rTrlStatus 1 = true) ∧
    (∃ (s : State), s.operating) :=
  ⟨⟨trlS, bits (trlS.rd 0x30040) 0 16, bits (trlS.rd 0x30040) 16 7, (List.range 4).flatMap fun i => leBytes 4 (trlS.rd (0x30050 + 4 * i)), by decide +kernel⟩,
   ⟨sv.setFlag 0x30000 0 false, by decide +kernel⟩,
   ⟨nxt (execTrlAppGo trlS), by decide +kernel⟩,
   ⟨trlAt 5 0 trl1, by decide +kernel⟩,
   ⟨trlAt 5 0 trl1, by decide +kernel⟩,
   ⟨trlAt 12288 0 trl1, by decide +kernel⟩,
   ⟨trlS, 7, by decide +kernel⟩,
   ⟨trlS, 7, by decide +kernel⟩,
   ⟨trlS, 7, by decide +kernel⟩,
   ⟨trl1, 5, by decide +kernel⟩,
   ⟨trl1.setTrail { trl1.trail with looking := true }, by decide +kernel⟩,
   ⟨trlS, 123456, by decide +kernel⟩,
   ⟨trl1.setFlag 0x30004 1 true, by decide +kernel⟩,
   ⟨trl1.setFlag 0x30004 1 true, by decide +kernel⟩,
   ⟨trl1.setFlag 0x30004 2 true, by decide +kernel⟩⟩
theorem witness_UpdateResults_5 : ∃ (s t : State) (m : OpMsg) (c : Claim) (d : Desc) (k : Area), (s.imgInTurn t m 3 ∧ s.inRecovery = false ∧
    s.upd.claim = some c ∧ c.holder = 1 ∧ s.upd.kennel.desc = some d ∧ c.next = d.length) ∧
    k = { s.upd.kennel with desc := some { d.set 1 with hash := Config.sha384 s.upd.kennel.image } } :=
  ⟨imgIn 3 0 ([]) (updC 800), (own 0x70 (imgIn 3 0 ([]) (updC 800))).2, (own 0x70 (imgIn 3 0 ([]) (updC 800))).1, clm 800, dsc 1, _, by decide +kernel, rfl⟩
theorem witness_UpdateResults :
    (∃ (s : State) (t : State) (m : OpMsg), s.imgInTurn t m 1 ∧ s.upd.claim = none ∧ s.upd.reverting = false ∧ s.upd.inProbation = false ∧ m.data.length = 768) ∧
    (∃ (s : State) (t : State) (m : OpMsg) (c : Claim), s.imgInTurn t m 1 ∧ s.upd.claim = some c ∧ c.holder = 2) ∧
    (∃ (s : State) (t : State) (m : OpMsg) (c : Claim) (d : Desc), s.imgInTurn t m 2 ∧ s.upd.claim = some c ∧ c.holder = 1 ∧ s.upd.kennel.desc = some d ∧ m.data ≠ [] ∧ m.data.length ≤ 1024 ∧ imgOffset m.arg = c.next ∧ c.next + m.data.length ≤ d.length) ∧
    (∃ (s : State) (t : State) (m : OpMsg), s.imgInTurn t m 2 ∧ s.upd.claim = none) ∧
    (∃ (s : State) (t : State) (m : OpMsg) (i : RomIn) (c : Claim) (d : Desc), s.imgInTurn t m 3 ∧ s.upd.claim = some c ∧ c.holder = 1 ∧ s.upd.kennel.desc = some d ∧ c.next ≠ d.length) ∧
    (∃ (s : State) (t : State) (m : OpMsg), s.imgInTurn t m 4 ∧ (s.upd.claim = none ∨ (s.upd.claim.map (·.holder)) = some 1)) ∧
    (∃ (s : State) (t : State) (m : OpMsg), s.imgInTurn t m 5) ∧
    (∃ (s : State) (t : State) (m : OpMsg), s.imgInTurn t m 6 ∧ s.upd.inProbation = true ∧ s.upd.reverting = false ∧ s.upd.bootedBackup = false ∧ s.upd.heelSeen = true) ∧
    (∃ (s : State) (t : State) (m : OpMsg), s.imgInTurn t m 7 ∧ s.upd.active.valid = true ∧ s.upd.active.flag 4 = true ∧ s.upd.active.flag 6 = false) ∧
    (∃ (s : State), s.operating ∧ s.keeper.running = true ∧ s.upd.inProbation = true ∧ s.upd.reverting = false ∧ s.upd.bootedBackup = false ∧ s.upd.heelSeen = true) ∧
    (∃ (s : State) (nor : Bool), s.operating ∧ s.keeper.running = true ∧ s.upd.inProbation = false ∧ s.upd.reverting = false) ∧
    (∃ (s : State), s.operating ∧ s.keeper.running = true ∧ s.upd.active.valid = true ∧ s.upd.active.flag 4 = true ∧ s.upd.active.flag 6 = false) ∧
    (∃ (s : State), s.operating) ∧
    (∃ (s : State) (c : Claim), s.operating ∧ s.upd.claim = some c ∧ s.appends ∧ s.repeats 0x201 3 (leBytes 1 c.holder ++ zeros 3 ++ leBytes 4 c.next ++ zeros 8) = false) ∧
    (∃ (s : State) (p : Nat × Nat), s.operating ∧ s.upd.probation = some p ∧ s.modeNow = .serve ∧ s.power.reqBusy = false ∧ s.power.waking = false) ∧
    (∃ (s : State), s.operating ∧ s.upd.fuseOp = none ∧ s.modeNow = .heel ∧ blankFuse s.upd.fuses.opImage = true) ∧
    (∃ (s : State), s.operating ∧ s.upd.fuseOp = none ∧ s.modeNow = .heel ∧ blankFuse s.upd.fuses.opHandler = true) ∧
    (∃ (s : State), s.operating ∧ s.upd.fuseOp = none ∧ s.modeNow = .heel ∧ blankFuse s.upd.fuses.mgmtKey = true) ∧
    (∃ (s : State), s.operating ∧ s.upd.fuseOp = none ∧ s.modeNow = .heel ∧ blankFuse s.upd.fuses.opImage = false) ∧
    (∃ (s : State) (a : BitVec 2), s.operating ∧ s.upd.fuseOp = none ∧ s.modeNow = .heel ∧ bit s.upd.fuses.revoked a.toNat = false ∧ s.upd.active.valid = false ∧ s.upd.backup.valid = false) ∧
    (∃ (s : State) (a : BitVec 2), s.operating ∧ s.upd.fuseOp = none ∧ s.modeNow ≠ .heel) ∧
    (∃ (s : State) (op : Nat) (a : Nat), s.operating ∧ s.upd.fuseOp = some (op, a)) :=
  ⟨⟨imgIn 1 0 (zeros 768) (Update.reset), (own 0x70 (imgIn 1 0 (zeros 768) (Update.reset))).2, (own 0x70 (imgIn 1 0 (zeros 768) (Update.reset))).1, by decide +kernel⟩,
   ⟨imgIn 1 0 (zeros 768) ({ Update.reset with claim := some { clm 0 with holder := 2 } }), (own 0x70 (imgIn 1 0 (zeros 768) ({ Update.reset with claim := some { clm 0 with holder := 2 } }))).2, (own 0x70 (imgIn 1 0 (zeros 768) ({ Update.reset with claim := some { clm 0 with holder := 2 } }))).1, { clm 0 with holder := 2 }, by decide +kernel⟩,
   ⟨imgIn 2 768 ([1, 2, 3]) (updC 768), (own 0x70 (imgIn 2 768 ([1, 2, 3]) (updC 768))).2, (own 0x70 (imgIn 2 768 ([1, 2, 3]) (updC 768))).1, clm 768, dsc 1, by decide +kernel⟩,
   ⟨imgIn 2 0 ([1]) (Update.reset), (own 0x70 (imgIn 2 0 ([1]) (Update.reset))).2, (own 0x70 (imgIn 2 0 ([1]) (Update.reset))).1, by decide +kernel⟩,
   ⟨imgIn 3 0 ([]) (updC 790), (own 0x70 (imgIn 3 0 ([]) (updC 790))).2, (own 0x70 (imgIn 3 0 ([]) (updC 790))).1, romIn, clm 790, dsc 1, by decide +kernel⟩,
   ⟨imgIn 4 0 ([]) (updC 790), (own 0x70 (imgIn 4 0 ([]) (updC 790))).2, (own 0x70 (imgIn 4 0 ([]) (updC 790))).1, by decide +kernel⟩,
   ⟨imgIn 5 0 ([]) (updP 7), (own 0x70 (imgIn 5 0 ([]) (updP 7))).2, (own 0x70 (imgIn 5 0 ([]) (updP 7))).1, by decide +kernel⟩,
   ⟨imgIn 6 0 ([]) (updP 7), (own 0x70 (imgIn 6 0 ([]) (updP 7))).2, (own 0x70 (imgIn 6 0 ([]) (updP 7))).1, by decide +kernel⟩,
   ⟨imgIn 7 0 ([]) (updP 31), (own 0x70 (imgIn 7 0 ([]) (updP 31))).2, (own 0x70 (imgIn 7 0 ([]) (updP 31))).1, by decide +kernel⟩,
   ⟨sv.setUpd (updP 7), by decide +kernel⟩,
   ⟨sv, true, by decide +kernel⟩,
   ⟨sv.setUpd (updP 31), by decide +kernel⟩,
   ⟨sv, by decide +kernel⟩,
   ⟨(sv.setUpd (updC 790)).setFlag 0x30000 0 true |>.setC64 0x30018 100000, clm 790, by decide +kernel⟩,
   ⟨sv.setUpd { updP 7 with probation := some (0, 100) }, (0, 100), by decide +kernel⟩,
   ⟨hl, by decide +kernel⟩,
   ⟨hl, by decide +kernel⟩,
   ⟨hl, by decide +kernel⟩,
   ⟨hl.setUpd { Update.reset with fuses := { Update.reset.fuses with opImage := List.replicate 48 1 } }, by decide +kernel⟩,
   ⟨hl, 1, by decide +kernel⟩,
   ⟨sv, 1, by decide +kernel⟩,
   ⟨hl.setUpd { Update.reset with fuseOp := some (1, 0) }, 1, 0, by decide +kernel⟩⟩
theorem witness_TestUnitResults :
    (∃ (s : State) (p : Fin 2) (d : BitVec 3) (lane : Fin 4) (b : Byte) (h : Half) (g : BitVec 15), s.serving ∧ s.armed = false) ∧
    (∃ (s : State) (p : Fin 2) (d : BitVec 3) (lane : Fin 4) (b : Byte) (h : Half) (g : BitVec 15), s.serving ∧ s.armed = false) ∧
    (∃ (s : State) (p : Fin 2) (d : BitVec 3) (lane : Fin 4) (b : Byte) (h : Half) (g : BitVec 15), s.serving ∧ s.armed = false) ∧
    (∃ (s : State) (p : Fin 2) (d : BitVec 3) (lane : Fin 4) (b : Byte) (h : Half) (g : BitVec 15), s.serving ∧ s.armed = false) ∧
    (∃ (s : State) (p : Fin 2) (d : BitVec 3) (lane : Fin 4) (b : Byte) (h : Half) (g : BitVec 15), s.serving ∧ s.armed = false) ∧
    (∃ (s : State) (p : Fin 2) (d : BitVec 3) (lane : Fin 4) (b : Byte) (h : Half) (g : BitVec 15), s.serving ∧ s.armed = false) ∧
    (∃ (s : State) (p : Fin 2) (d : BitVec 3), s.serving ∧ s.armed = true ∧ 1 ≤ d.toNat ∧ d.toNat ≤ 4 ∧ s.fld (0x10900010 + 4 * p) 2 0 ≠ d.toNat) ∧
    (∃ (s : State) (p : Fin 2), s.serving ∧ s.armed = true ∧ s.fld (0x10900010 + 4 * p) 2 0 ≠ 0) ∧
    (∃ (s : State) (lane : Fin 4) (d : BitVec 3), s.serving ∧ s.armed = true ∧ ((d = 3 ∨ d = 4)) ∧ s.pckUp = true ∧ s.flag rPckStatus lane = true ∧ s.fld 0x10900018 (4 * lane + 2) (4 * lane) ≠ d.toNat) ∧
    (∃ (s : State) (b : Byte), s.serving ∧ s.armed = true) ∧
    (∃ (s : State) (h : Half), s.serving ∧ s.armed = true) ∧
    (∃ (s : State) (d : BitVec 3) (tm : Byte), s.operating ∧ s.testShown = true ∧ ((d = 2 ∨ d = 3 ∨ d = 4)) ∧ tm ≠ 0) ∧
    (∃ (s : State) (d : BitVec 3) (tm : Byte), s.operating ∧ s.testShown = false) ∧
    (∃ (s : State), s.operating) ∧
    (∃ (s : State), s.operating ∧ s.testShown = true ∧ s.flag 0x200 0 = false) ∧
    (∃ (s : State) (f : BitVec 9), s.operating ∧ s.flag 0x200 0 = true) ∧
    (∃ (s : State) (l : Fin 37), s.corrupt = false ∧ s.laneArmed l = true ∧ s.flag (prbsCtl l) 9 = true ∧ s.patOk l (bits (s.rd (prbsCtl l)) 4 4) = true) ∧
    (∃ (s : State) (l : Fin 37) (errs : DWord) (fail : BitVec 18), s.corrupt = false ∧ s.laneArmed l = true ∧ s.prbsLocked l = true) ∧
    (∃ (s : State) (l : Fin 37), s.corrupt = false ∧ s.laneArmed l = true ∧ s.flag (prbsCtl l) 8 = true ∧ s.patOk l (bits (s.rd (prbsCtl l)) 0 4) = true ∧ s.laneLoops l = true ∧ s.prbsLocked l = true) ∧
    (∃ (s : State) (p : Fin 2), s.serving ∧ s.armed = true ∧ s.flag (fgBase p) 14 = true ∧ s.rd (fgBase p + 4) = 0 ∧ s.portTakes p = true ∧ 64 ≤ s.fld (fgBase p) 13 0 ∧ (s.port p).txRoom (s.fld (fgBase p) 13 0 - 4) = true) ∧
    (∃ (s : State) (g : BitVec 15), s.serving ∧ s.armed = true ∧ s.flag rBistCtl 31 = false ∧ bit g.toNat 14 = false) ∧
    (∃ (s : State) (g : BitVec 15), s.serving ∧ s.armed = true ∧ s.flag rBistCtl 31 = false ∧ bit g.toNat 14 = true) ∧
    (∃ (s : State) (fail : BitVec 15) (a : BitVec 28), s.serving ∧ s.flag rBistCtl 31 = true ∧ s.fld rBistStatus 15 0 = 0 ∧ bit s.tst.bist 10 = true) ∧
    (∃ (s : State) (fail : BitVec 15) (a : BitVec 28), s.serving ∧ s.flag rBistCtl 31 = true ∧ s.fld rBistStatus 15 0 = 0) :=
  ⟨⟨sv, 0, 2, 1, 3, 4, 5, by decide +kernel⟩,
   ⟨sv, 0, 2, 1, 3, 4, 5, by decide +kernel⟩,
   ⟨sv, 0, 2, 1, 3, 4, 5, by decide +kernel⟩,
   ⟨sv, 0, 2, 1, 3, 4, 5, by decide +kernel⟩,
   ⟨sv, 0, 2, 1, 3, 4, 5, by decide +kernel⟩,
   ⟨sv, 0, 2, 1, 3, 4, 5, by decide +kernel⟩,
   ⟨tst, 0, 2, by decide +kernel⟩,
   ⟨tst.setFld 0x10900010 2 0 3, 0, by decide +kernel⟩,
   ⟨((tst.setFlag rPckStatus 4 true).setFlag rPckStatus 1 true).setFlag 0x10800000 0 true, 1, 3, by decide +kernel⟩,
   ⟨tst, 3, by decide +kernel⟩,
   ⟨tst, 3, by decide +kernel⟩,
   ⟨tst, 2, 9, by decide +kernel⟩,
   ⟨sv, 2, 9, by decide +kernel⟩,
   ⟨tst.setFld 0x50030 2 0 3, by decide +kernel⟩,
   ⟨tst, by decide +kernel⟩,
   ⟨tst.setFlag 0x200 0 true, 0, by decide +kernel⟩,
   ⟨((tst.wr (prbsCtl 5) (0x300 + 0x33)).setFlag (prbsStat 5).1 (prbsStat 5).2 true).setFld 0x10900014 2 0 3, 5, by decide +kernel⟩,
   ⟨((tst.wr (prbsCtl 5) (0x300 + 0x33)).setFlag (prbsStat 5).1 (prbsStat 5).2 true).setFld 0x10900014 2 0 3, 5, 3, 0, by decide +kernel⟩,
   ⟨((tst.wr (prbsCtl 5) (0x300 + 0x33)).setFlag (prbsStat 5).1 (prbsStat 5).2 true).setFld 0x10900014 2 0 3, 5, by decide +kernel⟩,
   ⟨((txS.setFlag 0x10900000 0 true).setFlag (fgBase 0) 14 true).setFld (fgBase 0) 13 0 100, 0, by decide +kernel⟩,
   ⟨tst, 0x3FF, by decide +kernel⟩,
   ⟨tst, 0x4000, by decide +kernel⟩,
   ⟨((tst.setFlag rBistCtl 31 true).setFld rBistCtl 14 0 0x400).setTst { tst.tst with bist := 0x400 }, 0x400, 77, by decide +kernel⟩,
   ⟨((tst.setFlag rBistCtl 31 true).setFld rBistCtl 14 0 0x400).setTst { tst.tst with bist := 0x400 }, 0x400, 77, by decide +kernel⟩⟩

theorem witness_TestPortResults_2 : ({ sv with corrupt := true } : State).corrupt = true ∧ Instr.packLaneLockLost 1 ≠ .extest ∧
    (∀ e, Instr.packLaneLockLost 1 ≠ .porst e) ∧ ∀ p l, Instr.packLaneLockLost 1 ≠ .samplePreload p l :=
  ⟨rfl, by decide, nofun, nofun⟩
theorem witness_StepRunsTheFrontCommand : ({ sv with pending := [.phcStep] } : State).pending = [.phcStep] ∧ sv.pending = [] := ⟨rfl, rfl⟩
theorem witness_EveryCommandAnswers : sv.corrupt = false := rfl
theorem witness_PinDrivingLeavesTheStateUndefined : let s : State := { sv with corrupt := true, jtag := { Tap.reset with ir := 0 }, pending := [.idcode] }
    (s.jtag.drives = true → s.corrupt = true) ∧ s.corrupt = true ∧ (∃ t, step s = .next t) := ⟨fun _ => rfl, rfl, _, rfl⟩

theorem witness_PlaneInResetTakesNoCommand : let s : State := { sv with power := { sv.power with svRstOut := false } }; let u : State := { trlS with power := { sv.power with porstHigh := false } }
    s.corrupt = false ∧ s.svUp = false ∧ u.corrupt = false ∧ u.opUp = false := by decide +kernel

end Sys2Proof.Tests
end

section
/-! PROOFS. Register accesses (O25): what a field takes from a write, plain register writes, clear-on-read and 64-bit reads, and
IORD and IOWR. -/
namespace Sys2Proof.Machine

/-! Bits of a field, in the library's `Nat.testBit`. -/

theorem bit_eq_testBit (v i : Nat) : bit v i = v.testBit i :=
  Nat.testBit_eq_decide_div_mod_eq.symm

theorem testBit_bits (v lo w i : Nat) : (bits v lo w).testBit i = (decide (i < w) && v.testBit (lo + i)) := by
  rw [bits, Nat.testBit_mod_two_pow, Nat.testBit_div_two_pow, Nat.add_comm]

theorem bits_lt (v lo w : Nat) : bits v lo w < 2 ^ w := Nat.mod_lt _ (Nat.two_pow_pos w)

@[simp] theorem bits_zero (lo w : Nat) : bits 0 lo w = 0 := by simp [bits]

/-- A field that lies below bit `n` is the same in the number cut to `n` bits. -/
theorem bits_mod_two_pow (v lo w n : Nat) (h : lo + w ≤ n) : bits (v % 2 ^ n) lo w = bits v lo w := by
  refine Nat.eq_of_testBit_eq fun i => ?_
  simp only [testBit_bits, Nat.testBit_mod_two_pow]
  by_cases hi : i < w
  · rw [decide_eq_true (show lo + i < n by omega), Bool.true_and]
  · simp [hi]

/-! What a field takes from a write, by its access code (R11, R13). -/

theorem Fld.written_ro (f : Fld) (old v ev : Nat) (h : f.acc = .ro) : f.written old v ev = bits old f.lo f.w := by
  simp only [Fld.written, h]

theorem Fld.written_wo (f : Fld) (old v ev : Nat) (h : f.acc = .wo) : f.written old v ev = 0 := by
  simp only [Fld.written, h]

theorem Fld.written_rw (f : Fld) (old v ev : Nat) (h : f.acc = .rw) :
    f.written old v ev = if f.legal.okay (bits v f.lo f.w) then bits v f.lo f.w else bits old f.lo f.w := by
  simp only [Fld.written, h]

/-- A bit of a write-1-to-clear field stays where the write has 0. -/
theorem Fld.bit_written_w1c (f : Fld) (old v i : Nat) (h : f.acc = .w1c) (hi : i < f.w) :
    bit (f.written old v 0) i = (bit old (f.lo + i) && !bit v (f.lo + i)) := by
  have hkept : (2 ^ f.w - 1 - bits v f.lo f.w).testBit i = !v.testBit (f.lo + i) := by
    rw [Nat.sub_sub, Nat.add_comm 1, Nat.testBit_two_pow_sub_succ (bits_lt v f.lo f.w), testBit_bits]
    simp [hi]
  simp only [Fld.written, h, bit_eq_testBit, bits_zero, Nat.or_zero, Nat.testBit_and, hkept, testBit_bits, hi, decide_true, Bool.true_and]

/-- A bit of a write-1-to-set field is set where the write has 1. -/
theorem Fld.bit_written_w1s (f : Fld) (old v i : Nat) (h : f.acc = .w1s) (hi : i < f.w) :
    bit (f.written old v 0) i = (bit old (f.lo + i) || bit v (f.lo + i)) := by
  simp only [Fld.written, h, bit_eq_testBit, Nat.testBit_or, testBit_bits, hi, decide_true, Bool.true_and]

/-! Plain writes: a write that starts nothing stores what the access codes make of it. -/

theorem State.plainWrite_word (s : State) (a v : Nat) (r : Reg) (hr : lookupReg a = some (r, a)) (hk : r.kind = .word) :
    s.plainWrite a v = s.wr a (r.afterWrite (s.rd a) v 0) := by
  simp [State.plainWrite, hr, hk]

/-- Blocks of registers that a write which starts nothing does not reach: fuse data, DRAM to ports, Pack link and test unit. -/
theorem startsOnWrite_blocks (a : Nat) (h : startsOnWrite a = false) :
    ¬ (0x40080 ≤ a ∧ a < 0x400B0) ∧ ¬ (0x10300000 ≤ a ∧ a < 0x10700000) ∧ ¬ (0x10800000 ≤ a ∧ a < 0x10A00000) := by
  simp only [startsOnWrite, Bool.or_eq_false_iff, ← Bool.decide_and, decide_eq_false_iff_not] at h
  obtain ⟨⟨⟨-, hfuse⟩, hunits⟩, hlink⟩ := h
  exact ⟨hfuse, hunits, hlink⟩

/-- The single registers such a write does not reach. -/
theorem startsOnWrite_registers (a : Nat) (h : startsOnWrite a = false) :
    a ∉ [0x10, 0x14, 0x200, rPwrCtl, rPwrModeReq, rPwrWarn, rPwrReset, 0x10018, 0x20040, 0x20044, rTrlCtl, 0x30060, rTrlWall, rTrlWall + 4,
      rTrlRdSeq, rTrlRdSeq + 4, 0x40000, 0x40040, 0x50030, 0x50034, 0x10003008, 0x10003010, rRtvCtl, rNoseLeash, 0x10700010, 0x10700014,
      rCphPool] := by
  simp only [startsOnWrite, Bool.or_eq_false_iff, List.contains_eq_mem, decide_eq_false_iff_not] at h
  obtain ⟨⟨⟨hregs, -⟩, -⟩, -⟩ := h
  exact hregs

theorem State.writeOperator_plain (s : State) (i : WriteIn) (a v : Nat) (h : startsOnWrite a = false) :
    s.writeOperator i a v = s.plainWrite a v := by
  obtain ⟨hfuse, -, -⟩ := startsOnWrite_blocks a h
  have hregs := startsOnWrite_registers a h
  simp only [List.mem_cons, List.not_mem_nil, or_false, not_or] at hregs
  simp only [State.writeOperator, hregs, hfuse, or_self, ↓reduceIte]

theorem State.writeServing_plain (s : State) (a v : Nat) (h : startsOnWrite a = false) :
    s.writeServing a v = s.plainWrite a v := by
  obtain ⟨-, hunits, hlink⟩ := startsOnWrite_blocks a h
  have hdrc : ¬ (0x10300000 ≤ a ∧ a < 0x10400000) := by omega
  have hflc : ¬ (0x10400000 ≤ a ∧ a < 0x10500000) := by omega
  have hmac0 : ¬ (0x10500000 ≤ a ∧ a < 0x10600000) := by omega
  have hmac1 : ¬ (0x10600000 ≤ a ∧ a < 0x10700000) := by omega
  have hpck : ¬ (0x10800000 ≤ a ∧ a < 0x10900000) := by omega
  have htst : ¬ (0x10900000 ≤ a ∧ a < 0x10A00000) := by omega
  have hregs := startsOnWrite_registers a h
  simp only [List.mem_cons, List.not_mem_nil, or_false, not_or] at hregs
  simp only [State.writeServing, hregs, hdrc, hflc, hmac0, hmac1, hpck, htst, false_and, or_self, ↓reduceIte]

/-- The mode hangs on two registers alone, the status of each port (R446, R447). -/
theorem State.modeNow_wr (s : State) (a v : Nat) (h0 : a ≠ 0x10500004) (h1 : a ≠ 0x10600004) : (s.wr a v).modeNow = s.modeNow := by
  simp only [State.modeNow, State.dozing, State.flag, State.port, State.rd_wr_other s a v _ h0.symm, State.rd_wr_other s a v _ h1.symm,
    State.wr_power, State.wr_net]

/-- PREV stands where the mode does. -/
theorem State.track_of_modeNow_eq (s u : State) (h : u.modeNow = s.modeNow) : s.track u = u := if_pos h

/-- A command that goes to the plane of its address and keeps queue, test access port and mark answers its effect. -/
theorem State.planeUp_next (s u : State) (a : Nat) (f : State → State) (h : s.planeUp a) (hf : f s = u) (hp : u.pending = s.pending)
    (hj : u.jtag = s.jtag) (hc : u.corrupt = s.corrupt) : (if a < 0x10000000 then s.onOp f else s.onSv f) = .next u := by
  subst hf
  rw [State.planeUp] at h
  split at h
  · next hlow => rw [if_pos hlow, State.onOp_next s f h, ← hp, ← hj, ← hc]
  · next hlow => rw [if_neg hlow, State.onSv_next s f h, ← hp, ← hj, ← hc]

/-- A serving register whose write starts nothing takes what its access codes give it; the mode stands. -/
theorem State.track_writeServing_plain (s : State) (a v : Nat) (r : Reg) (hr : lookupReg a = some (r, a)) (hk : r.kind = .word)
    (h : startsOnWrite a = false) : s.track (s.writeServing a v) = s.wr a (r.afterWrite (s.rd a) v 0) := by
  have hunits := (startsOnWrite_blocks a h).2.1
  rw [State.writeServing_plain s a v h, State.plainWrite_word s a v r hr hk]
  exact State.track_of_modeNow_eq s _ (State.modeNow_wr s a _ (by omega) (by omega))

theorem State.writeReg_plain (s : State) (i : WriteIn) (a v : Nat) (r : Reg) (hr : lookupReg a = some (r, a)) (hk : r.kind = .word)
    (h : startsOnWrite a = false) : s.writeReg i a v = s.wr a (r.afterWrite (s.rd a) v 0) := by
  rw [State.writeReg]
  split
  · rw [State.writeOperator_plain s i a v h, State.plainWrite_word s a v r hr hk]
  · exact State.track_writeServing_plain s a v r hr hk h

/-- REGISTER_WRITE to a register whose write starts nothing. -/
theorem exec_registerWrite_plain (s : State) (i : WriteIn) (a v : Word) (r : Reg) (hup : s.planeUp a.toNat)
    (hr : lookupReg a.toNat = some (r, a.toNat)) (hk : r.kind = .word) (ha : a.toNat % 4 = 0) (h : startsOnWrite a.toNat = false) :
    exec (.registerWrite i a v) s = .next (s.wr a.toNat (r.afterWrite (s.rd a.toNat) v.toNat 0)) := by
  refine State.planeUp_next s _ a.toNat _ hup ?_ rfl rfl rfl
  simp only [ha, ↓reduceIte, State.writeReg_plain s i a.toNat v.toNat r hr hk h]

/-! Two registers of one field. -/

/-- A register of one 32-bit field takes the word written. -/
theorem afterWrite_regN_whole (base n stride : Nat) (name : String) (rst old v : Nat) (hv : v < 2 ^ 32) :
    (regN base n stride name rst [fRW 31 0]).afterWrite old v 0 % 2 ^ 32 = v := by
  have hset : (regN base n stride name rst [fRW 31 0]).afterWrite old v 0 = setBits old 0 32 (bits v 0 32) := rfl
  have hread := bits_setBits_same old 0 32 (bits v 0 32)
  simp only [bits, Nat.pow_zero, Nat.div_one, Nat.mod_eq_of_lt hv] at hread
  rw [hset]
  simpa only [bits, Nat.pow_zero, Nat.div_one, Nat.mod_eq_of_lt hv] using hread

/-- NOSE_SHIFT_MAX (Table 4-13): one field of 16 to 1,024. -/
def noseShiftMax : Reg := regW 0x10100008 "NOSE_SHIFT_MAX" 0x40 [fRWr 10 0 16 1024]

theorem lookupReg_noseShiftMax : lookupReg 0x10100008 = some (noseShiftMax, 0x10100008) := rfl

/-- A write in range is taken; any other leaves the register as it was (R13). -/
theorem State.shiftMax_wr_afterWrite (s : State) (v : Nat) :
    (s.wr 0x10100008 (noseShiftMax.afterWrite (s.rd 0x10100008) v 0)).shiftMax =
      if 16 ≤ v % 2048 ∧ v % 2048 ≤ 1024 then v % 2048 else s.shiftMax := by
  have hv : bits v 0 11 = v % 2048 := by simp [bits]
  rw [State.shiftMax, State.fld, State.rd_wr_same, bits_mod_two_pow _ 0 11 32 (by omega)]
  split
  · next hok =>
    have hset : noseShiftMax.afterWrite (s.rd 0x10100008) v 0 = setBits (s.rd 0x10100008) 0 11 (v % 2048) := by
      simp [noseShiftMax, regW, fRWr, Reg.afterWrite, Fld.bad, Legal.okay, writeFlds, Fld.written, hv, hok]
    rw [hset, bits_setBits_same]
    exact Nat.mod_mod v 2048
  · next hbad =>
    have hany : noseShiftMax.flds.any (fun f => f.bad v) = true := by
      show (!(decide (16 ≤ bits v 0 11) && decide (bits v 0 11 ≤ 1024)) || false) = true
      rw [hv, ← Bool.decide_and, decide_eq_false hbad]
      rfl
    have hold : noseShiftMax.afterWrite (s.rd 0x10100008) v 0 = s.rd 0x10100008 := by
      rw [Reg.afterWrite, hany]
      rfl
    rw [hold]
    rfl

/-! Reads (R12, R15, R16). -/

/-- A low-word read changes the registers' store alone. -/
theorem State.snapshot_csr (s : State) (clear : Bool) (a : Nat) : { s.snapshot clear a with csr := s.csr } = s := by
  simp only [State.snapshot]; split <;> rfl

/-- The snapshot it leaves is the register as it stood. -/
theorem State.snapOf_snapshot (s : State) (clear : Bool) (a : Nat) : (s.snapshot clear a).snapOf a = s.live64 a := by
  simp only [State.snapshot]; split <;> simp only [State.snapOf, State.wr_csr, mget_mset_same]

theorem State.c64_snapshot (s : State) (clear : Bool) (a : Nat) : (s.snapshot clear a).c64 a = if clear then 0 else s.c64 a := by
  simp only [State.snapshot]; split <;> simp only [State.c64, State.wr_csr, mget_mset_same]

/-- Only the PHC's snapshot takes a word register along, its fraction. -/
theorem State.snapshot_words (s : State) (clear : Bool) (a : Nat) (h : a ≠ 0x10500900) : (s.snapshot clear a).csr.words = s.csr.words := by
  simp only [State.snapshot, if_neg h]

/-- The 64-bit registers whose value stands elsewhere than in their counter are all read-only ones, so a clear-on-read counter shows
its own value. -/
theorem live64_registers_ro64 : ∀ a ∈ [0x40020, 0x40028, 0x40030, 0x40300, 0x10500900],
    (lookupReg a).map (fun x => x.1.kind) = some .ro64 := by decide

theorem lookupReg_ctr_not_mem (a b : Nat) (r : Reg) (hr : lookupReg a = some (r, b)) (hk : r.kind = .ctr) :
    a ∉ [0x40020, 0x40028, 0x40030, 0x40300, 0x10500900] := by
  intro hmem
  have hro := live64_registers_ro64 a hmem
  rw [hr, Option.map_some, hk] at hro
  cases hro

theorem State.live64_ctr (s : State) (a b : Nat) (r : Reg) (hr : lookupReg a = some (r, b)) (hk : r.kind = .ctr) : s.live64 a = s.c64 a := by
  have hne := lookupReg_ctr_not_mem a b r hr hk
  simp only [List.mem_cons, List.not_mem_nil, or_false, not_or] at hne
  simp only [State.live64, hne, ↓reduceIte]

theorem State.readReg_low (s : State) (a : Nat) (r : Reg) (hr : lookupReg a = some (r, a)) (hk : r.kind ≠ .word) :
    s.readReg a = (s.live64 a % 2 ^ 32, s.snapshot (r.kind == .ctr) a) := by
  simp only [State.readReg, hr, hk, ↓reduceIte]

theorem State.readReg_high (s : State) (a b : Nat) (r : Reg) (hr : lookupReg a = some (r, b)) (hk : r.kind ≠ .word) (hab : a ≠ b) :
    s.readReg a = (s.snapOf b / 2 ^ 32, s) := by
  simp only [State.readReg, hr, hk, hab, ↓reduceIte]

/-- A read of a register changes the registers' store alone. -/
theorem State.readReg_csr (s : State) (a : Nat) (h : (lookupReg a).isSome = true) : { (s.readReg a).2 with csr := s.csr } = s := by
  obtain ⟨⟨r, b⟩, hr⟩ := Option.isSome_iff_exists.1 h
  by_cases hk : r.kind = .word
  · simp only [State.readReg, hr, hk, ↓reduceIte]; split <;> rfl
  · by_cases hab : a = b
    · subst hab; rw [State.readReg_low s a r hr hk]; exact State.snapshot_csr s _ a
    · rw [State.readReg_high s a b r hr hk hab]

/-- A read command of the kind of its register answers the read. -/
theorem readCmd_reads (s : State) (a b : Nat) (p : Reg → Nat → Bool) (r : Reg) (hup : s.planeUp a) (hr : lookupReg a = some (r, b))
    (hp : p r b = true) : readCmd a p s = .next (s.readInto a) := by
  have hcsr := State.readReg_csr s a (by rw [hr]; rfl)
  refine State.planeUp_next s _ a _ hup ?_ (congrArg State.pending hcsr :) (congrArg State.jtag hcsr :) (congrArg State.corrupt hcsr :)
  simp only [hr, hp, ↓reduceIte]

/-- A read command leaves the low word of a 64-bit register, and its snapshot. -/
theorem State.readInto_low (s : State) (a : Nat) (r : Reg) (hr : lookupReg a = some (r, a)) (hk : r.kind ≠ .word) :
    s.readInto a = { s.snapshot (r.kind == .ctr) a with readData := [s.live64 a % 2 ^ 32] } := by
  rw [State.readInto, State.readReg_low s a r hr hk]

/-- No register shows a thread's state. -/
theorem State.live_setTh (s : State) (t a : Nat) (h : Thread) : (s.setTh t h).live a = s.live a := rfl

theorem State.readReg_setTh (s : State) (t a : Nat) (h : Thread) (hr : (lookupReg a).isSome = true) :
    ((s.setTh t h).readReg a).1 = (s.readReg a).1 := by
  obtain ⟨⟨r, b⟩, hr⟩ := Option.isSome_iff_exists.1 hr
  by_cases hk : r.kind = .word
  · simp only [State.readReg, hr, hk, State.live_setTh, ↓reduceIte]
  · by_cases hab : a = b
    · subst hab; rw [State.readReg_low _ a r hr hk, State.readReg_low s a r hr hk]; rfl
    · rw [State.readReg_high _ a b r hr hk hab, State.readReg_high s a b r hr hk hab]; rfl

/-! An instruction that completes: its effect, then the pc that follows. -/

/-- The state after thread `t` completes an instruction whose effect is `q`. -/
def State.completed (q : State) (t : Nat) : State := q.setTh t (q.th t).advance

theorem onThread_completes (t word : Nat) (mz : Bool) (f : State → Thread → Eff) (s q : State) (h : s.issues t)
    (hm : (s.th t).muzzled = true → mz = true) (hf : f (s.setTh t (s.th t).issue) (s.th t).issue = .next q)
    (hp : q.pending = s.pending) (hj : q.jtag = s.jtag) (hc : q.corrupt = s.corrupt) :
    onThread t word mz f s = .next (q.completed t) := by
  rw [onThread_next t word mz f s h, issue_passes t word mz f s h hm, hf, ← hp, ← hj, ← hc]
  rfl

theorem State.completed_th_other (q : State) (t x : Nat) (hx : x ≠ t) : (q.completed t).th x = q.th x :=
  State.th_setTh_other q t _ x hx

@[simp] theorem State.completed_g (q : State) (t r : Nat) : ((q.completed t).th t).g r = (q.th t).g r := by
  simp [State.completed]

@[simp] theorem State.completed_rest (q : State) (t : Nat) : ((q.completed t).th t).rest = (q.th t).rest := by
  simp [State.completed]

/-- The register an instruction writes, once it has completed; g0 discards it. -/
theorem completed_wrG_same (q : State) (t rd : Nat) (v : DWord) (hrd : rd < 32) :
    (((wrG q t rd v).completed t).th t).g rd = if rd = 0 then 0 else v := by
  rw [State.completed_g, wrG, State.th_setTh_same, Thread.g_setG_same _ rd v hrd]

theorem completed_wrG_other (q : State) (t rd : Nat) (v : DWord) (r : Nat) (hr : r ≠ rd) :
    (((wrG q t rd v).completed t).th t).g r = (q.th t).g r := by
  rw [State.completed_g, wrG, State.th_setTh_same, Thread.g_setG_other _ rd v r hr]

theorem completed_wrG_rest (q : State) (t rd : Nat) (v : DWord) : (((wrG q t rd v).completed t).th t).rest = (q.th t).rest := by
  rw [State.completed_rest, wrG, State.th_setTh_same, Thread.setG_rest]

/-- An instruction whose one effect is a register result. -/
theorem onThread_regResult (t word rd : Nat) (mz : Bool) (f : State → Thread → Eff) (s : State) (v : DWord) (hrd : rd < 32) (h : s.issues t)
    (hm : (s.th t).muzzled = true → mz = true)
    (hf : f (s.setTh t (s.th t).issue) (s.th t).issue = .next (wrG (s.setTh t (s.th t).issue) t rd v)) :
    regResult (onThread t word mz f s) s t rd v := by
  have hth : (s.setTh t (s.th t).issue).th t = (s.th t).issue := State.th_setTh_same s t _
  rw [regResult, onThread_completes t word mz f s _ h hm hf rfl rfl rfl, ends_next]
  refine ⟨⟨rfl, fun x hx => ?_⟩, completed_wrG_same _ t rd v hrd, fun r _ hr => ?_, ?_⟩
  · rw [State.completed_th_other _ t x hx, wrG, State.th_setTh_other _ t _ x hx, State.th_setTh_other s t _ x hx]
  · rw [completed_wrG_other _ t rd v r hr, hth, Thread.issue_g]
  · rw [completed_wrG_rest, hth, Thread.issue_rest]

/-! IORD and IOWR (R224). -/

theorem ioTrap_none (a : Nat) (ha : a % 4 = 0) (hlt : a < 2 ^ 32) : ioTrap a = none := by
  rw [ioTrap, if_neg (fun hne => hne ha), if_neg (Nat.not_le.2 hlt)]

section
variable (t : Fin 256) (rs1 : Fin 32) (imm : Half) (s : State) (h : s.issuesSystem t)
include h

/-- IORD of an operator-plane address reads as unassigned (R27). -/
theorem exec_iord_operator (rd : Fin 32) (ha : ((s.th t).g rs1 + imm.signExtend 64).toNat % 4 = 0)
    (hlow : ((s.th t).g rs1 + imm.signExtend 64).toNat < 0x10000000) : regResult (exec (.iord t rd rs1 imm) s) s t rd 0 := by
  refine onThread_regResult t _ rd false _ s 0 rd.isLt h.1 (by simp [h.2]) ?_
  simp only [Thread.issue_g, sext16, ioTrap_none _ ha (by omega), hlow, ↓reduceIte]

/-- IORD of a serving address answers the register's value, with what the read clears and snapshots. -/
theorem exec_iord_serving (rd : Fin 32) (a : Nat) (haddr : ((s.th t).g rs1 + imm.signExtend 64).toNat = a) (ha : a % 4 = 0)
    (hhigh : 0x10000000 ≤ a) (hlt : a < 2 ^ 32) (hreg : (lookupReg a).isSome = true) :
    exec (.iord t rd rs1 imm) s =
      .next ((wrG ((s.setTh t (s.th t).issue).readReg a).2 t rd (BitVec.ofNat 64 (s.readReg a).1)).completed t) := by
  have hcsr := State.readReg_csr (s.setTh t (s.th t).issue) a hreg
  refine onThread_completes t _ false _ s _ h.1 (by simp [h.2]) ?_ (congrArg State.pending hcsr :) (congrArg State.jtag hcsr :)
    (congrArg State.corrupt hcsr :)
  simp only [Thread.issue_g, sext16, haddr, ioTrap_none a ha hlt, Nat.not_lt.2 hhigh, State.readReg_setTh s t a _ hreg, ↓reduceIte]

/-- IOWR to the operator plane is ignored (R27). -/
theorem exec_iowr_operator (rs2 : Fin 32) (ha : ((s.th t).g rs1 + imm.signExtend 64).toNat % 4 = 0)
    (hlow : ((s.th t).g rs1 + imm.signExtend 64).toNat < 0x10000000) :
    exec (.iowr t rs2 rs1 imm) s = .next ((s.setTh t (s.th t).issue).completed t) := by
  refine onThread_completes t _ false _ s _ h.1 (by simp [h.2]) ?_ rfl rfl rfl
  simp only [Thread.issue_g, sext16, ioTrap_none _ ha (by omega), hlow, ↓reduceIte]

/-- IOWR to a serving register whose write starts nothing. -/
theorem exec_iowr_plain (rs2 : Fin 32) (a : Nat) (r : Reg) (haddr : ((s.th t).g rs1 + imm.signExtend 64).toNat = a) (ha : a % 4 = 0)
    (hhigh : 0x10000000 ≤ a) (hlt : a < 2 ^ 32) (hr : lookupReg a = some (r, a)) (hk : r.kind = .word) (hplain : startsOnWrite a = false) :
    exec (.iowr t rs2 rs1 imm) s =
      .next (((s.setTh t (s.th t).issue).wr a (r.afterWrite (s.rd a) (((s.th t).g rs2).toNat % 2 ^ 32) 0)).completed t) := by
  refine onThread_completes t _ false _ s _ h.1 (by simp [h.2]) ?_ rfl rfl rfl
  simp only [Thread.issue_g, sext16, haddr, ioTrap_none a ha hlt, Nat.not_lt.2 hhigh,
    State.track_writeServing_plain _ a _ r hr hk hplain, State.setTh_rd, ↓reduceIte]

end

/-! The statement's clauses, and O25. -/

theorem registerWrite_plain_ends (s : State) (i : WriteIn) (a v : Word) (r : Reg) (hup : s.planeUp a.toNat)
    (hr : lookupReg a.toNat = some (r, a.toNat)) (hk : r.kind = .word) (ha : a.toNat % 4 = 0) (h : startsOnWrite a.toNat = false) :
    ends (exec (.registerWrite i a v) s) fun u => u.rd a.toNat = r.afterWrite (s.rd a.toNat) v.toNat 0 % 2 ^ 32 ∧
      (∀ b, b ≠ a.toNat → u.rd b = s.rd b) ∧ { u with csr := s.csr } = s ∧ u.csr.ctrs = s.csr.ctrs := by
  rw [exec_registerWrite_plain s i a v r hup hr hk ha h, ends_next]
  exact ⟨State.rd_wr_same s _ _, fun b hb => State.rd_wr_other s _ _ b hb, rfl, rfl⟩

theorem registerWrite_appArg_ends (s : State) (i : WriteIn) (v : Word) (h : s.operating) :
    ends (exec (.registerWrite i 0x30050 v) s) fun u => u.rd 0x30050 = v.toNat ∧ { u with csr := s.csr } = s ∧ u.csr.ctrs = s.csr.ctrs := by
  have hr : lookupReg 0x30050 = some (regN 0x30050 4 4 "TRL_APP_ARG" 0 [fRW 31 0], 0x30050) := rfl
  rw [exec_registerWrite_plain s i 0x30050 v _ h hr rfl rfl (by decide), ends_next]
  exact ⟨(State.rd_wr_same s _ _).trans (afterWrite_regN_whole _ _ _ _ _ _ _ v.isLt), rfl, rfl⟩

theorem registerWrite_shiftMax_ends (s : State) (i : WriteIn) (v : Word) (h : s.serving) :
    ends (exec (.registerWrite i 0x10100008 v) s) fun u => { u with csr := s.csr } = s ∧
      u.shiftMax = (if 16 ≤ v.toNat % 2048 ∧ v.toNat % 2048 ≤ 1024 then v.toNat % 2048 else s.shiftMax) := by
  rw [exec_registerWrite_plain s i 0x10100008 v _ h lookupReg_noseShiftMax rfl rfl (by decide), ends_next]
  exact ⟨rfl, State.shiftMax_wr_afterWrite s v.toNat⟩

theorem rcRead_ends (s : State) (a : Word) (r : Reg) (hup : s.planeUp a.toNat) (hr : lookupReg a.toNat = some (r, a.toNat))
    (hk : r.kind = .ctr) :
    ends (exec (.rcRead a) s) fun u => u.readData = [s.c64 a.toNat % 2 ^ 32] ∧ u.c64 a.toNat = 0 ∧ u.snapOf a.toNat = s.c64 a.toNat ∧
      { u with csr := s.csr, readData := s.readData } = s ∧ u.csr.words = s.csr.words := by
  have hexec : exec (.rcRead a) s = .next (s.readInto a.toNat) := readCmd_reads s _ _ _ r hup hr (by simp [hk])
  have hlive := State.live64_ctr s _ _ r hr hk
  have hphc : a.toNat ≠ 0x10500900 := by
    have hmem := lookupReg_ctr_not_mem _ _ r hr hk
    intro e
    exact hmem (by simp [e])
  rw [hexec, ends_next, State.readInto_low s _ r hr (by simp [hk]), ← hlive, hk]
  exact ⟨rfl, State.c64_snapshot s true _, State.snapOf_snapshot s true _,
    congrArg (fun u : State => { u with readData := s.readData }) (State.snapshot_csr s true _), State.snapshot_words s true _ hphc⟩

theorem counterLowRead_ends (s : State) (a : Word) (r : Reg) (hup : s.planeUp a.toNat) (hr : lookupReg a.toNat = some (r, a.toNat))
    (hk : r.kind ≠ .word) :
    ends (exec (.counterLowRead a) s) fun u => u.readData = [s.live64 a.toNat % 2 ^ 32] ∧ u.snapOf a.toNat = s.live64 a.toNat ∧
      { u with csr := s.csr, readData := s.readData } = s := by
  have hexec : exec (.counterLowRead a) s = .next (s.readInto a.toNat) := readCmd_reads s _ _ _ r hup hr (by simp [hk])
  rw [hexec, ends_next, State.readInto_low s _ r hr hk]
  exact ⟨rfl, State.snapOf_snapshot s _ _, congrArg (fun u : State => { u with readData := s.readData }) (State.snapshot_csr s _ _)⟩

theorem counterHighRead_ends (s : State) (a : Word) (r : Reg) (hup : s.planeUp a.toNat) (h4 : 4 ≤ a.toNat)
    (hr : lookupReg a.toNat = some (r, a.toNat - 4)) (hk : r.kind ≠ .word) :
    ends (exec (.counterHighRead a) s) fun u => u.readData = [s.snapOf (a.toNat - 4) / 2 ^ 32] ∧ { u with readData := s.readData } = s := by
  have hp : (r.kind != .word && a.toNat == a.toNat - 4 + 4) = true := by
    rw [Nat.sub_add_cancel h4]; simp [hk]
  have hexec : exec (.counterHighRead a) s = .next (s.readInto a.toNat) := readCmd_reads s _ _ _ r hup hr hp
  rw [hexec, ends_next, State.readInto, State.readReg_high s _ _ r hr hk (by omega)]
  exact ⟨rfl, rfl⟩

theorem iord_serving_ends (t : Fin 256) (rd rs1 : Fin 32) (imm : Half) (s : State) (h : s.issuesSystem t)
    (ha : ((s.th t).g rs1 + imm.signExtend 64).toNat % 4 = 0) (hhigh : 0x10000000 ≤ ((s.th t).g rs1 + imm.signExtend 64).toNat)
    (hlt : ((s.th t).g rs1 + imm.signExtend 64).toNat < 2 ^ 32)
    (hreg : (lookupReg ((s.th t).g rs1 + imm.signExtend 64).toNat).isSome = true) :
    ends (exec (.iord t rd rs1 imm) s) fun u => { u with threads := s.threads, csr := s.csr } = s ∧ otherRegs u s t rd ∧
      (u.th t).rest = (s.th t).rest ∧
      (u.th t).g rd = (if rd = 0 then 0 else BitVec.ofNat 64 (s.readReg ((s.th t).g rs1 + imm.signExtend 64).toNat).1) := by
  rw [exec_iord_serving t rs1 imm s h rd _ rfl ha hhigh hlt hreg, ends_next]
  generalize ((s.th t).g rs1 + imm.signExtend 64).toNat = a at *
  have hcsr := State.readReg_csr (s.setTh t (s.th t).issue) a hreg
  have hth : ((s.setTh t (s.th t).issue).readReg a).2.th t = (s.th t).issue :=
    (congrArg (fun u : State => u.th t) hcsr :).trans (State.th_setTh_same s t _)
  refine ⟨congrArg (fun u : State => { u with threads := s.threads }) hcsr, fun x _ hx => ?_, ?_, ?_⟩
  · rw [completed_wrG_other _ t rd _ x hx, hth, Thread.issue_g]
  · rw [completed_wrG_rest, hth, Thread.issue_rest]
  · rw [completed_wrG_same _ t rd _ rd.isLt]
    simp only [Fin.val_eq_zero_iff]

theorem iowr_shiftMax_ends (t : Fin 256) (rs2 rs1 : Fin 32) (imm : Half) (s : State) (h : s.issuesSystem t)
    (haddr : ((s.th t).g rs1 + imm.signExtend 64).toNat = 0x10100008) :
    ends (exec (.iowr t rs2 rs1 imm) s) fun u => { u with threads := s.threads, csr := s.csr } = s ∧
      (∀ r, r < 32 → (u.th t).g r = (s.th t).g r) ∧
      u.shiftMax = (if 16 ≤ ((s.th t).g rs2).toNat % 2048 ∧ ((s.th t).g rs2).toNat % 2048 ≤ 1024 then ((s.th t).g rs2).toNat % 2048
        else s.shiftMax) := by
  rw [exec_iowr_plain t rs1 imm s h rs2 _ _ haddr rfl (by decide) (by decide) lookupReg_noseShiftMax rfl (by decide), ends_next]
  refine ⟨rfl, fun r _ => ?_, ?_⟩
  · rw [State.completed_g, State.wr_th, State.th_setTh_same, Thread.issue_g]
  · have hmod : ((s.th t).g rs2).toNat % 2 ^ 32 % 2048 = ((s.th t).g rs2).toNat % 2048 := Nat.mod_mod_of_dvd _ (by decide)
    have hshift := State.shiftMax_wr_afterWrite (s.setTh t (s.th t).issue) (((s.th t).g rs2).toNat % 2 ^ 32)
    rw [hmod] at hshift
    exact hshift

theorem iowr_operator_ends (t : Fin 256) (rs2 rs1 : Fin 32) (imm : Half) (s : State) (h : s.issuesSystem t)
    (ha : ((s.th t).g rs1 + imm.signExtend 64).toNat % 4 = 0) (hlow : ((s.th t).g rs1 + imm.signExtend 64).toNat < 0x10000000) :
    ends (exec (.iowr t rs2 rs1 imm) s) fun u =>
      onlyThread u s t ∧ (∀ r, r < 32 → (u.th t).g r = (s.th t).g r) ∧ (u.th t).rest = (s.th t).rest := by
  rw [exec_iowr_operator t rs1 imm s h rs2 ha hlow, ends_next]
  refine ⟨⟨rfl, fun x hx => ?_⟩, fun r _ => ?_, ?_⟩
  · rw [State.completed_th_other _ t x hx, State.th_setTh_other s t _ x hx]
  · rw [State.completed_g, State.th_setTh_same, Thread.issue_g]
  · rw [State.completed_rest, State.th_setTh_same, Thread.issue_rest]

/-- Settles O25: a write that starts nothing is `wr` of what the access codes give, a read of a register changes the registers' store
alone, and IORD and IOWR are these two on an issuing thread. -/
theorem registerAccessResults : Obligations.RegisterAccessResults := by
  unfold Obligations.RegisterAccessResults
  refine ⟨registerWrite_plain_ends, fun f old v => ?_, registerWrite_appArg_ends, registerWrite_shiftMax_ends, rcRead_ends,
    counterLowRead_ends, counterHighRead_ends, ?_, iord_serving_ends, iowr_shiftMax_ends, iowr_operator_ends⟩
  · exact ⟨Fld.written_ro f old v 0, Fld.written_wo f old v 0, Fld.written_rw f old v 0,
      fun i hi hacc => Fld.bit_written_w1c f old v i hacc hi, fun i hi hacc => Fld.bit_written_w1s f old v i hacc hi⟩
  · exact fun t rd rs1 imm s h ha hlow => exec_iord_operator t rs1 imm s h rd ha hlow

end Sys2Proof.Machine
end

section
/-! PROOFS. What the Nose and Pack statements (O20, O23, O24) share: bits of a register after hardware sets a field, the answer of a
command of the serving plane, events, and results that reach a thread. -/
namespace Sys2Proof.Machine

/-! A register's bits after hardware sets a field. -/

theorem setBits_eq (v lo w x : Nat) :
    setBits v lo w x = 2 ^ lo * (2 ^ w * (v / 2 ^ lo / 2 ^ w) + x % 2 ^ w) + v % 2 ^ lo := by
  have hv := Nat.div_add_mod v (2 ^ lo)
  have hq := Nat.div_add_mod (v / 2 ^ lo) (2 ^ w)
  have hfield : 2 ^ lo * (v / 2 ^ lo % 2 ^ w) ≤ v :=
    Nat.le_trans (Nat.mul_le_mul_left _ (Nat.mod_le _ _)) (Nat.mul_div_le _ _)
  rw [setBits, bits, Nat.mul_comm _ (2 ^ lo), Nat.mul_comm (x % 2 ^ w)]
  generalize v / 2 ^ lo / 2 ^ w = c at *
  generalize v / 2 ^ lo % 2 ^ w = b at *
  rw [← hq] at hv
  rw [Nat.mul_add] at hv ⊢
  omega

theorem testBit_setBits (v lo w x i : Nat) :
    (setBits v lo w x).testBit i = if lo ≤ i ∧ i < lo + w then x.testBit (i - lo) else v.testBit i := by
  rw [setBits_eq, Nat.testBit_two_pow_mul_add _ (Nat.mod_lt _ (Nat.two_pow_pos lo))]
  by_cases hlo : i < lo
  · rw [if_pos hlo, if_neg (by omega), Nat.testBit_mod_two_pow, decide_eq_true hlo, Bool.true_and]
  · rw [if_neg hlo, Nat.testBit_two_pow_mul_add _ (Nat.mod_lt _ (Nat.two_pow_pos w))]
    by_cases hw : i - lo < w
    · rw [if_pos hw, if_pos (by omega), Nat.testBit_mod_two_pow, decide_eq_true hw, Bool.true_and]
    · rw [if_neg hw, if_neg (by omega), Nat.testBit_div_two_pow, Nat.testBit_div_two_pow]
      congr 1; omega

theorem State.flag_setFld (s : State) (a hi lo v j : Nat) (hj : j < 32) :
    (s.setFld a hi lo v).flag a j = if lo ≤ j ∧ j < lo + (hi - lo + 1) then v.testBit (j - lo) else s.flag a j := by
  rw [State.flag, State.setFld, State.rd_wr_same, bit_eq_testBit, Nat.testBit_mod_two_pow, testBit_setBits, decide_eq_true hj,
    Bool.true_and, State.flag, bit_eq_testBit]

theorem State.flag_setFlag (s : State) (a i j : Nat) (b : Bool) (hj : j < 32) :
    (s.setFlag a i b).flag a j = if j = i then b else s.flag a j := by
  rw [State.setFlag, State.flag_setFld s a i i _ j hj]
  by_cases h : j = i
  · subst h; cases b <;> simp [b2n]
  · rw [if_neg (by omega), if_neg h]

theorem State.fld_setFld_same (s : State) (a hi lo v : Nat) (hhi : lo + (hi - lo + 1) ≤ 32) :
    (s.setFld a hi lo v).fld a hi lo = v % 2 ^ (hi - lo + 1) := by
  rw [State.fld, State.setFld, State.rd_wr_same, bits_mod_two_pow _ _ _ 32 hhi, bits_setBits_same]

theorem State.fld_setFld_apart (s : State) (a hi lo v hi' lo' : Nat) (hhi : lo' + (hi' - lo' + 1) ≤ 32)
    (h : lo' + (hi' - lo' + 1) ≤ lo ∨ lo + (hi - lo + 1) ≤ lo') : (s.setFld a hi lo v).fld a hi' lo' = s.fld a hi' lo' := by
  rw [State.fld, State.setFld, State.rd_wr_same, bits_mod_two_pow _ _ _ 32 hhi, State.fld]
  refine Nat.eq_of_testBit_eq fun i => ?_
  rw [testBit_bits, testBit_bits, testBit_setBits]
  by_cases hi' : i < hi' - lo' + 1
  · rw [if_neg (by omega)]
  · simp [hi']

theorem State.flag_setFld_other (s : State) (a hi lo v k j : Nat) (h : k ≠ a) : (s.setFld a hi lo v).flag k j = s.flag k j := by
  rw [State.flag, State.rd_setFld_other s a hi lo v k h, State.flag]

theorem State.fld_setFld_other (s : State) (a hi lo v k hi' lo' : Nat) (h : k ≠ a) :
    (s.setFld a hi lo v).fld k hi' lo' = s.fld k hi' lo' := by
  rw [State.fld, State.rd_setFld_other s a hi lo v k h, State.fld]

theorem State.fld_setFlag_other (s : State) (a i : Nat) (b : Bool) (k hi lo : Nat) (h : k ≠ a) :
    (s.setFlag a i b).fld k hi lo = s.fld k hi lo := State.fld_setFld_other s a i i _ k hi lo h

/-! The answer of a command of the serving plane. -/

/-- The state a command leaves whose effect is `u`: queue, test access port and undefined mark are those of `s`. -/
def State.served (s u : State) : State := { u with pending := s.pending, jtag := s.jtag, corrupt := s.corrupt }

@[simp] theorem State.served_nose (s u : State) : (s.served u).nose = u.nose := rfl
@[simp] theorem State.served_pack (s u : State) : (s.served u).pack = u.pack := rfl
@[simp] theorem State.served_mem (s u : State) : (s.served u).mem = u.mem := rfl
@[simp] theorem State.served_ks (s u : State) : (s.served u).ks = u.ks := rfl
@[simp] theorem State.served_th (s u : State) (t : Nat) : (s.served u).th t = u.th t := rfl
@[simp] theorem State.served_c64 (s u : State) (a : Nat) : (s.served u).c64 a = u.c64 a := rfl
@[simp] theorem State.served_flag (s u : State) (a i : Nat) : (s.served u).flag a i = u.flag a i := rfl
@[simp] theorem State.served_fld (s u : State) (a hi lo : Nat) : (s.served u).fld a hi lo = u.fld a hi lo := rfl

theorem State.onSv_ends (s : State) (f : State → State) (P : State → Prop) (h : s.serving) (hP : P (s.served (f s))) :
    ends (s.onSv f) P := by
  rw [State.onSv_next s f h, ends_next]; exact hP

/-! An event of the serving plane (R505): it moves the Fence and its counters alone. -/

theorem State.keepEvent_frame (s : State) (d : Bytes) :
    { s.keepEvent d with fence := s.fence } = s := by
  rw [State.keepEvent]
  split
  · rfl
  · split <;> rfl

/-- Parts of the serving program enter the queue, wait, or are lost and perhaps kept. -/
theorem State.pushK_program (s : State) (p : FPart) (ps : List FPart) (hp : p.sender = 0x60) :
    { s.pushK (p :: ps) with fence := s.fence, csr := s.csr } = s ∧ (s.pushK (p :: ps)).csr.words = s.csr.words := by
  have hkept (d : Bytes) := (s.bump 0x10006010).keepEvent_frame d
  simp only [State.pushK, State.enterSome, State.enterK, hp, State.wakeSend_program]
  split
  · exact ⟨rfl, rfl⟩
  split
  · split <;> exact ⟨rfl, rfl⟩
  split
  · split
    · exact ⟨(congrArg (fun u : State => { u with fence := s.fence, csr := s.csr }) (hkept _) :),
        (congrArg (fun u : State => u.csr.words) (hkept _) :)⟩
    · exact ⟨rfl, rfl⟩
  · exact ⟨rfl, rfl⟩

theorem State.svEvent_frame (s : State) (code src : Nat) (args : Bytes) :
    { s.svEvent code src args with fence := s.fence, csr := s.csr } = s ∧ (s.svEvent code src args).csr.words = s.csr.words := by
  rw [State.svEvent, State.toKeeper]
  obtain ⟨p, ps, hparts, -, -, hsender, -⟩ := partsOf_shape (if isAlarm code then 0x61 else 0x60) false 0 0x60
    (eventPayload code src 1 s.phcNs args)
  rw [hparts]
  exact State.pushK_program s p ps hsender

@[simp] theorem State.svEvent_power (s : State) (code src : Nat) (args : Bytes) : (s.svEvent code src args).power = s.power :=
  (congrArg State.power (s.svEvent_frame code src args).1 :)
@[simp] theorem State.svEvent_cfg (s : State) (code src : Nat) (args : Bytes) : (s.svEvent code src args).cfg = s.cfg :=
  (congrArg State.cfg (s.svEvent_frame code src args).1 :)
@[simp] theorem State.svEvent_ks (s : State) (code src : Nat) (args : Bytes) : (s.svEvent code src args).ks = s.ks :=
  (congrArg State.ks (s.svEvent_frame code src args).1 :)
@[simp] theorem State.svEvent_rd (s : State) (code src : Nat) (args : Bytes) (a : Nat) : (s.svEvent code src args).rd a = s.rd a := by
  rw [State.rd, (s.svEvent_frame code src args).2, State.rd]
@[simp] theorem State.svEvent_fld (s : State) (code src : Nat) (args : Bytes) (a hi lo : Nat) :
    (s.svEvent code src args).fld a hi lo = s.fld a hi lo := by rw [State.fld, State.svEvent_rd, State.fld]

/-! A result pair that reaches its thread (R234). -/

/-- Waking changes no register. -/
theorem State.nosePair_g (s : State) (t rd : Nat) (w ad : DWord) (i : Nat) (h0 : 0 < rd) :
    ((s.nosePair t rd w ad).th t).g i = (((s.th t).setG rd w).setG (rd + 1) ad).g i := by
  have hne : rd ≠ 0 := by omega
  simp only [State.nosePair, State.th_setTh_same, hne, ↓reduceIte]
  split
  · split <;> rfl
  · rfl

theorem State.nosePair_first (s : State) (t rd : Nat) (w ad : DWord) (h0 : 0 < rd) (h31 : rd < 31) :
    ((s.nosePair t rd w ad).th t).g rd = w := by
  rw [State.nosePair_g s t rd w ad rd h0, Thread.g_setG_other _ _ _ _ (by omega), Thread.g_setG_same _ _ _ (by omega),
    if_neg (by omega)]

theorem State.nosePair_second (s : State) (t rd : Nat) (w ad : DWord) (h0 : 0 < rd) (h31 : rd < 31) :
    ((s.nosePair t rd w ad).th t).g (rd + 1) = ad := by
  rw [State.nosePair_g s t rd w ad _ h0, Thread.g_setG_same _ _ _ (by omega), if_neg (by omega)]

@[simp] theorem Thread.setG_sleep (h : Thread) (i : Nat) (v : DWord) : (h.setG i v).sleep = h.sleep := by
  rw [Thread.setG]; split <;> rfl

/-- A thread to which the Nose owes nothing more wakes. -/
theorem State.nosePair_wakes (s : State) (t rd k : Nat) (w ad : DWord) (hs : (s.th t).sleep = .nose k) (ho : s.noseOwes t = false) :
    ((s.nosePair t rd w ad).th t).sleep = .awake := by
  have hsleep : (if rd = 0 then s.th t else ((s.th t).setG rd w).setG (rd + 1) ad).sleep = .nose k := by
    rw [← hs]
    split
    · rfl
    · rw [Thread.setG_sleep, Thread.setG_sleep]
  simp only [State.nosePair, State.th_setTh_same, hsleep, ho]
  rfl

theorem State.noseDone_word (s : State) (t rd : Nat) (r : NRes) (b : Bool) (h0 : 0 < rd) (h31 : rd < 31) :
    ((s.noseDone t rd r b).th t).g rd = BitVec.ofNat 64 r.word := State.nosePair_first s t rd _ _ h0 h31

end Sys2Proof.Machine
end

section
/-! PROOFS. Pack searches (O24): search and result messages at this member, and a search without a result (R181, R182, R195, R196). -/
namespace Sys2Proof.Machine

/-! A message sent. -/

@[simp] theorem State.sendMsg_outMsgs (s : State) (m : Bytes) : (s.sendMsg m).pack.outMsgs = m :: s.pack.outMsgs := rfl
@[simp] theorem State.sendMsg_nose (s : State) (m : Bytes) : (s.sendMsg m).nose = s.nose := rfl
@[simp] theorem State.sendMsg_flag (s : State) (m : Bytes) (a i : Nat) : (s.sendMsg m).flag a i = s.flag a i := rfl

theorem State.sendMsg_c64 (s : State) (m : Bytes) (a : Nat) (h : a ≠ 0x10800140) : (s.sendMsg m).c64 a = s.c64 a :=
  State.c64_bump_other _ _ _ _ h

/-! SEARCH_MESSAGE: a search of another member. -/

/-- The member has searched: MATCH_OUT_N follows MATCH_IN_N and the match, the slot is taken and the search counted. -/
def State.searched (s : State) (m : Bytes) (matchIn : Bool) : State :=
  (s.setNose { s.nose with matchOut := matchIn || (s.messageSearch m).1.found, packSlots := s.nose.packSlots + 1 }).bump 0x10100248

@[simp] theorem State.noseChecked_good (s t : State) : State.noseChecked .good s t = t := rfl

/-- A good search message of another member, at a member that takes part: relayed, searched, and answered or not. -/
theorem searchMessage_other (s : State) (m : Bytes) (matchIn : Bool) (hup : s.pckUp = true) (hlen : m.length = 32)
    (hpos : leAt m 1 2 / 8192 ≠ s.packPos) (htypes : flitTypes 0xE1 0xE2 m = true) (hcheck : checkOk m = true)
    (hsync : s.flag rNoseStatus 2 = true) (hpack : s.flag rNoseCtl 2 = true) (hen : s.flag rNoseCtl 0 = true)
    (hready : s.nose.ready = true) :
    searchMessage m matchIn false .good s = (s.sendMsg m).searched m matchIn ∨
      ∃ r, searchMessage m matchIn false .good s = ((s.sendMsg m).searched m matchIn).sendMsg r := by
  have hmine : (leAt m 1 2 / 8192 == s.packPos) = false := by simpa using hpos
  have hopen : (!(s.sendMsg m).flag rNoseStatus 2 || !(s.sendMsg m).flag rNoseCtl 2 || !(s.sendMsg m).nose.ready ||
      !(s.sendMsg m).flag rNoseCtl 0) = false := by simp [hsync, hpack, hen, hready]
  simp only [searchMessage, hup, hlen, htypes, hmine, hcheck, bne_self_eq_false, Bool.not_true, Bool.or_false, Bool.false_eq_true,
    ↓reduceIte, hopen, ite_self, State.noseChecked_good]
  split
  · exact .inl rfl
  · split
    · exact .inl rfl
    · exact .inr ⟨_, rfl⟩

theorem searchMessage_ends (s : State) (m : Bytes) (matchIn : Bool) (h : s.serving) (hup : s.pckUp = true) (hlen : m.length = 32)
    (hpos : leAt m 1 2 / 8192 ≠ s.packPos) (htypes : flitTypes 0xE1 0xE2 m = true) (hcheck : checkOk m = true)
    (hsync : s.flag rNoseStatus 2 = true) (hpack : s.flag rNoseCtl 2 = true) (hen : s.flag rNoseCtl 0 = true)
    (hready : s.nose.ready = true) :
    ends (exec (.searchMessage m matchIn false .good) s) fun u => m ∈ u.pack.outMsgs ∧ countsOne u s 0x10100248 ∧
      u.nose.matchOut = (matchIn || (s.messageSearch m).1.found) := by
  have hcount : ((s.sendMsg m).searched m matchIn).c64 0x10100248 = (s.c64 0x10100248 + 1) % 2 ^ 64 := by
    rw [State.searched, State.c64_bump_same, State.setNose_c64, State.sendMsg_c64 s m _ (by decide)]
  refine State.onSv_ends s _ _ h ?_
  simp only [countsOne, State.served_pack, State.served_c64, State.served_nose]
  obtain hu | ⟨r, hu⟩ := searchMessage_other s m matchIn hup hlen hpos htypes hcheck hsync hpack hen hready <;> rw [hu]
  · exact ⟨List.mem_cons_self, hcount, rfl⟩
  · exact ⟨List.mem_cons_of_mem _ List.mem_cons_self, by rw [State.sendMsg_c64 _ r _ (by decide), hcount], rfl⟩

/-! RESULT_MESSAGE. -/

theorem resultMessage_other (s : State) (m : Bytes) (hup : s.pckUp = true) (hlen : m.length = 32)
    (hpos : leAt m 2 2 / 8192 ≠ s.packPos) (htypes : flitTypes 0xE3 0xE4 m = true) (hcheck : checkOk m = true) :
    resultMessage m s = s.sendMsg m := by
  simp [resultMessage, hup, hlen, htypes, hcheck, hpos]

/-- A good result message of the one search in progress ends it. -/
theorem resultMessage_mine (s : State) (m : Bytes) (q : PSearch) (hup : s.pckUp = true) (hlen : m.length = 32)
    (hpos : leAt m 2 2 / 8192 = s.packPos) (htypes : flitTypes 0xE3 0xE4 m = true) (hcheck : checkOk m = true)
    (hq : s.nose.psearch = [q]) (hnum : q.num = leAt m 2 2 % 8192) :
    resultMessage m s = s.psearchResult q (leAt m 8 8) (leAt m 17 8) := by
  have hof : s.psearchOf m 2 = some q := by simp [State.psearchOf, hpos, hq, hnum]
  simp [resultMessage, hup, hlen, htypes, hcheck, hpos, hof]

theorem State.psearchDone_psearch (s : State) (q : PSearch) (hq : s.nose.psearch = [q]) : (s.psearchDone q).nose.psearch = [] := by
  simp [State.psearchDone, hq]

theorem State.psearchDone_noseOwes (s : State) (q : PSearch) (t : Nat) (hq : s.nose.psearch = [q]) (hreqs : s.nose.reqs = [])
    (hseq : s.nose.seqn = none) (hwide : s.nose.wide = none) : (s.psearchDone q).noseOwes t = false := by
  simp [State.noseOwes, State.psearchDone, hq, hreqs, hseq, hwide]

theorem resultMessage_mine_ends (s : State) (m : Bytes) (q : PSearch) (h : s.serving) (hup : s.pckUp = true) (hlen : m.length = 32)
    (hpos : leAt m 2 2 / 8192 = s.packPos) (htypes : flitTypes 0xE3 0xE4 m = true) (hcheck : checkOk m = true)
    (hreqs : s.nose.reqs = []) (hseq : s.nose.seqn = none) (hwide : s.nose.wide = none) (hframe : q.frame = none)
    (hsleep : (s.th q.thread).sleep = .nose q.rd) (hq : s.nose.psearch = [q]) (hnum : q.num = leAt m 2 2 % 8192) (h0 : q.rd ≠ 0)
    (h31 : q.rd < 31) :
    ends (exec (.resultMessage m) s) fun u => u.nose.psearch = [] ∧ (u.th q.thread).g q.rd = BitVec.ofNat 64 (leAt m 8 8) ∧
      (u.th q.thread).g (q.rd + 1) = BitVec.ofNat 64 (leAt m 17 8) ∧ (u.th q.thread).sleep = .awake := by
  refine State.onSv_ends s _ _ h ?_
  simp only [State.served_nose, State.served_th]
  rw [resultMessage_mine s m q hup hlen hpos htypes hcheck hq hnum, State.psearchResult, hframe]
  have hpos := Nat.pos_of_ne_zero h0
  exact ⟨s.psearchDone_psearch q hq, State.nosePair_first _ _ _ _ _ hpos h31, State.nosePair_second _ _ _ _ _ hpos h31,
    State.nosePair_wakes _ _ _ _ _ _ hsleep (s.psearchDone_noseOwes q _ hq hreqs hseq hwide)⟩

/-! PACK_RESULT_TIMEOUT. -/

theorem packResultTimeout_first_ends (s : State) (q : PSearch) (num : BitVec 13) (h : s.serving) (hq : s.nose.psearch = [q])
    (hnum : q.num = num.toNat) (hagain : q.again = false) :
    ends (exec (.packResultTimeout num) s) fun u =>
      u.nose.psearch = [{ q with again := true }] ∧ u.pack.outMsgs.length = s.pack.outMsgs.length + 1 := by
  change ends (execPackResultTimeout num s) _
  refine State.onSv_ends s _ _ h ?_
  simp [hq, hnum, hagain, State.psearchRetry, State.psearchSend]

/-- Settles O24: a search message of another member is relayed and searched, a result message goes on or ends the one search it
answers, and the first time-out sends the search again. -/
theorem packSearchResults : Obligations.PackSearchResults := by
  unfold Obligations.PackSearchResults
  refine ⟨searchMessage_ends, fun s m h hup hlen hpos htypes hcheck => State.onSv_ends s _ _ h ?_, resultMessage_mine_ends,
    packResultTimeout_first_ends⟩
  rw [State.served_pack, resultMessage_other s m hup hlen hpos htypes hcheck, State.sendMsg_outMsgs]

end Sys2Proof.Machine
end

section
/-! PROOFS. The Nose's own commands (O20): the slot that goes to the one waiting request (R162), what each granted request does, and
the commands beside the slots (R152, R175 to R177, R188). -/
namespace Sys2Proof.Machine

/-! The pick of a slot among one request (R162). -/

/-- A request that a slot goes to before the re-space walk: its class is 3 or 4, and it is no wide search (Table 4-7). -/
def NReq.early (r : NReq) : Prop := r.isWide = false ∧ (r.cls = 3 ∨ r.cls = 4)

theorem NReq.early_update (r : NReq) (h : r.isUpdate = true) : r.early := by
  simp only [NReq.isUpdate] at h
  split at h <;> simp_all [NReq.early, NReq.isWide, NReq.cls, NReq.slotless]

theorem NReq.early_searchPlain (r : NReq) (m v : Nat) (hop : r.op = .search m v) (hm : isPlainMask m = true) : r.early := by
  cases hp : r.promoted <;> simp [NReq.early, NReq.isWide, NReq.cls, NReq.slotless, hop, hm, hp]

theorem pickReq_none (r : NReq) (c last : Nat) (h : r.cls ≠ c) : pickReq [r] c last = none := by
  simp [pickReq, h]

/-- The round-robin order reaches every port. -/
theorem pickReq_single (r : NReq) (last : Nat) (hport : r.port < 8) : pickReq [r] r.cls last = some r := by
  have hturn : ∃ i < 8, (last + 1 + i) % 8 = r.port := ⟨(r.port + 8 - (last + 1) % 8) % 8, Nat.mod_lt _ (by omega), by omega⟩
  obtain ⟨i, hi, hturn⟩ := hturn
  cases hpick : pickReq [r] r.cls last with
  | none =>
    simp only [pickReq, List.findSome?_eq_none_iff, List.mem_map, List.mem_range] at hpick
    simpa using hpick r.port ⟨i, hi, hturn⟩
  | some x =>
    obtain ⟨p, -, hx⟩ := List.exists_of_findSome?_eq_some hpick
    rw [List.mem_singleton.1 (List.mem_of_find?_eq_some hx)]

/-- The one request, not a wide search, of a Nose that has nothing under way. -/
theorem State.grantable_single (s : State) (r : NReq) (hreqs : s.nose.reqs = [r]) (hseq : s.nose.seqn = none) (hwide : s.nose.wide = none)
    (hps : s.nose.psearch = []) (hw : r.isWide = false) : s.grantable = [r] := by
  simp [State.grantable, State.firstOf, hreqs, hseq, hwide, hps, hw]

/-- The classes that a slot goes to before the re-space walk. -/
theorem State.pick_single (s : State) (r : NReq) (hg : s.grantable = [r]) (hport : r.port < 8) (he : r.early) :
    (s.pickClass 3).or ((s.pickClass 4).or (s.pickClass 5)) = some r := by
  have hpick : s.pickClass r.cls = some r := by rw [State.pickClass, hg, pickReq_single r _ hport]
  obtain ⟨-, h3 | h4⟩ := he
  · rw [h3] at hpick; rw [hpick, Option.some_or]
  · have h3 : s.pickClass 3 = none := by rw [State.pickClass, hg, pickReq_none r 3 _ (by omega)]
    rw [h4] at hpick; rw [h3, hpick, Option.none_or, Option.some_or]

/-! The slot of a FAB cycle that nobody else has a claim on. -/

/-- The state in which a granted request is performed: the cycle has begun and its slot is used. -/
def State.inSlot (s : State) : State := (s.setNose s.nose.cycle).slotUsed

theorem State.slotGrant_single (s : State) (r : NReq) (hf : s.slotFree) (hr : s.onlyReq r) (he : r.early) :
    (s.setNose s.nose.cycle).slotGrant = (true, s.inSlot.grantReq r) := by
  obtain ⟨-, -, -, -, hseq, hwide, hps, hpack, hrtv, hprog⟩ := hf
  obtain ⟨hreqs, hthread, -, -⟩ := hr
  have hport : r.port < 8 := by rw [NReq.port]; omega
  have hpick := State.pick_single (s.setNose s.nose.cycle) r (State.grantable_single _ r hreqs hseq hwide hps he.1) hport he
  have hseq' : s.nose.cycle.seqn = none := hseq
  have hwide' : s.nose.cycle.wide = none := hwide
  have hpack' : s.nose.cycle.packSlots = 0 := hpack
  have hrtv' : s.nose.cycle.rtvSlots = 0 := hrtv
  have hprog' : s.nose.cycle.progSlots = 0 := hprog
  simp only [State.slotGrant, State.setNose_nose, hpack', hseq', hrtv', hwide', hprog', Nat.lt_irrefl, and_false, ↓reduceIte,
    Option.filter_none, hpick, State.inSlot]

theorem State.zeroReqs_nil (s : State) (h : s.nose.reqs = []) : s.zeroReqs = s := by
  simp only [State.zeroReqs, h, List.filter_nil, List.foldl_nil]
  rw [← h]; rfl

theorem noseSlotGrant_single (s u : State) (r : NReq) (hf : s.slotFree) (hr : s.onlyReq r) (he : r.early)
    (hu : s.inSlot.grantReq r = u) (hreqs : u.nose.reqs = []) : noseSlotGrant .good s = u := by
  have hgrant := s.slotGrant_single r hf hr he
  obtain ⟨-, hopen, hcyc, hleash, hseq, -⟩ := hf
  have hopen' : (s.setNose s.nose.cycle).noseOpen = true := hopen
  have hroom : ¬ leashSlots ((s.setNose s.nose.cycle).fld rNoseLeash 1 0) ≤ (s.setNose s.nose.cycle).nose.used := by
    simp only [State.setNose_fld, State.setNose_nose, Nose.cycle, hcyc, ↓reduceIte]; omega
  have hnotick : u.seqTick (s.setNose s.nose.cycle).nose.seqn = u := by
    simp only [State.setNose_nose, Nose.cycle, hseq, State.seqTick]
  simp only [noseSlotGrant, noseSlot, hopen', hroom, hgrant, hu, hnotick, State.zeroReqs_nil u hreqs, ite_self, Bool.not_true,
    Bool.false_eq_true, ↓reduceIte, State.noseChecked_good]

/-! What a granted request does (Table 4-6). -/

/-- The request leaves its port. -/
abbrev State.taken (s : State) (r : NReq) : State :=
  s.setNose { s.nose with reqs := removeReq s.nose.reqs r, rr := mset s.nose.rr r.cls r.port }

theorem State.mget_setCursor (s : State) (t : Nat) (c : Option Nat) : mget (s.setCursor t c).nose.cursors t = c := by
  cases c with
  | none => exact (mget_mdel _ _ _).trans (if_pos rfl)
  | some a => exact mget_mset_same _ _ _

section
variable (s : State) (r : NReq) (h0 : 0 < r.rd) (h31 : r.rd < 31)
include h0 h31

theorem State.grantReq_delete (a : Nat) (e : NEnt) (hop : r.op = .delete) (hcur : s.cursorEnt r.thread = some (a, e)) :
    let u := s.grantReq r
    u.nose.ents = mdel s.nose.ents a ∧ u.nose.reqs = s.nose.reqs.erase r ∧
      (u.th r.thread).g r.rd = BitVec.ofNat 64 (updRes a 0 0 s.packPos).word := by
  have hcur' : (s.taken r).cursorEnt r.thread = some (a, e) := hcur
  simp only [State.grantReq, hop, hcur']
  exact ⟨rfl, rfl, State.noseDone_word _ _ _ _ _ h0 h31⟩

theorem State.grantReq_adw (ad : Nat) (k : Option Nat) (a : Nat) (e : NEnt) (hop : r.op = .adw ad k)
    (hcur : s.cursorEnt r.thread = some (a, e)) :
    let u := s.grantReq r
    mget u.nose.ents a = some { e with ad := ad, kind := k.getD e.kind } ∧ u.nose.reqs = s.nose.reqs.erase r ∧
      (u.th r.thread).g r.rd = BitVec.ofNat 64 (updRes a (k.getD e.kind) 0 s.packPos).word := by
  have hcur' : (s.taken r).cursorEnt r.thread = some (a, e) := hcur
  simp only [State.grantReq, hop, hcur']
  exact ⟨mget_mset_same _ _ _, rfl, State.noseDone_word _ _ _ _ _ h0 h31⟩

theorem State.grantReq_insert (o k ad a : Nat) (hop : r.op = .insert o k ad) (hst : s.insertStatus o k = 0)
    (hplace : placeOf s.nose.ents o s.shiftMax = .at_ [] a) :
    let u := s.grantReq r
    mget u.nose.ents a = some { order := o, kind := k, ad := ad } ∧ u.nose.reqs = s.nose.reqs.erase r ∧
      mget u.nose.cursors r.thread = some a ∧ (u.th r.thread).g r.rd = BitVec.ofNat 64 (updRes a k 0 s.packPos).word := by
  have hst' : ((s.taken r).bump 0x10100208).insertStatus o k = 0 := hst
  have hplace' : placeOf ((s.taken r).bump 0x10100208).nose.ents o ((s.taken r).bump 0x10100208).shiftMax = .at_ [] a := hplace
  simp only [State.grantReq, hop, hst', hplace', ne_eq, not_true_eq_false, ↓reduceIte]
  exact ⟨mget_mset_same _ _ _, rfl, mget_mset_same _ _ _, State.noseDone_word _ _ _ _ _ h0 h31⟩

theorem State.grantReq_searchPlain (m v : Nat) (hop : r.op = .search m v) (hm : isPlainMask m = true) :
    let u := s.grantReq r
    u.nose.ents = s.nose.ents ∧ u.nose.reqs = s.nose.reqs.erase r ∧ countsOne u s 0x10100200 ∧
      (u.th r.thread).g r.rd = BitVec.ofNat 64 (searchPlain s.nose.ents m v s.packPos).1.word ∧
      mget u.nose.cursors r.thread = (searchPlain s.nose.ents m v s.packPos).2 := by
  simp only [State.grantReq, hop, hm, ↓reduceIte]
  refine ⟨rfl, rfl, State.c64_bump_same _ _ _, State.noseDone_word _ _ _ _ _ h0 h31, State.mget_setCursor _ _ _⟩

end

/-! NOSE_SLOT_GRANT (R162). -/

theorem State.inSlot_reqs (s : State) (r : NReq) (hr : s.onlyReq r) : s.inSlot.nose.reqs.erase r = [] := by
  rw [show s.inSlot.nose.reqs = [r] from hr.1, List.erase_cons_head]

theorem noseSlotGrant_ends (s : State) (r : NReq) (P : State → Prop) (hf : s.slotFree) (hr : s.onlyReq r) (he : r.early)
    (hreqs : (s.inSlot.grantReq r).nose.reqs = s.inSlot.nose.reqs.erase r)
    (hP : P (s.served (s.inSlot.grantReq r))) : ends (exec (.noseSlotGrant .good) s) P := by
  refine State.onSv_ends s _ _ hf.1 ?_
  rw [noseSlotGrant_single s _ r hf hr he rfl (hreqs.trans (s.inSlot_reqs r hr))]
  exact hP

theorem noseSlotGrant_request_ends (s : State) (r : NReq) (hf : s.slotFree) (hr : s.onlyReq r) :
    (∀ a e, r.op = .delete → s.cursorEnt r.thread = some (a, e) →
      ends (exec (.noseSlotGrant .good) s) fun u => u.nose.ents = mdel s.nose.ents a ∧ u.nose.reqs = [] ∧
        (u.th r.thread).g r.rd = BitVec.ofNat 64 (updRes a 0 0 s.packPos).word) ∧
    (∀ ad k a e, r.op = .adw ad k → s.cursorEnt r.thread = some (a, e) →
      ends (exec (.noseSlotGrant .good) s) fun u => mget u.nose.ents a = some { e with ad := ad, kind := k.getD e.kind } ∧ u.nose.reqs = [] ∧
        (u.th r.thread).g r.rd = BitVec.ofNat 64 (updRes a (k.getD e.kind) 0 s.packPos).word) ∧
    (∀ o k ad a, r.op = .insert o k ad → s.insertStatus o k = 0 → placeOf s.nose.ents o s.shiftMax = .at_ [] a →
      ends (exec (.noseSlotGrant .good) s) fun u => mget u.nose.ents a = some { order := o, kind := k, ad := ad } ∧ u.nose.reqs = [] ∧
        mget u.nose.cursors r.thread = some a ∧ (u.th r.thread).g r.rd = BitVec.ofNat 64 (updRes a k 0 s.packPos).word) ∧
    (∀ m v, r.op = .search m v → isPlainMask m = true →
      ends (exec (.noseSlotGrant .good) s) fun u => u.nose.ents = s.nose.ents ∧ u.nose.reqs = [] ∧ countsOne u s 0x10100200 ∧
        (u.th r.thread).g r.rd = BitVec.ofNat 64 (searchPlain s.nose.ents m v s.packPos).1.word ∧
        mget u.nose.cursors r.thread = (searchPlain s.nose.ents m v s.packPos).2) := by
  have ⟨_, _, h0, h31⟩ := hr
  have hempty := s.inSlot_reqs r hr
  refine ⟨fun a e hop hcur => ?delete, fun ad k a e hop hcur => ?adw, fun o k ad a hop hst hplace => ?insert, fun m v hop hm => ?search⟩
  case delete =>
    obtain ⟨hents, hreqs, hword⟩ := s.inSlot.grantReq_delete r h0 h31 a e hop hcur
    refine noseSlotGrant_ends s r _ hf hr (r.early_update (by simp [NReq.isUpdate, hop])) hreqs ?_
    simp only [State.served_nose, State.served_th]
    exact ⟨hents, hreqs.trans hempty, hword⟩
  case adw =>
    obtain ⟨hent, hreqs, hword⟩ := s.inSlot.grantReq_adw r h0 h31 ad k a e hop hcur
    refine noseSlotGrant_ends s r _ hf hr (r.early_update (by simp [NReq.isUpdate, hop])) hreqs ?_
    simp only [State.served_nose, State.served_th]
    exact ⟨hent, hreqs.trans hempty, hword⟩
  case insert =>
    obtain ⟨hent, hreqs, hcur, hword⟩ := s.inSlot.grantReq_insert r h0 h31 o k ad a hop hst hplace
    refine noseSlotGrant_ends s r _ hf hr (r.early_update (by simp [NReq.isUpdate, hop])) hreqs ?_
    simp only [State.served_nose, State.served_th]
    exact ⟨hent, hreqs.trans hempty, hcur, hword⟩
  case search =>
    obtain ⟨hents, hreqs, hcount, hword, hcur⟩ := s.inSlot.grantReq_searchPlain r h0 h31 m v hop hm
    refine noseSlotGrant_ends s r _ hf hr (r.early_searchPlain m v hop hm) hreqs ?_
    simp only [State.served_nose, State.served_th, countsOne, State.served_c64]
    exact ⟨hents, hreqs.trans hempty, hcount, hword, hcur⟩

/-! The commands beside the slots. -/

theorem promoteFirst_append (pre post : List NReq) (r : NReq) (hpre : ∀ x ∈ pre, x.promoted = true) (hr : r.promoted = false) :
    promoteFirst (pre ++ r :: post) = pre ++ { r with promoted := true } :: post := by
  induction pre with
  | nil => simp [promoteFirst, hr]
  | cons x pre ih =>
    rw [List.cons_append, promoteFirst, if_pos (hpre x List.mem_cons_self), ih fun y hy => hpre y (List.mem_cons_of_mem _ hy)]
    rfl

/-- The level lies below the temperature's field. -/
theorem State.setLeash_temp (s : State) (lvl : Nat) : (s.setLeash lvl).fld rNoseLeash 15 8 = s.fld rNoseLeash 15 8 := by
  simp only [State.setLeash]
  split
  · rfl
  · rw [State.svEvent_fld, State.fld_setFld_apart _ _ _ _ _ _ _ (by decide) (by decide)]

theorem leashSample_temp (s : State) (temp : BitVec 8) : (leashSample temp s).fld rNoseLeash 15 8 = temp.toNat := by
  rw [leashSample, State.setLeash_temp, State.setNose_fld, State.fld_setFld_same _ _ _ _ _ (by decide)]
  exact Nat.mod_eq_of_lt temp.isLt

theorem handoffCursorExpiry_ends (s : State) (id : Fin 64) (h : s.serving) (hid : ∃ c ∈ s.nose.hcurs, c.id = id.val) :
    ends (exec (.handoffCursorExpiry id) s) fun u => (∀ c ∈ u.nose.hcurs, c.id ≠ id.val) ∧ countsOne u s 0x10200408 := by
  have hany : s.nose.hcurs.any (·.id = id.val) = true := by simpa using hid
  refine State.onSv_ends s _ _ h ?_
  simp only [handoffExpiry, hany, ↓reduceIte, countsOne, State.served_c64, State.c64_bump_same, State.setNose_c64, and_true]
  intro c hc
  simpa using (List.mem_filter.1 hc).2

theorem slotRequestPromote_ends (s : State) (pre post : List NReq) (r : NReq) (h : s.serving) (hreqs : s.nose.reqs = pre ++ r :: post)
    (hpre : ∀ x ∈ pre, x.promoted = true) (hr : r.promoted = false) :
    ends (exec .slotRequestPromote s) fun u => u.nose.reqs = pre ++ { r with promoted := true } :: post := by
  change ends (execSlotRequestPromote s) _
  refine State.onSv_ends s _ _ h ?_
  rw [State.served_nose, State.setNose_nose, hreqs, promoteFirst_append pre post r hpre hr]

theorem noseInitComplete_ends (s : State) (h : s.serving) :
    ends (exec .noseInitComplete s) fun u => u.nose.ready = true ∧ u.flag rNoseStatus 0 = true := by
  change ends (execNoseInitComplete s) _
  refine State.onSv_ends s _ _ h ⟨rfl, ?_⟩
  rw [State.served_flag, State.flag_setFlag _ _ _ _ _ (by decide), if_pos rfl]

/-- Settles O20: the granted slot performs the one request, and each command beside the slots has its effect. -/
theorem noseCommandResults : Obligations.NoseCommandResults := by
  unfold Obligations.NoseCommandResults
  exact ⟨noseSlotGrant_request_ends, slotRequestPromote_ends, fun s h => State.onSv_ends s _ _ h rfl,
    fun s h => State.onSv_ends s _ _ h ⟨State.c64_bump_same _ _ _, rfl, rfl⟩,
    fun s temp h => State.onSv_ends s _ _ h (leashSample_temp s temp), handoffCursorExpiry_ends, noseInitComplete_ends⟩

end Sys2Proof.Machine
end

section
/-! PROOFS. The pack link (O23): frames passed on, HELLO and training, presence, bring-up, loss of a lane and of PACK_SYNC, and the
versions of an absent member (R183, R194, R197, R200 to R202). -/
namespace Sys2Proof.Machine

theorem State.packPos_lt (s : State) : s.packPos < 8 := bits_lt _ _ 3

/-! Frames out. -/

/-- While the transmitters run a frame joins those sent. -/
theorem State.linkSend_on (s : State) (f : LFrame) (h : s.flag rPckCtl 0 = true) :
    s.linkSend f = (s.setPack { s.pack with out := f :: s.pack.out }).bump 0x10800100 := if_pos h

theorem State.pckUp_ctl (s : State) (h : s.pckUp = true) : s.flag rPckCtl 0 = true := (Bool.and_eq_true_iff.1 h).1

theorem linkRelay_other (s : State) (f : LFrame) (hup : s.pckUp = true) (hsrc : f.src ≠ s.packPos) (hdst : f.dst ≠ s.packPos)
    (hb : f.bcast = false) : linkRelay f s = s.relayFrame f := by
  simp [linkRelay, hup, hsrc, hdst, hb]

theorem State.relayFrame_out (s : State) (f : LFrame) (h : s.flag rPckCtl 0 = true) :
    (s.relayFrame f).pack.out = f :: s.pack.out ∧ (s.relayFrame f).mem = s.mem ∧ (s.relayFrame f).ks = s.ks := by
  rw [State.relayFrame]
  split
  · rw [State.linkSend_on _ _ (by exact h)]; exact ⟨rfl, rfl, rfl⟩
  · rw [State.linkSend_on _ _ h]; exact ⟨rfl, rfl, rfl⟩

/-! HELLO, and a round of TRAIN with it (R200). -/

/-- The data of this member's HELLO. -/
def State.helloData (s : State) : Bytes :=
  leBytes 2 (selfId s.cfg.active) ++ leBytes 1 s.packPos ++ leBytes 1 (packN s.cfg.active) ++ leBytes 4 s.packDigest ++
    leBytes 4 s.cfg.active.epoch ++ zeros 4

theorem State.helloData_position (s : State) : byteAt s.helloData 2 = s.packPos := by
  have h := s.packPos_lt
  have hbyte : byteAt s.helloData 2 = (BitVec.ofNat 8 s.packPos).toNat := rfl
  rw [hbyte, BitVec.toNat_ofNat]; omega

def State.helloFrame (s : State) : LFrame :=
  { typ := 0x0A, resp := false, bcast := true, dst := 0, src := s.packPos, tag := 0, arg := 0, data := s.helloData, crcBad := false }

/-- The state after HELLO alone. -/
def State.helloSent (s : State) : State := (s.setPack { s.pack with out := s.helloFrame :: s.pack.out }).bump 0x10800100

theorem helloSend_up (s : State) (hup : s.pckUp = true) : helloSend s = s.helloSent.trainRound := by
  simp only [helloSend, hup, Bool.not_true, Bool.false_eq_true, ↓reduceIte, State.linkCast, State.linkSend_on _ _ (s.pckUp_ctl hup)]
  rfl

theorem helloSend_ends (s : State) (h : s.serving) (hup : s.pckUp = true)
    (hno : s.ringUp = true → s.flag rPckCtl 1 = true → s.flag rPckStatus 6 = true) :
    ends (exec .helloSend s) fun u => ∃ q ∈ u.pack.out, u.pack.out = q :: s.pack.out ∧ q.typ = 0x0A ∧ q.bcast = true ∧ q.src = s.packPos ∧
      byteAt q.data 2 = s.packPos := by
  have hstays : s.helloSent.trainRound = s.helloSent := by
    refine if_pos ?_
    change (!(s.ringUp && s.flag rPckCtl 1) || s.flag rPckStatus 6) = true
    cases hr : s.ringUp <;> cases ht : s.flag rPckCtl 1 <;> simp_all
  refine State.onSv_ends s _ _ h ?_
  rw [State.served_pack, helloSend_up s hup, hstays]
  exact ⟨s.helloFrame, List.mem_cons_self, rfl, rfl, rfl, rfl, s.helloData_position⟩

/-- The TRAIN frame of a lane, in a Pack of `n`: steps for its taps, drawn. -/
def State.sendTrain (n : Nat) (s : State) (lane : Nat) : State :=
  (s.drawBytes 3).2.linkSend { typ := 0x0B, resp := false, bcast := false, dst := (s.packPos + n - 1) % n, src := s.packPos, tag := 0,
                               arg := lane, data := (s.drawBytes 3).1 ++ zeros 1, crcBad := false }

theorem State.sendTrain_rd (n : Nat) (s : State) (lane a : Nat) : (s.sendTrain n lane).rd a = s.rd a := by
  rw [State.sendTrain, State.linkSend]; split <;> rfl

theorem State.sendTrain_pack (n : Nat) (s : State) (lane : Nat) (h : s.flag rPckCtl 0 = true) :
    ∃ q : LFrame, (q.typ = 0x0B ∧ q.src = s.packPos) ∧ (s.sendTrain n lane).pack = { s.pack with out := q :: s.pack.out } := by
  have hon : (s.drawBytes 3).2.flag rPckCtl 0 = true := h
  rw [State.sendTrain, State.linkSend_on _ _ hon]
  exact ⟨_, ⟨rfl, rfl⟩, rfl⟩

theorem State.sendTrains_pack (n : Nat) (lanes : List Nat) (s : State) (h : s.flag rPckCtl 0 = true) :
    ∃ fs : List LFrame, fs.length = lanes.length ∧ (∀ q ∈ fs, q.typ = 0x0B ∧ q.src = s.packPos) ∧
      (lanes.foldl (State.sendTrain n) s).pack = { s.pack with out := fs ++ s.pack.out } := by
  induction lanes generalizing s with
  | nil => exact ⟨[], rfl, nofun, rfl⟩
  | cons lane lanes ih =>
    obtain ⟨q, hq, hpack⟩ := s.sendTrain_pack n lane h
    have hon : (s.sendTrain n lane).flag rPckCtl 0 = true := by rw [State.flag, State.sendTrain_rd]; exact h
    have hpos : (s.sendTrain n lane).packPos = s.packPos := by rw [State.packPos, State.fld, State.sendTrain_rd]; rfl
    obtain ⟨fs, hlen, hfs, hout⟩ := ih (s.sendTrain n lane) hon
    refine ⟨fs ++ [q], by simp [hlen], fun x hx => ?_, ?_⟩
    · obtain hx | hx := List.mem_append.1 hx
      · exact hpos ▸ hfs x hx
      · exact List.mem_singleton.1 hx ▸ hq
    · rw [List.foldl_cons, hout, hpack, List.append_assoc]; rfl

theorem State.trainRound_goes (s : State) (hgoes : ¬ ((!(s.ringUp && s.flag rPckCtl 1) || s.flag rPckStatus 6) = true))
    (hr : s.pack.trainRounds < 32) :
    let u := [0, 1, 2, 3].foldl (State.sendTrain (max (packN s.cfg.active) 1)) s
    s.trainRound = u.setPack { u.pack with trainRounds := u.pack.trainRounds + 1 } := by
  rw [State.trainRound, if_neg hgoes, if_neg (Nat.not_le.2 hr)]
  rfl

/-- A round while training goes on (log entry 47). -/
theorem State.trainRound_pack (s : State) (hctl : s.flag rPckCtl 0 = true) (hring : s.ringUp = true) (hen : s.flag rPckCtl 1 = true)
    (hnot : s.flag rPckStatus 6 = false) (hr : s.pack.trainRounds < 32) :
    ∃ fs : List LFrame, fs.length = 4 ∧ (∀ q ∈ fs, q.typ = 0x0B ∧ q.src = s.packPos) ∧
      s.trainRound.pack = { s.pack with out := fs ++ s.pack.out, trainRounds := s.pack.trainRounds + 1 } := by
  obtain ⟨fs, hlen, hfs, hpack⟩ := s.sendTrains_pack (max (packN s.cfg.active) 1) [0, 1, 2, 3] hctl
  have hgoes : ¬ ((!(s.ringUp && s.flag rPckCtl 1) || s.flag rPckStatus 6) = true) := by simp [hring, hen, hnot]
  refine ⟨fs, hlen, hfs, ?_⟩
  rw [s.trainRound_goes hgoes hr, State.setPack_pack, hpack]

theorem helloSend_train_ends (s : State) (h : s.serving) (hup : s.pckUp = true) (hring : s.ringUp = true) (hen : s.flag rPckCtl 1 = true)
    (hnot : s.flag rPckStatus 6 = false) (hr : s.pack.trainRounds < 32) :
    ends (exec .helloSend s) fun u => u.pack.out.length = s.pack.out.length + 5 ∧
      (∀ q ∈ u.pack.out.take 4, q.typ = 0x0B ∧ q.src = s.packPos) ∧ u.pack.trainRounds = s.pack.trainRounds + 1 := by
  obtain ⟨fs, hlen, hfs, hpack⟩ := s.helloSent.trainRound_pack (s.pckUp_ctl hup) hring hen hnot hr
  refine State.onSv_ends s _ _ h ?_
  rw [State.served_pack, helloSend_up s hup, hpack]
  refine ⟨?_, fun q hq => hfs q ?_, rfl⟩
  · simp [State.helloSent, hlen]; omega
  · rwa [← hlen, List.take_left] at hq

/-! Presence (R201). -/

theorem State.memberPresent_eq (s : State) (p : Nat) : s.memberPresent p = (decide (p < 8) && s.flag rPckStatus (16 + p)) := by
  rw [State.memberPresent, State.fld, bit_eq_testBit, testBit_bits, State.flag, bit_eq_testBit]

/-- The PRESENT bits lie above the link's own. -/
theorem State.memberPresent_setFlag_low (s : State) (i p : Nat) (b : Bool) (hi : i < 16) :
    (s.setFlag rPckStatus i b).memberPresent p = s.memberPresent p := by
  rw [State.memberPresent_eq, State.memberPresent_eq]
  by_cases hp : p < 8
  · rw [State.flag_setFlag _ _ _ _ _ (by omega), if_neg (by omega)]
  · simp [hp]

theorem State.memberPresent_setPresent (s : State) (p : Nat) (b : Bool) (hp : p < 8) : (s.setPresent p b).memberPresent p = b := by
  rw [State.memberPresent_eq, State.setPresent, State.flag_setFlag _ _ _ _ _ (by omega), if_pos rfl, decide_eq_true hp, Bool.true_and]

theorem State.absent_of_absent (s : State) (r : Nat) (h : s.memberPresent r = false) : s.absent r = s := by
  simp [State.absent, h]

theorem State.absent_memberPresent (s : State) (r : Nat) (h : s.memberPresent r = true) (hr : r < 8) :
    (s.absent r).memberPresent r = false := by
  rw [State.absent, if_pos h, State.packAbsentEvent, State.memberPresent, State.svEvent_fld, State.setPack_fld]
  exact s.memberPresent_setPresent r false hr

theorem helloTimeout_ends (s : State) (pos : Fin 8) (h : s.serving) (hpos : pos.val ≠ s.packPos) (hp : s.memberPresent pos.val = true) :
    ends (exec (.helloTimeout pos) s) fun u => u.memberPresent pos.val = false := by
  change ends (execHelloTimeout pos s) _
  refine State.onSv_ends s _ _ h ?_
  rw [State.memberPresent, State.served_fld, if_neg hpos]
  exact s.absent_memberPresent pos.val hp pos.isLt

theorem State.absents_of_absent (s : State) (l : List Nat) (h : ∀ r ∈ l, s.memberPresent r = false) : l.foldl State.absent s = s := by
  induction l with
  | nil => rfl
  | cons r l ih =>
    rw [List.foldl_cons, s.absent_of_absent r (h r List.mem_cons_self), ih fun x hx => h x (List.mem_cons_of_mem _ hx)]

/-- A member that has lost every other one already, with no frame at hand, loses no more. -/
theorem State.ringLost_alone (s : State) (h : ∀ r ∈ s.others, s.memberPresent r = false) (hf : s.ft.frames = []) : s.ringLost = s := by
  simp only [State.ringLost, s.absents_of_absent s.others h, hf, List.foldl_nil, ite_self]

/-! Bring-up (R200, Table 4-22). -/

theorem packEnable_links (s : State) (hn : 2 ≤ packN s.cfg.active) (hpos : s.packPos < packN s.cfg.active) (hstep : 4 ≤ s.power.step) :
    (packEnable s).flag rPckCtl 0 = true ∧ (packEnable s).fld rPckStatus 6 0 = 0 ∧ (packEnable s).pack.heard = [] ∧
      (packEnable s).pack.ownHello = false := by
  have hin : ¬ (packN s.cfg.active < 2 ∨ packN s.cfg.active ≤ s.packPos ∨ s.power.step < 4) := by omega
  rw [packEnable, if_neg hin]
  refine ⟨?_, ?_, rfl, rfl⟩
  · rw [State.setPack_flag, State.flag_setFld_other _ _ _ _ _ _ _ (by decide), State.flag_setFlag _ _ _ _ _ (by decide), if_pos rfl]
  · rw [State.setPack_fld]
    exact (State.fld_setFld_same _ _ _ _ _ (by decide)).trans (Nat.zero_mod _)

theorem packAligned_up (s : State) (h : s.flag rPckCtl 0 = true) :
    (packAligned s).pckUp = true ∧ (packAligned s).memberPresent s.packPos = true := by
  rw [packAligned, if_pos h]
  refine ⟨?_, State.memberPresent_setPresent _ _ _ s.packPos_lt⟩
  rw [State.pckUp, State.setPresent, State.flag_setFlag_other _ _ _ _ _ _ (by decide), State.flag_setFlag_other _ _ _ _ _ _ (by decide),
    State.flag_setFld_other _ _ _ _ _ _ _ (by decide), h, State.flag_setFlag _ _ _ _ _ (by decide), if_neg (by omega),
    State.flag_setFlag _ _ _ _ _ (by decide), if_pos rfl, Bool.true_and]

/-- Events of absence leave registers, sets and mode as they were. -/
theorem State.packAbsentEvents_keeps (s : State) (l : List Nat) :
    let u := l.foldl State.packAbsentEvent s
    u.cfg = s.cfg ∧ u.packPos = s.packPos ∧ u.power = s.power := by
  induction l generalizing s with
  | nil => exact ⟨rfl, rfl, rfl⟩
  | cons r l ih =>
    obtain ⟨hcfg, hpos, hpower⟩ := ih (s.packAbsentEvent r)
    exact ⟨hcfg.trans (s.svEvent_cfg _ _ _), hpos.trans (s.svEvent_fld _ _ _ _ _ _), hpower.trans (s.svEvent_power _ _ _)⟩

theorem packUpTimeout_ends (s : State) (h : s.serving) (hctl : s.flag rPckCtl 0 = true) (hring : s.ringUp = false)
    (hn : 2 ≤ packN s.cfg.active) (hpos : s.packPos < packN s.cfg.active) (hstep : 4 ≤ s.power.step) :
    ends (exec .packUpTimeout s) fun u => u.fld rPckStatus 6 0 = 0 ∧ u.pack.heard = [] := by
  refine State.onSv_ends s _ _ h ?_
  simp only [State.served_fld, State.served_pack, packUpTimeout, hctl, hring, Bool.not_true, Bool.or_self, Bool.false_eq_true, ↓reduceIte]
  obtain ⟨hcfg, hpos', hpower⟩ := s.packAbsentEvents_keeps (s.others.filter fun r => !s.pack.heard.contains r)
  obtain ⟨-, hstatus, hheard, -⟩ := packEnable_links (List.foldl State.packAbsentEvent s _) (by rwa [hcfg])
    (by rwa [hcfg, hpos']) (by rwa [hpower])
  exact ⟨hstatus, hheard⟩

/-! Losses (R194, R183). -/

/-- The lane's lock, ALIGNED and RING_UP are gone. -/
def State.unlocked (s : State) (lane : Nat) : State :=
  ((s.setFlag rPckStatus lane false).setFlag rPckStatus 4 false).setFlag rPckStatus 5 false

/-- The same with the loss counted and the member's own HELLO forgotten. -/
def State.laneDown (s : State) (lane : Nat) : State :=
  let u := (s.unlocked lane).bump 0x10800138
  u.setPack { u.pack with ownHello := false }

theorem State.laneDown_flag (s : State) (lane i : Nat) (hi : i < 32) :
    (s.laneDown lane).flag rPckStatus i = if i = 5 ∨ i = 4 ∨ i = lane then false else s.flag rPckStatus i := by
  have hflag : (s.laneDown lane).flag rPckStatus i = (s.unlocked lane).flag rPckStatus i := rfl
  rw [hflag, State.unlocked, State.flag_setFlag _ _ _ _ _ hi, State.flag_setFlag _ _ _ _ _ hi, State.flag_setFlag _ _ _ _ _ hi]
  by_cases h5 : i = 5 <;> by_cases h4 : i = 4 <;> by_cases hl : i = lane <;> simp [h5, h4, hl]

theorem State.laneDown_memberPresent (s : State) (lane p : Nat) (hl : lane < 16) : (s.laneDown lane).memberPresent p = s.memberPresent p := by
  have hmem : (s.laneDown lane).memberPresent p = (s.unlocked lane).memberPresent p := rfl
  rw [hmem, State.unlocked, State.memberPresent_setFlag_low _ _ _ _ (by omega), State.memberPresent_setFlag_low _ _ _ _ (by omega),
    State.memberPresent_setFlag_low _ _ _ _ hl]

theorem State.laneDown_others (s : State) (lane : Nat) : (s.laneDown lane).others = s.others := by
  have hpos : (s.laneDown lane).packPos = s.packPos := by
    have hfld : (s.laneDown lane).packPos = (s.unlocked lane).fld 0x10000014 2 0 := rfl
    rw [hfld, State.unlocked, State.fld_setFlag_other _ _ _ _ _ _ _ (by decide), State.fld_setFlag_other _ _ _ _ _ _ _ (by decide),
      State.fld_setFlag_other _ _ _ _ _ _ _ (by decide), State.packPos]
  rw [State.others, hpos]; rfl

theorem packLaneLockLost_ends (s : State) (lane : Fin 4) (h : s.serving) (hctl : s.flag rPckCtl 0 = true)
    (hlock : s.flag rPckStatus lane = true) (halone : ∀ r ∈ s.others, s.memberPresent r = false) (hf : s.ft.frames = []) :
    ends (exec (.packLaneLockLost lane) s) fun u => u.flag rPckStatus lane = false ∧ u.pckUp = false ∧ u.flag rPckStatus 5 = false ∧
      countsOne u s 0x10800138 := by
  have hlane := lane.isLt
  have hdown : laneLost lane.val s = s.laneDown lane := by
    have hlost : laneLost lane.val s = (s.laneDown lane).ringLost := by simp only [laneLost, hctl, hlock]; rfl
    rw [hlost, State.ringLost_alone _ (fun r hr => ?_) (by exact hf)]
    rw [State.laneDown_memberPresent s lane r (by omega)]
    exact halone r (s.laneDown_others lane ▸ hr)
  refine State.onSv_ends s _ _ h ?_
  rw [hdown]
  simp only [State.pckUp, countsOne, State.served_flag, State.served_c64, s.laneDown_flag lane _ (by omega : lane.val < 32),
    s.laneDown_flag lane 4 (by decide), s.laneDown_flag lane 5 (by decide), true_or, or_true, ↓reduceIte, Bool.and_false, true_and]
  exact State.c64_bump_same _ _ _

theorem packSyncLoss_ends (s : State) (h : s.serving) (hsync : s.flag rNoseStatus 2 = true)
    (halone : ∀ r ∈ s.others, s.memberPresent r = false) (hf : s.ft.frames = []) :
    ends (exec .packSyncLoss s) fun u => u.flag rNoseStatus 2 = false := by
  have hpos : (s.setFlag rNoseStatus 2 false).packPos = s.packPos := State.fld_setFlag_other _ _ _ _ _ _ _ (by decide)
  have hothers : (s.setFlag rNoseStatus 2 false).others = s.others := by rw [State.others, hpos]; rfl
  have hlost : (s.setFlag rNoseStatus 2 false).ringLost = s.setFlag rNoseStatus 2 false := by
    refine State.ringLost_alone _ (fun r hr => ?_) hf
    rw [State.memberPresent, State.fld_setFlag_other _ _ _ _ _ _ _ (by decide)]
    exact halone r (hothers ▸ hr)
  change ends (execPackSyncLoss s) _
  refine State.onSv_ends s _ _ h ?_
  rw [State.served_flag, if_pos hsync, hlost, State.flag_setFlag _ _ _ _ _ (by decide), if_pos rfl]

theorem packSyncPulse_ends (s : State) (h : s.serving) :
    ends (exec .packSyncPulse s) fun u => u.nose.slotCtr = 0 ∧ u.flag rNoseStatus 2 = true ∧ u.nose.syncOut = (s.packPos == 0) := by
  change ends (execPackSyncPulse s) _
  refine State.onSv_ends s _ _ h ⟨rfl, ?_, rfl⟩
  rw [State.served_flag, State.flag_setFlag _ _ _ _ _ (by decide), if_pos rfl]

/-! Versions of an absent member (R202): what a burn leaves of those granted. -/

theorem State.nsOf_setNs (s : State) (ns k : Nat) (n : NsState) : (s.setNs ns n).nsOf k = if k = ns then n else s.nsOf k := by
  simp only [State.nsOf, State.setNs, State.setKs_ks, mgetD, mget_mset]
  split <;> rfl

theorem State.nsOf_of_ns (s u : State) (h : u.ks.ns = s.ks.ns) (k : Nat) : u.nsOf k = s.nsOf k := by rw [State.nsOf, h, State.nsOf]

/-- Namespaces' versions granted to members are those of `s`. -/
def State.sameGranted (s u : State) : Prop := ∀ k, (u.nsOf k).granted = (s.nsOf k).granted

theorem State.sameGranted.trans {s u v : State} (h : s.sameGranted u) (h' : u.sameGranted v) : s.sameGranted v :=
  fun k => (h' k).trans (h k)

theorem State.sameGranted_of_ns (s u : State) (h : u.ks.ns = s.ks.ns) : s.sameGranted u := fun k => by rw [s.nsOf_of_ns u h]

theorem State.setNs_sameGranted (s : State) (ns : Nat) (n : NsState) (h : n.granted = (s.nsOf ns).granted) :
    s.sameGranted (s.setNs ns n) := fun k => by
  rw [State.nsOf_setNs]
  split
  · next hk => rw [h, hk]
  · rfl

theorem State.jrnStore_ks (s : State) (r : JRec) : (s.jrnStore r).ks = s.ks := by
  rw [State.jrnStore]
  split
  · rfl
  · rw [State.setMem_ks, State.dramWr]; split <;> rfl

theorem State.jrnPush_ks (s : State) (r : JRec) : (s.jrnPush r).ks = s.ks := by
  rw [State.jrnPush]
  split
  · rw [State.jrnStore_ks]; rfl
  · rfl

theorem State.jrnAdd_ks (s : State) (r : JRec) : (s.jrnAdd r).2.ks = s.ks := by
  simp only [State.jrnAdd, State.jrnPush_ks]
  split
  · rfl
  · exact State.jrnPush_ks _ _

theorem State.settle_sameGranted (s : State) (ns v : Nat) : s.sameGranted (s.settle ns v) :=
  s.setNs_sameGranted ns { s.nsOf ns with unsettled := (s.nsOf ns).unsettled.erase v } rfl

theorem State.mirrorOne_ns (s : State) (v kind : Nat) (k val : Bytes) (m : Mirror) : (s.mirrorOne v kind k val m).ks.ns = s.ks.ns := by
  simp only [State.mirrorOne]
  split
  · rw [State.svEvent_ks]; rfl
  · rfl

theorem State.foldl_ns {α : Type} (f : State → α → State) (hf : ∀ s x, (f s x).ks.ns = s.ks.ns) (l : List α) (s : State) :
    (l.foldl f s).ks.ns = s.ks.ns := by
  induction l generalizing s with
  | nil => rfl
  | cons x l ih => rw [List.foldl_cons, ih, hf]

theorem State.mirrorAll_ns (s : State) (ns v kind : Nat) (k val : Bytes) : (s.mirrorAll ns v kind k val).ks.ns = s.ks.ns := by
  rw [State.mirrorAll]
  exact State.foldl_ns _ (fun u m => u.mirrorOne_ns v kind k val m) _ s

theorem State.sendOwed_sameGranted (s : State) (ns : Nat) : s.sameGranted (s.sendOwed ns) := by
  rw [State.sendOwed]
  have hsent := State.foldl_ns _ fun u (w : Nat × Nat × Bytes × Bytes) => u.mirrorAll_ns ns w.1 w.2.1 w.2.2.1 w.2.2.2
  refine State.sameGranted.trans (s.setNs_sameGranted ns _ ?_) (State.sameGranted_of_ns _ _ (hsent _ _))
  rfl

theorem State.sendSkip_sameGranted (s : State) (ns : Nat) : s.sameGranted (s.sendSkip ns) := by
  simp only [State.sendSkip]
  split
  · split
    · exact (s.setNs_sameGranted ns { s.nsOf ns with skip := none } rfl).trans (State.sameGranted_of_ns _ _ (State.mirrorAll_ns _ _ _ _ _ _))
    · exact fun _ => rfl
  · exact fun _ => rfl

theorem State.forward_sameGranted (s : State) (ns v kind : Nat) (k val : Bytes) : s.sameGranted (s.forward ns v kind k val) :=
  ((s.setNs_sameGranted ns { s.nsOf ns with unsent := (s.nsOf ns).unsent.erase v, owed := insOwed (v, kind, k, val) (s.nsOf ns).owed } rfl).trans
    (State.sendSkip_sameGranted _ ns)).trans (State.sendOwed_sameGranted _ ns)

theorem State.burn_sameGranted (s : State) (ns v : Nat) : s.sameGranted (s.burn ns v) :=
  ((s.sameGranted_of_ns _ (congrArg Keyspace.ns (s.jrnAdd_ks _))).trans (State.settle_sameGranted _ ns v)).trans
    (State.forward_sameGranted _ ns v 2 [] [])

/-- A member's one unsettled version, the namespace's only granted one, is granted no more. -/
theorem State.burnMember_granted (s : State) (pos ns v : Nat) (n : NsState) (hn : n.granted = [(pos, v)]) :
    ((s.burnMember pos (ns, n)).nsOf ns).granted = [] := by
  simp only [State.burnMember, hn, List.filter_cons, decide_true, bne_self_eq_false, Bool.false_eq_true, ↓reduceIte, List.filter_nil,
    List.foldl_cons, List.foldl_nil]
  rw [State.burn_sameGranted, State.nsOf_setNs, if_pos rfl]

theorem packAbsentBurn_ends (s : State) (pos : Fin 8) (ns v : Nat) (n : NsState) (h : s.serving) (hlead : s.leadsPack = true)
    (habsent : s.memberPresent pos.val = false) (hns : s.ks.ns = [(ns, n)]) (hn : n.granted = [(pos.val, v)]) :
    ends (exec (.packAbsentBurn pos) s) fun u => (u.nsOf ns).granted = [] := by
  change ends (execPackAbsentBurn pos s) _
  refine State.onSv_ends s _ _ h ?_
  rw [State.nsOf, State.served_ks, ← State.nsOf, hlead, habsent, hns]
  exact s.burnMember_granted pos.val ns v n hn

/-- Settles O23: the link passes frames on, comes up, trains and is lost as its commands say. -/
theorem packLinkResults : Obligations.PackLinkResults := by
  unfold Obligations.PackLinkResults
  refine ⟨fun s b f h hup hf hsrc hdst hb => State.onSv_ends s _ _ h ?_, helloSend_ends, helloSend_train_ends, helloTimeout_ends,
    fun s h hn hpos hstep => State.onSv_ends s _ _ h (packEnable_links s hn hpos hstep),
    fun s h hctl => State.onSv_ends s _ _ h (packAligned_up s hctl), packUpTimeout_ends, packLaneLockLost_ends, packAbsentBurn_ends,
    packSyncPulse_ends, packSyncLoss_ends⟩
  rw [← hf, State.served_pack, State.served_mem, State.served_ks, linkRelay_other s f hup hsrc hdst hb]
  exact s.relayFrame_out f (s.pckUp_ctl hup)

end Sys2Proof.Machine
end
